-- ==== Sys2Proof/Word.lean ====
section
/-! DEFINITION. The plainest types of the part: bytes, words, addresses, converter codes and record numbers. -/

namespace Sys2Proof

/-- A byte of common memory or of the printer line. -/
abbrev Byte := BitVec 8

/-- A 16-bit word of the host port (R1). -/
abbrev Word := BitVec 16

/-- A byte address the host presents, 0000H to 7FFFH (R1). -/
abbrev Addr := BitVec 15

/-- A converter code, 0..4095 (R114). -/
abbrev AdcCode := BitVec 12

/-- An order slot, 0..15 (R4). -/
abbrev Slot := Fin 16

/-- An account, 0..63 (R4). -/
abbrev Account := Fin 64

/-- A timer: `none` when stopped, else the lamp ticks of 50 µs left. -/
abbrev Timer := Option Nat

/-- Milliseconds as lamp ticks of 50 µs (00, Conventions). -/
def ms (n : Nat) : Nat := n * 20

end Sys2Proof
end

