-- ==== Sys2Proof/Config.lean ====
section
/-! DEFINITION. The constants the manual fixes for this part: addresses of the common-memory map, sizes, limits and timer
durations. The manual leaves no value to an implementation, so Config holds no free value. -/

namespace Sys2Proof.Config

/-! ### The common-memory map (R4) -/

/-- Size of common memory in bytes. -/
def memorySize : Nat := 0x8000
/-- Distance of two order slots, and of two roll sheets. -/
def recordStride : Nat := 0x400
/-- First byte of the roll sheets. -/
def sheets : Nat := 0x4000
/-- First byte of the account table. -/
def accounts : Nat := 0x5000
/-- First byte of the film profiles. -/
def profiles : Nat := 0x5800
/-- First byte of the price table. -/
def prices : Nat := 0x5900
/-- First byte of the label styles. -/
def styles : Nat := 0x5A00
/-- First byte of the stand settings. -/
def settings : Nat := 0x5C00
/-- First byte of the calibration record. -/
def calibration : Nat := 0x5C40
/-- First byte of the stand report. -/
def report : Nat := 0x5D00

/-! ### Limits -/

/-- The largest 24-bit amount or count (R176, R106). -/
def max24 : Nat := 16777215
/-- The largest price (R172). -/
def maxPrice : Nat := 9999
/-- The most orders of the run list that are not FINISHING (R23). -/
def runDepth : Nat := 4
/-- The most entries of the label queue (R155). -/
def labelDepth : Nat := 32
/-- The frame records of a sheet (R4). -/
def sheetFrames : Nat := 40
/-- The most reshoots of a shot (R63). -/
def maxReshoots : Nat := 2
/-- The lowest level that qualifies a calibration (R121). -/
def calibrationLevel : Nat := 96

/-! ### Durations, in lamp ticks -/

/-- The stall timer, 400 ms (R81). -/
def stallTime : Nat := ms 400
/-- The rewind timer, 40 s (R89). -/
def rewindTime : Nat := ms 40000
/-- The leader run, 2 s (R89). -/
def leaderTime : Nat := ms 2000
/-- The shutter timer, 80 ms (R86, R87). -/
def shutterTime : Nat := ms 80
/-- The carriage's homing timer and the shift timer, 3 s (R91, R55). -/
def carriageTime : Nat := ms 3000
/-- The feeder's homing timer, 4,200 ms (R94). -/
def feederHomingTime : Nat := ms 4200
/-- The move timer for a distance, 200 ms + 50 ms × distance (R50). -/
def moveTime (distance : Nat) : Nat := ms (200 + 50 * distance)
/-- The METER pulse, 400 ticks (R138). -/
def meterTicks : Nat := 400
/-- The reply timer, 2 s (R161). -/
def replyTime : Nat := ms 2000
/-- The inquiry timer, 1 s (R160). -/
def inquiryTime : Nat := ms 1000

end Sys2Proof.Config
end

