-- ==== Sys2Proof/Syntax.lean ====
section
/-! DEFINITION. The commands of the part: one constructor of `Instr` per row of spec/opcode_table.json. -/

namespace Sys2Proof

/-- The two camera backs; also the carriage's two lines, each named by the back that is in line there (R91). -/
inductive Back where
  | a
  | b
deriving DecidableEq, Repr

/-- The first (A0, B0) or the second (A1, B1) sheet of a back (R74). -/
inductive Which where
  | first
  | second
deriving DecidableEq, Repr

/-- One of the four roll sheets (R4). -/
structure Sheet where
  back : Back
  which : Which
deriving DecidableEq, Repr

/-- The four registers (R1). -/
inductive Register where
  | ident
  | notice
  | noticeEn
  | stand
deriving DecidableEq, Repr

/-- Why a received byte is discarded (R159). -/
inductive ReceiveFault where
  | framing   -- its stop bit is missing
  | overrun   -- the previous byte is still held unread
deriving DecidableEq, Repr

/-- The filtered switch levels of one back (R76). `true` is closed, but for the door, where `true` is open, and the
cassette, where `true` is present. -/
structure BackLevels where
  perforation : Bool
  doorOpen : Bool
  cassette : Bool
  filmOut : Bool
  shutterOpen : Bool
  shutterClose : Bool
deriving DecidableEq, Repr

/-- The first levels of the inputs after a power-on or line reset (R76, R96): the two backs, the lid, the feeder's home
switch, the original-present switch and the carriage's raw end switches. -/
structure InputLevels where
  backA : BackLevels
  backB : BackLevels
  lidOpen : Bool
  home : Bool
  originalPresent : Bool
  endA : Bool
  endB : Bool
deriving DecidableEq, Repr

/-- The commands. Each row of the table is one whole indivisible step of the part. -/
inductive Instr where
  -- host port and registers
  | hostMemoryWrite (addr : Addr) (value : Word)
  | noticeRead
  | noticeWrite (value : Word)
  | noticeEnWrite (value : Word)
  | run
  | hold
  | standReset
  | ignoredRegisterWrite (reg : Register) (value : Word)
  -- resets and start-up
  | standResetEnd
  | powerOnReset
  | lineReset
  | resetRelease
  | zeroingEnd (levels : InputLevels)
  -- hands, settles and takes
  | slotMarkTake
  | sheetMarkTake (sheet : Sheet)
  | settle (account : Account)
  | take
  -- shot choice and feeding
  | shotChoice
  | feederPositionPulse
  | originalPresentTest (present : Bool)
  | feederMoveTimeout
  | feederHomeSwitch
  | feederHomingTimeout
  -- metering
  | meteringScanStart
  | darkRound
  | meterPulseRequest
  | litRound
  | meteringConversion (code : AdcCode)
  | meterPulseEnd
  -- carriage
  | carriageEndSwitch (line : Back)
  | shiftTimeout
  | homingTimeout
  -- shutter and lamp
  | settleDelayEnd
  | shutterOpenCommand
  | shutterOpenSwitch (back : Back)
  | shutterOpenTimeout (back : Back)
  | lampWaitEnd
  | exposePulseEnd
  | shutterCloseSwitch (back : Back)
  | shutterCloseTimeout (back : Back)
  -- monitors
  | lidOpening
  | lidClosing
  | supplySample (code : AdcCode)
  | lampSenseSample (code : AdcCode)
  -- film transport
  | doorOpening (back : Back)
  | doorClosing (back : Back) (cassette filmOut : Bool)
  | motorStart (back : Back)
  | rampStep (back : Back)
  | perforation (back : Back)
  | stallTimeout (back : Back)
  | filmOutSwitch (back : Back)
  | leaderRunEnd (back : Back)
  | rewindTimeout (back : Back)
  -- labels and printer
  | transmissionEnd
  | replyTimeout
  | inquiryTimeout
  | ack (sequence : Byte)
  | nak (sequence : Byte)
  | readyReply
  | receiveError (fault : ReceiveFault)
  | lineBreak
  | receivedByte (byte : Byte)
  | lineReturnedToOne
deriving DecidableEq, Repr

end Sys2Proof
end

