-- ==== Sys2Proof/WellFormed.lean ====
section
/-! DEFINITION. Which commands are well formed. Operands have exact types (addresses of 15 bits, accounts and slots in
range, 12-bit codes), so the checks left are those the types do not make. -/

namespace Sys2Proof

/-- A write that the table calls ignored goes to IDENT or to STAND (IGNORED_REGISTER_WRITE, R1, R194): NOTICE and
NOTICE_EN have rows of their own. -/
def Register.mayBeIgnored : Register → Bool
  | .ident => true
  | .stand => true
  | .notice => false
  | .noticeEn => false

/-- A blade cannot close its open switch and its close switch together, so no first reading of the filters shows both. -/
def BackLevels.consistent (l : BackLevels) : Bool := !(l.shutterOpen && l.shutterClose)

/-- First levels that the wiring can show: both blades consistent, and the carriage not at both lines. -/
def InputLevels.consistent (l : InputLevels) : Bool :=
  l.backA.consistent && l.backB.consistent && !(l.endA && l.endB)

/-- The checks on a command's operands. -/
def Instr.wellFormed : Instr → Bool
  | .ignoredRegisterWrite reg _ => reg.mayBeIgnored
  | .zeroingEnd levels => levels.consistent
  | .hostMemoryWrite .. | .noticeRead | .noticeWrite _ | .noticeEnWrite _ | .run | .hold | .standReset => true
  | .standResetEnd | .powerOnReset | .lineReset | .resetRelease => true
  | .slotMarkTake | .sheetMarkTake _ | .settle _ | .take => true
  | .shotChoice | .feederPositionPulse | .originalPresentTest _ | .feederMoveTimeout => true
  | .feederHomeSwitch | .feederHomingTimeout => true
  | .meteringScanStart | .darkRound | .meterPulseRequest | .litRound | .meteringConversion _ | .meterPulseEnd => true
  | .carriageEndSwitch _ | .shiftTimeout | .homingTimeout => true
  | .settleDelayEnd | .shutterOpenCommand | .shutterOpenSwitch _ | .shutterOpenTimeout _ => true
  | .lampWaitEnd | .exposePulseEnd | .shutterCloseSwitch _ | .shutterCloseTimeout _ => true
  | .lidOpening | .lidClosing | .supplySample _ | .lampSenseSample _ => true
  | .doorOpening _ | .doorClosing .. | .motorStart _ | .rampStep _ | .perforation _ => true
  | .stallTimeout _ | .filmOutSwitch _ | .leaderRunEnd _ | .rewindTimeout _ => true
  | .transmissionEnd | .replyTimeout | .inquiryTimeout | .ack _ | .nak _ | .readyReply => true
  | .receiveError _ | .lineBreak | .receivedByte _ | .lineReturnedToOne => true

end Sys2Proof
end

