-- ==== Sys2Proof/Decode.lean ====
section
/-! DEFINITION. Decoding. The part takes commands, not instruction words: no row of spec/opcode_table.json gives a bit of an
encoding ("fields" is empty in every row and no row has "fixed" bits). -/

namespace Sys2Proof

/-- The command that a word spells by the table's bits: none, for no row gives bits. -/
def decodeTableWord (_nbits _w : Nat) : Option Instr := none

end Sys2Proof
end

