-- ==== Sys2Proof/Machine/State.lean ====
section
/-! DEFINITION. The state of the part as plain data: common memory, the state of each of the ten blocks, and the queue of
waiting commands. -/

namespace Sys2Proof.Machine

open Sys2Proof

/-- The part stops with no fault: what the manual reports as wrong is state (NOTICE flags, hold causes, JAMMED, FAULT, LOST,
refusal codes of orders). So the type has no constructor and no meaning can answer one (safe). -/
inductive Fault : Type
deriving DecidableEq, Repr

/-- Why a command has no meaning. -/
inductive Refusal : Type where
  /-- Raised by `exec` alone, for a command whose meaning is not written; safe, for nothing follows from such a step. -/
  | notModelled (mnemonic : String)
deriving DecidableEq, Repr

/-- Common memory as the bytes that are not 0, at rising addresses. -/
abbrev Memory := List Host.Cell

/-! ### The names of states, codes and causes (their codes are in Machine/Codes.lean) -/

/-- Stand states (R68). -/
inductive StandState where
  | stopped | running | holdPending | held
deriving DecidableEq, Repr

/-- Hold causes (R69). -/
inductive HoldCause where
  | none | host | lid | lamp | carriage | feeder
deriving DecidableEq, Repr

/-- Reset causes (R199). -/
inductive ResetCause where
  | none | powerOn | line | stand
deriving DecidableEq, Repr

/-- Carriage states (R91). -/
inductive CarriageState where
  | homing | lineA | lineB | shifting | fault
deriving DecidableEq, Repr

/-- Back states (R74). -/
inductive BackState where
  | empty | doorOpen | awaitingSheet | loading | ready | winding | shutterOpen | stale | rollEnd | rewinding
  | filmOut | jammed | orphanFilm
deriving DecidableEq, Repr

/-- Printer states (R160). -/
inductive PrinterState where
  | unknown | ready | printing | stockOut | lost
deriving DecidableEq, Repr

/-- Slot hands (R8). -/
inductive SlotHand where
  | empty | filed | taken | done | withdraw
deriving DecidableEq, Repr

/-- Sheet hands (R97). -/
inductive SheetHand where
  | clear | prepared | live | retired
deriving DecidableEq, Repr

/-- Order kinds (section 2.1). -/
inductive OrderKind where
  | copy | calibrate | rewind
deriving DecidableEq, Repr

/-- Sub-states of an order in the run list (R30). -/
inductive SubState where
  | waitingRun | atGate | waitingRoll | finishing
deriving DecidableEq, Repr

/-- Order states (order slot, offset 200H). -/
inductive OrderState where
  | none | complete | partialDone | withdrawn | interrupted | refused | notClear | failedDim | noFilm | failedJam
deriving DecidableEq, Repr

/-- Refusal codes of an order (order slot, offset 202H), in the order of the checks of R24. -/
inductive RefusalCode where
  | badKind | badAccount | accountClosed | badProfile | badShots | badPosition | badBracket | badCopies | badStyle
  | badBack | notCalibrated | overCeiling
deriving DecidableEq, Repr

/-- Shot outcome codes (shot outcome, offset 00H). -/
inductive ShotCode where
  | pending | complete | partialDone | noOriginal | exceedsRoll | withdrawn | interrupted
deriving DecidableEq, Repr

/-- Frame states (R102). -/
inductive FrameState where
  | blank | reserved | exposed | spoiled | unused
deriving DecidableEq, Repr

/-- Label states (R151). -/
inductive LabelState where
  | none | waiting | queued | printed | failed | skipped
deriving DecidableEq, Repr

/-- Spoil causes (frame record, 01H bits 4–6). -/
inductive SpoilCause where
  | none | lid | supply | lamp | shutter | reset
deriving DecidableEq, Repr

/-- Retire causes (R108). -/
inductive RetireCause where
  | none | rollEndRewound | rewindOrder | jamRewound | doorOpened
deriving DecidableEq, Repr

/-- The two drive levels of the light table (chapter 7). -/
inductive Intensity where
  | full | quarter
deriving DecidableEq, Repr

/-! ### Board Watch (01) -/

/-- The pending marks (R6). A slot is marked exactly while it is in `slotOrder`. `settleMarks` and `sheetMarks` are sets,
held as lists without repeats whose order says nothing. -/
structure Watch where
  slotOrder : List Slot
  sheetMarks : List Sheet
  settleMarks : List Account
  /-- The settle marks a stand reset found set when it cleared the marks (R19). -/
  settleHeld : List Account
deriving DecidableEq, Repr

/-! ### Order Engine (02) -/

/-- An order of the run list with its progress record (R29). -/
structure OrderEntry where
  slot : Slot
  kind : OrderKind
  rush : Bool
  sub : SubState
  /-- A stand task has started. -/
  started : Bool
  /-- A withdrawal of the order has taken effect (R39). -/
  withdrawn : Bool
  /-- The count of outstanding labels (R41). -/
  outstanding : Nat
deriving DecidableEq, Repr

/-- The current shot choice (R34). -/
structure ShotChoice where
  slot : Slot
  shot : Nat
  back : Back
  frames : Nat
deriving DecidableEq, Repr

structure Orders where
  /-- The recorded slot hands (R8). -/
  recorded : Vector SlotHand 16
  intake : List Slot
  runList : List OrderEntry
  choice : Option ShotChoice
deriving DecidableEq, Repr

/-! ### Gate Sequencer (03) -/

/-- The gate steps (R48). -/
inductive GateStep where
  | idle | feeding | metering | shifting | reserving | exposing
deriving DecidableEq, Repr

/-- Where the sequencer is within its steps: the waits and the moves that the chapter's rules name. -/
inductive GatePhase where
  | idle
  /-- FEEDING, the tray moving (R50). -/
  | feedMoving
  /-- FEEDING, after the arrival and before the original-present test (R50). -/
  | feedArrived
  /-- FEEDING, at rest after a move timeout (R52). -/
  | feedTimedOut
  /-- METERING, in the metering wait (R53). -/
  | meterWait
  /-- METERING, the scan running. -/
  | meterScan
  /-- The end of METERING (R66). -/
  | meterEnd
  /-- SHIFTING, in the carriage wait (R55). -/
  | shiftWait
  /-- SHIFTING, the carriage moving. -/
  | shiftMoving
  /-- The end of SHIFTING (R66). -/
  | shiftEnd
  /-- RESERVING (R57): runs to its end inside one step. -/
  | reserving
  /-- EXPOSING, waiting for the back and the settle delay (R58). -/
  | frameWait
  /-- EXPOSING, armed, waiting to command the shutter (R59). -/
  | armed
  /-- EXPOSING, from the shutter command to the recording (R66). -/
  | passage
deriving DecidableEq, Repr

/-- What the metering of a shot gives for one bracket position (R131). -/
structure PositionPlan where
  position : Int
  exposure : Nat
  low : Bool
  high : Bool
  intensity : Intensity
  ticks : Nat
deriving DecidableEq, Repr

/-- A frame of the frame set (R48). -/
structure SetFrame where
  frame : Nat
  position : Int
  copy : Nat
  recorded : Bool
deriving DecidableEq, Repr

/-- The pending result of the frame whose shutter has been commanded open (R48). -/
inductive PendingResult where
  | none
  | good
  | spoiled (cause : SpoilCause)
deriving DecidableEq, Repr

/-- The shot record (R48). A CALIBRATE task uses no back, sheet or frames (R49): it holds back A, the first sheet and 0. -/
structure ShotRecord where
  slot : Slot
  shot : Nat
  calibrate : Bool
  back : Back
  which : Which
  /-- f, the planned frame positions. -/
  planned : Nat
  plans : List PositionPlan
  frames : List SetFrame
  /-- The pairs of bracket position and copy that have an EXPOSED frame. -/
  tally : List (Int × Nat)
  reshoots : Nat
  result : PendingResult
deriving DecidableEq, Repr

structure Gate where
  phase : GatePhase
  /-- At rest under a hold; the rest point is the phase (R67). -/
  rested : Bool
  shot : Option ShotRecord
  moveTimer : Timer
  shiftTimer : Timer
  settleTimer : Timer
deriving DecidableEq, Repr

/-! ### Back Units (04) -/

/-- The direction of a motor (R74). -/
inductive Direction where
  | stopped | forward | reverse
deriving DecidableEq, Repr

/-- The motor record (R74, R81, R89). `start` is the start that is called for and deferred. -/
structure Motor where
  direction : Direction
  start : Direction
  speed : Nat
  target : Nat
  creep : Nat
  ramp : Nat
  ramping : Bool
  perforations : Nat
  stallTimer : Timer
  rewindTimer : Timer
  leaderTimer : Timer
deriving DecidableEq, Repr

/-- The last shutter command (R74). -/
inductive ShutterCommand where
  | none | open | close
deriving DecidableEq, Repr

structure Shutter where
  command : ShutterCommand
  timer : Timer
  /-- Commanded open since the back last entered READY (R74). -/
  sinceReady : Bool
  /-- Commanded open, and its close switch not seen closed since, nor JAMMED or DOOR_OPEN entered (R81). -/
  outstanding : Bool
deriving DecidableEq, Repr

/-- The rewind origin (R88). -/
inductive RewindOrigin where
  | none
  | auto
  | left (state : BackState)
deriving DecidableEq, Repr

structure BackUnit where
  state : BackState
  gateFrame : Nat
  live : Option Which
  motor : Motor
  shutter : Shutter
  /-- The clock at the last entry to READY (R74). -/
  readyAt : Nat
  origin : RewindOrigin
  /-- The recorded hand of the first sheet (R8). -/
  handFirst : SheetHand
  /-- The recorded hand of the second sheet. -/
  handSecond : SheetHand
  levels : BackLevels
deriving DecidableEq, Repr

/-! ### Carriage and feeder (04) -/

structure Carriage where
  state : CarriageState
  /-- The line a shift drives to. -/
  target : Back
  homingTimer : Timer
  endA : Bool
  endB : Bool
deriving DecidableEq, Repr

/-- What the feeder drive does (R93, R94). -/
inductive FeederDrive where
  | stopped | homing | moving
deriving DecidableEq, Repr

structure Feeder where
  position : Nat
  drive : FeederDrive
  target : Option Nat
  homingTimer : Timer
  home : Bool
deriving DecidableEq, Repr

/-! ### Exposure Unit (06) -/

/-- The scan states (R115). -/
inductive ScanState where
  | idle | dark | lit | computing
deriving DecidableEq, Repr

/-- What a scan is made for (R115). -/
inductive ScanJob where
  | none
  | calibrate
  | copy (slot : Slot) (shot : Nat)
deriving DecidableEq, Repr

/-- One sum or result for each colour channel. -/
structure Rgb where
  red : Nat
  green : Nat
  blue : Nat
deriving DecidableEq, Repr

/-- Lamp ticks and intensity of one pulse (R115). -/
structure Pulse where
  ticks : Nat
  intensity : Intensity
deriving DecidableEq, Repr

structure Exposure where
  scan : ScanState
  job : ScanJob
  dark : Rgb
  lit : Rgb
  darkRounds : Nat
  litRounds : Nat
  /-- The conversions of the metering round in progress that have not ended (R114). -/
  waiting : Nat
  holder : Option Pulse
deriving DecidableEq, Repr

/-! ### The converter (06) -/

/-- Who asks for conversions (R114): the supply monitor channel 4, the lamp sense channel 3, the Exposure Unit the three of a
metering round. -/
inductive Requester where
  | supply | lamp | metering
deriving DecidableEq, Repr

/-- The one converter with the requests of its channels (R114). The conversions of a metering round that have not ended are
`Exposure.waiting`. -/
structure Converter where
  /-- The request whose conversion is in progress. -/
  converting : Option Requester
  /-- A supply request waits. -/
  supply : Bool
  /-- A lamp-sense request waits. -/
  lamp : Bool
  /-- Lamp ticks since the supply monitor last asked, or since the end of start-up. -/
  sinceSupply : Nat
deriving DecidableEq, Repr

/-! ### Lamp Timer and Monitors (07) -/

/-- The timer modes (R136). -/
inductive LampMode where
  | idle | meterOn | wait | exposeOn
deriving DecidableEq, Repr

/-- The lamp output (R136). -/
inductive LampOutput where
  | off | full | quarter
deriving DecidableEq, Repr

structure Lamp where
  mode : LampMode
  counter : Nat
  output : LampOutput
  active : Option Pulse
  /-- The back whose trigger started the pulse (R137). -/
  trigger : Option Back
  wait : Nat
  threshold : Nat
  lowCount : Nat
  faultCount : Nat
deriving DecidableEq, Repr

structure Supply where
  sag : Bool
  below : Nat
  above : Nat
deriving DecidableEq, Repr

/-! ### Label Unit (08) -/

/-- An entry of the label queue (R155). -/
structure LabelEntry where
  sheet : Sheet
  frame : Nat
  sequence : Nat
  slot : Slot
  line1 : List Byte
  line2 : List Byte
  line3 : List Byte
deriving DecidableEq, Repr

/-- A transmission to the printer (R158). -/
inductive Transmission where
  | inquire
  | label (bytes : List Byte)
deriving DecidableEq, Repr

/-- The receiver states (R151). -/
inductive Receiver where
  | idle | awaitingAck | awaitingNak
deriving DecidableEq, Repr

structure Labels where
  queue : List LabelEntry
  printer : PrinterState
  resend : Bool
  replyTimer : Timer
  inquiryTimer : Timer
  receiver : Receiver
  held : Option Byte
  /-- The transmission on the line, then the waiting ones; the transmitter is idle when the list is empty. -/
  transmitter : List Transmission
  errors : Nat
  /-- A break has been reported and the line has not returned to 1 (R159). -/
  breakSeen : Bool
deriving DecidableEq, Repr

/-! ### Notice and Stand Control (10) -/

/-- The stage of a power-on or line reset (R197, R198). The start-up mark is set in `ended` alone. -/
inductive StartUp where
  | held (cause : ResetCause)
  | zeroing (cause : ResetCause)
  | homing
  | ended
deriving DecidableEq, Repr

/-- The registers and marks of the block. Each bit of `notice`, `seen` and `enables` is the flag of its position
(R189, R190, R192). -/
structure Control where
  notice : BitVec 11
  seen : BitVec 11
  enables : BitVec 11
  stand : StandState
  cause : HoldCause
  startUp : StartUp
  /-- The stand-reset mark (R195). -/
  resetting : Bool
  resetCause : ResetCause
deriving DecidableEq, Repr

/-! ### The whole part -/

structure State where
  mem : Memory
  watch : Watch
  orders : Orders
  gate : Gate
  backA : BackUnit
  backB : BackUnit
  carriage : Carriage
  feeder : Feeder
  exposure : Exposure
  converter : Converter
  lamp : Lamp
  supply : Supply
  labels : Labels
  control : Control
  /-- The filtered lid level, `true` when open (R76). -/
  lidOpen : Bool
  /-- The filtered original-present level (R50). -/
  originalPresent : Bool
  /-- The model's own: the value the port returned to the last host read. -/
  hostData : Word
  /-- The model's own: lamp ticks counted by idle steps. -/
  clock : Nat
  /-- The commands that wait, first in, first out. -/
  pending : List Instr
deriving DecidableEq, Repr

/-! ### Reset -/

def Watch.reset : Watch := { slotOrder := [], sheetMarks := [], settleMarks := [], settleHeld := [] }

/-- R47: no queue, no run list, no choice; R8: every recorded hand EMPTY. -/
def Orders.reset : Orders :=
  { recorded := Vector.replicate 16 .empty, intake := [], runList := [], choice := none }

/-- R48, R73: IDLE, no shot record. -/
def Gate.reset : Gate :=
  { phase := .idle, rested := false, shot := none, moveTimer := none, shiftTimer := none, settleTimer := none }

/-- A motor that is stopped (R96); DESIGN CHOICE 0 for the speed code and the settings of no operation (log 20). -/
def Motor.reset : Motor :=
  { direction := .stopped, start := .stopped, speed := 0, target := 0, creep := 0, ramp := 0, ramping := false,
    perforations := 0, stallTimer := none, rewindTimer := none, leaderTimer := none }

def Shutter.reset : Shutter := { command := .none, timer := none, sinceReady := false, outstanding := false }

/-- DESIGN CHOICE (log 20): the levels a back shows while the part is held in reset, before its filters hold. -/
def levelsAtReset : BackLevels :=
  { perforation := false, doorOpen := false, cassette := false, filmOut := false, shutterOpen := false,
    shutterClose := false }

/-- R96; the state EMPTY while held in reset is a DESIGN CHOICE (log 20). -/
def BackUnit.reset : BackUnit :=
  { state := .empty, gateFrame := 0, live := none, motor := .reset, shutter := .reset, readyAt := 0, origin := .none,
    handFirst := .clear, handSecond := .clear, levels := levelsAtReset }

/-- DESIGN CHOICE (log 20): the drive is not energised and no line is known until homing starts (R197, R96). -/
def Carriage.reset : Carriage :=
  { state := .fault, target := .a, homingTimer := none, endA := false, endB := false }

/-- R93: position 0 before homing. -/
def Feeder.reset : Feeder := { position := 0, drive := .stopped, target := none, homingTimer := none, home := false }

def Rgb.zero : Rgb := { red := 0, green := 0, blue := 0 }

/-- R135. -/
def Exposure.reset : Exposure :=
  { scan := .idle, job := .none, dark := .zero, lit := .zero, darkRounds := 0, litRounds := 0, waiting := 0,
    holder := none }

/-- R114, R135: no request waits and no conversion is in progress. -/
def Converter.reset : Converter := { converting := none, supply := false, lamp := false, sinceSupply := 0 }

/-- R150. -/
def Lamp.reset : Lamp :=
  { mode := .idle, counter := 0, output := .off, active := none, trigger := none, wait := 0, threshold := 0,
    lowCount := 0, faultCount := 0 }

/-- R150. -/
def Supply.reset : Supply := { sag := false, below := 0, above := 0 }

/-- R168. -/
def Labels.reset : Labels :=
  { queue := [], printer := .unknown, resend := false, replyTimer := none, inquiryTimer := none, receiver := .idle,
    held := none, transmitter := [], errors := 0, breakSeen := false }

/-- R197, R199: registers 0, STOPPED, the start-up mark clear, held in a power-on reset. -/
def Control.reset : Control :=
  { notice := 0, seen := 0, enables := 0, stand := .stopped, cause := .none, startUp := .held .powerOn,
    resetting := false, resetCause := .none }

/-- The part right after power is applied: held in a power-on reset (R197). Common memory lists nothing, so every byte reads
0, as the zeroing leaves it (R18). -/
def State.reset : State :=
  { mem := [], watch := .reset, orders := .reset, gate := .reset, backA := .reset, backB := .reset,
    carriage := .reset, feeder := .reset, exposure := .reset, converter := .reset, lamp := .reset, supply := .reset, labels := .reset,
    control := .reset, lidOpen := false, originalPresent := false, hostData := 0, clock := 0, pending := [] }

end Sys2Proof.Machine
end

