-- ==== Sys2Proof/Machine/Codes.lean ====
section
/-! DEFINITION. The codes of states, causes and results in the record layouts (01, section 1.3), and the gate step that a phase
of the sequencer lies in. -/

namespace Sys2Proof.Machine

open Sys2Proof

def StandState.code : StandState → Nat
  | .stopped => 0 | .running => 1 | .holdPending => 2 | .held => 3

def HoldCause.code : HoldCause → Nat
  | .none => 0 | .host => 1 | .lid => 2 | .lamp => 3 | .carriage => 4 | .feeder => 5

def ResetCause.code : ResetCause → Nat
  | .none => 0 | .powerOn => 1 | .line => 2 | .stand => 3

def CarriageState.code : CarriageState → Nat
  | .homing => 0 | .lineA => 1 | .lineB => 2 | .shifting => 3 | .fault => 4

def BackState.code : BackState → Nat
  | .empty => 0 | .doorOpen => 1 | .awaitingSheet => 2 | .loading => 3 | .ready => 4 | .winding => 5
  | .shutterOpen => 6 | .stale => 7 | .rollEnd => 8 | .rewinding => 9 | .filmOut => 10 | .jammed => 11
  | .orphanFilm => 12

def PrinterState.code : PrinterState → Nat
  | .unknown => 0 | .ready => 1 | .printing => 2 | .stockOut => 3 | .lost => 4

def SlotHand.code : SlotHand → Nat
  | .empty => 0 | .filed => 1 | .taken => 2 | .done => 3 | .withdraw => 4

def SheetHand.code : SheetHand → Nat
  | .clear => 0 | .prepared => 1 | .live => 2 | .retired => 3

def SubState.code : SubState → Nat
  | .waitingRun => 1 | .atGate => 2 | .waitingRoll => 3 | .finishing => 4

def OrderState.code : OrderState → Nat
  | .none => 0 | .complete => 1 | .partialDone => 2 | .withdrawn => 3 | .interrupted => 4 | .refused => 5
  | .notClear => 6 | .failedDim => 7 | .noFilm => 8 | .failedJam => 9

def RefusalCode.code : RefusalCode → Nat
  | .badKind => 1 | .badAccount => 2 | .accountClosed => 3 | .badProfile => 4 | .badShots => 5 | .badPosition => 6
  | .badBracket => 7 | .badCopies => 8 | .badStyle => 9 | .badBack => 10 | .notCalibrated => 11 | .overCeiling => 12

def ShotCode.code : ShotCode → Nat
  | .pending => 0 | .complete => 1 | .partialDone => 2 | .noOriginal => 3 | .exceedsRoll => 4 | .withdrawn => 5
  | .interrupted => 6

def FrameState.code : FrameState → Nat
  | .blank => 0 | .reserved => 1 | .exposed => 2 | .spoiled => 3 | .unused => 4

def LabelState.code : LabelState → Nat
  | .none => 0 | .waiting => 1 | .queued => 2 | .printed => 3 | .failed => 4 | .skipped => 5

def SpoilCause.code : SpoilCause → Nat
  | .none => 0 | .lid => 1 | .supply => 2 | .lamp => 3 | .shutter => 4 | .reset => 5

def RetireCause.code : RetireCause → Nat
  | .none => 0 | .rollEndRewound => 1 | .rewindOrder => 2 | .jamRewound => 3 | .doorOpened => 4

def Intensity.code : Intensity → Nat
  | .full => 0 | .quarter => 1

/-- The gate step a phase lies in (R48). -/
def GatePhase.step : GatePhase → GateStep
  | .idle => .idle
  | .feedMoving | .feedArrived | .feedTimedOut => .feeding
  | .meterWait | .meterScan | .meterEnd => .metering
  | .shiftWait | .shiftMoving | .shiftEnd => .shifting
  | .reserving => .reserving
  | .frameWait | .armed | .passage => .exposing

end Sys2Proof.Machine
end

