-- ==== Sys2Proof/Machine/Ops.lean ====
section
/-! DEFINITION. The named operations over common memory and over the records of the state: reading and writing bytes, words and
fields of two words, the Back Units by name, timers, sets of marks, and the stand report. -/

namespace Sys2Proof.Machine

open Sys2Proof

/-- What a command answers. -/
abbrev Result := Host.Outcome State Fault Refusal

/-! ### Common memory -/

/-- The byte at an address; an address the list does not name reads 0 (R18). -/
def Memory.read : Memory → Nat → Byte
  | [], _ => 0
  | (k, v) :: t, a => if k = a then v else Memory.read t a

/-- Put a byte into the list, keeping addresses rising and no byte 0. -/
def Memory.insert : Memory → Nat → Byte → Memory
  | [], a, v => if v = 0 then [] else [(a, v)]
  | (k, w) :: t, a, v =>
    if a < k then (if v = 0 then (k, w) :: t else (a, v) :: (k, w) :: t)
    else if a = k then (if v = 0 then t else (a, v) :: t)
    else (k, w) :: Memory.insert t a v

/-- Write one byte. Common memory ends at 7FFFH (R4); no operation of the part computes an address above it. -/
def Memory.write (m : Memory) (a : Nat) (v : Byte) : Memory :=
  if a < Config.memorySize then Memory.insert m a v else m

/-- Write 0 to every byte from `lo` up to but not including `hi`. -/
def Memory.zero (m : Memory) (lo hi : Nat) : Memory := m.filter fun c => decide (c.1 < lo) || decide (hi ≤ c.1)

/-- The canonical form from address `lo` on: addresses strictly rising, inside common memory, and no byte 0. -/
def Memory.wfFrom : Nat → Memory → Bool
  | _, [] => true
  | lo, (k, v) :: t => decide (lo ≤ k) && decide (k < Config.memorySize) && (v != 0) && Memory.wfFrom (k + 1) t

/-- The canonical form of common memory. -/
def Memory.wf (m : Memory) : Bool := Memory.wfFrom 0 m

/-- The byte at an address, as a number. -/
def byteAt (s : State) (a : Nat) : Nat := (Memory.read s.mem a).toNat

/-- The word at an even address: the low byte is at the lower address (00, Conventions). -/
def wordAt (s : State) (a : Nat) : Nat := byteAt s a + 256 * byteAt s (a + 1)

/-- A 24-bit field: the low word, and the low byte of the next word (00, Conventions; R170). -/
def longAt (s : State) (a : Nat) : Nat := wordAt s a + 65536 * byteAt s (a + 2)

/-- Write a byte field. -/
def setByte (a n : Nat) (s : State) : State := { s with mem := Memory.write s.mem a (BitVec.ofNat 8 n) }

/-- Write a word at an even address. -/
def setWord (a n : Nat) (s : State) : State := setByte (a + 1) (n / 256) (setByte a n s)

/-- Write a 24-bit field, low word first; the upper byte of the high word is written 0 (R3, R17, R170). -/
def setLong (a n : Nat) (s : State) : State := setWord (a + 2) (n / 65536 % 256) (setWord a n s)

/-- Write 0 to every byte from `lo` up to but not including `hi`. -/
def zeroBytes (lo hi : Nat) (s : State) : State := { s with mem := Memory.zero s.mem lo hi }

/-- Raise a byte field by one. -/
def raiseByte (a : Nat) (s : State) : State := setByte a (byteAt s a + 1) s

/-- Raise a word field by one. -/
def raiseWord (a : Nat) (s : State) : State := setWord a (wordAt s a + 1) s

/-! ### Sets held as lists -/

/-- Add a member to a set. -/
def addMember {α : Type} [DecidableEq α] (l : List α) (x : α) : List α := if x ∈ l then l else l ++ [x]

/-- Remove a member from a set. -/
def dropMember {α : Type} [DecidableEq α] (l : List α) (x : α) : List α := l.filter fun y => decide (y ≠ x)

/-! ### Backs, lines and sheets -/

/-- The other back. -/
def otherBack : Back → Back
  | .a => .b
  | .b => .a

/-- The Back Unit of a back. -/
def State.back (s : State) : Back → BackUnit
  | .a => s.backA
  | .b => s.backB

/-- Replace the Back Unit of a back. -/
def setBack (bk : Back) (u : BackUnit) (s : State) : State :=
  match bk with
  | .a => { s with backA := u }
  | .b => { s with backB := u }

/-- The carriage state in which a back is in line (R91). -/
def lineOf : Back → CarriageState
  | .a => .lineA
  | .b => .lineB

/-- The back is in line over the gate (R91). -/
def inLine (s : State) (bk : Back) : Bool := decide (s.carriage.state = lineOf bk)

/-- The two sheets of a back, the first before the second. -/
def sheetsOf (bk : Back) : List Sheet := [⟨bk, .first⟩, ⟨bk, .second⟩]

/-- The four sheets. -/
def allSheets : List Sheet := sheetsOf .a ++ sheetsOf .b

/-- The recorded hand of a sheet (R8). -/
def sheetHand (s : State) (sh : Sheet) : SheetHand :=
  match sh.which with
  | .first => (s.back sh.back).handFirst
  | .second => (s.back sh.back).handSecond

/-- Change the recorded hand of a sheet. -/
def recordSheetHand (sh : Sheet) (h : SheetHand) (s : State) : State :=
  match sh.which with
  | .first => setBack sh.back { s.back sh.back with handFirst := h } s
  | .second => setBack sh.back { s.back sh.back with handSecond := h } s

/-- The LIVE sheet of a back. -/
def liveSheet (s : State) (bk : Back) : Option Sheet := (s.back bk).live.map fun w => ⟨bk, w⟩

/-! ### The stages of a reset -/

/-- The zeroing has ended: host writes are served and the drives run (R18, R198). -/
def isLive (s : State) : Bool :=
  match s.control.startUp with
  | .held _ => false
  | .zeroing _ => false
  | .homing => true
  | .ended => true

/-- Start-up has ended: the start-up mark is set (R198). -/
def started (s : State) : Bool := decide (s.control.startUp = .ended)

/-- The blocks take their next steps: start-up has ended and no stand reset is being taken (R7, R198; log 10). -/
def atWork (s : State) : Bool := started s && !s.control.resetting

/-! ### The stand report (01, section 1.3) -/

/-- Write a byte field of the stand report. -/
def report (offset n : Nat) (s : State) : State := setByte (Config.report + offset) n s

/-- The waiting label count, which lives in the stand report (R155). -/
def waitingCount (s : State) : Nat := byteAt s (Config.report + 0x0B)

/-- Write the waiting label count. -/
def setWaitingCount (n : Nat) (s : State) : State := report 0x0B n s

/-- The stand sequence counter (R106). -/
def sequenceCounter (s : State) : Nat := longAt s (Config.report + 0x0C)

/-- Enter a carriage state and write it into the stand report (R91). -/
def enterCarriage (c : CarriageState) (s : State) : State :=
  report 0x03 c.code { s with carriage := { s.carriage with state := c } }

/-- The feeder position changes and is written into the stand report (R93). -/
def setPosition (p : Nat) (s : State) : State :=
  report 0x08 p { s with feeder := { s.feeder with position := p } }

/-- The offset of a back's state in the stand report. -/
def backOffset : Back → Nat
  | .a => 0x04
  | .b => 0x05

/-- The offset of a back's live sheet in the stand report. -/
def liveOffset : Back → Nat
  | .a => 0x06
  | .b => 0x07

/-- The code of a live sheet in the stand report. -/
def liveCode : Option Which → Nat
  | none => 0
  | some .first => 1
  | some .second => 2

/-- Enter a back state and write it into the stand report; the rewind origin is held only while the back is REWINDING (R74). -/
def enterBack (bk : Back) (st : BackState) (s : State) : State :=
  let u := s.back bk
  report (backOffset bk) st.code
    (setBack bk { u with state := st, origin := if st = .rewinding then u.origin else .none } s)

/-- Change a back's live sheet and write it into the stand report (R74). -/
def setLive (bk : Back) (w : Option Which) (s : State) : State :=
  report (liveOffset bk) (liveCode w) (setBack bk { s.back bk with live := w } s)

/-- Change a back's gate frame. -/
def setGateFrame (bk : Back) (k : Nat) (s : State) : State := setBack bk { s.back bk with gateFrame := k } s

/-- Change the consecutive lamp-fault count and write it into the stand report (R136). -/
def setFaultCount (n : Nat) (s : State) : State :=
  report 0x16 n { s with lamp := { s.lamp with faultCount := n } }

/-- Change the stand state and the hold cause in STAND and in the stand report (R193). -/
def setStand (st : StandState) (c : HoldCause) (s : State) : State :=
  report 0x01 c.code (report 0x00 st.code { s with control := { s.control with stand := st, cause := c } })

/-- Change the reset cause and write it into the stand report (R199). -/
def setResetCause (c : ResetCause) (s : State) : State :=
  report 0x02 c.code { s with control := { s.control with resetCause := c } }

/-- Change the label queue and write its count into the stand report (R155). -/
def setQueue (q : List LabelEntry) (s : State) : State :=
  report 0x0A q.length { s with labels := { s.labels with queue := q } }

/-- Change the receive error count and write it into the stand report (R151). -/
def setErrors (n : Nat) (s : State) : State :=
  setWord (Config.report + 0x14) n { s with labels := { s.labels with errors := n } }

/-! ### Timers -/

/-- A timer counts one lamp tick down, and stops counting at 0. -/
def tickTimer (t : Timer) : Timer := t.map fun n => n - 1

/-- The timer runs. -/
def running (t : Timer) : Bool := t.isSome

end Sys2Proof.Machine
end

