-- ==== Sys2Proof/Machine/Flags.lean ====
section
/-! DEFINITION. The NOTICE flags, their seen marks and enables, INT, and what a host read returns (R188 to R193). -/

namespace Sys2Proof.Machine

open Sys2Proof

/-- The eleven flags (R189). -/
inductive Flag where
  | orderDone | rollWanted | sheetRetired | standHeld | backFault | supplySag | labelStock | printerLost
  | handFault | guardHit | calibrated
deriving DecidableEq, Repr

/-- The bit of a flag in NOTICE (R189). -/
def Flag.bit : Flag → Nat
  | .orderDone => 0 | .rollWanted => 1 | .sheetRetired => 2 | .standHeld => 3 | .backFault => 4 | .supplySag => 5
  | .labelStock => 6 | .printerLost => 7 | .handFault => 8 | .guardHit => 9 | .calibrated => 10

/-- The word with the flag's bit alone. -/
def Flag.mask (f : Flag) : BitVec 11 := BitVec.ofNat 11 (2 ^ f.bit)

/-- A block sets a flag: the flag is set and its seen mark is cleared, whether or not it was already set (R190). -/
def raise (f : Flag) (s : State) : State :=
  { s with control :=
      { s.control with notice := s.control.notice ||| f.mask, seen := s.control.seen &&& ~~~f.mask } }

/-- The flag is set. -/
def flagSet (s : State) (f : Flag) : Bool := s.control.notice.getLsbD f.bit

/-- The flag's seen mark is set. -/
def flagSeen (s : State) (f : Flag) : Bool := s.control.seen.getLsbD f.bit

/-- A host read of NOTICE: each seen mark takes the value of its flag as read (R190). -/
def readNotice (s : State) : State :=
  { s with
    control := { s.control with seen := s.control.notice }
    hostData := s.control.notice.zeroExtend 16 }

/-- A host write of NOTICE: each flag written 0 whose seen mark is set is cleared with its seen mark; bits 11–15 are ignored
(R190). -/
def writeNotice (v : Word) (s : State) : State :=
  let cleared := ~~~(v.truncate 11) &&& s.control.seen
  { s with control :=
      { s.control with notice := s.control.notice &&& ~~~cleared, seen := s.control.seen &&& ~~~cleared } }

/-- A host write of NOTICE_EN stores bits 0–10 (R192). -/
def writeEnables (v : Word) (s : State) : State :=
  { s with control := { s.control with enables := v.truncate 11 } }

/-- INT is asserted exactly when some flag and its enable are both set (R192). -/
def intAsserted (s : State) : Bool := decide (s.control.notice &&& s.control.enables ≠ 0)

/-- IDENT: part code 340H, revision 1, START_DONE in bit 15 (R188). -/
def ident (s : State) : Word := if started s then 0x9340 else 0x1340

/-- What a host read of a register returns (R18, R188, R190, R192, R193). -/
def hostReadRegister (s : State) : Register → Word
  | .ident => ident s
  | .notice => if isLive s then s.control.notice.zeroExtend 16 else 0
  | .noticeEn => if isLive s then s.control.enables.zeroExtend 16 else 0
  | .stand => if isLive s then BitVec.ofNat 16 (s.control.stand.code + 16 * s.control.cause.code) else 0

/-- The register that a register-select access at an address reaches: address bits 1 and 2 choose it, and no other bit is decoded,
so the four repeat every 8 bytes (R1). -/
def registerAt (a : Addr) : Register :=
  match a.getLsbD 2, a.getLsbD 1 with
  | false, false => .ident
  | false, true => .notice
  | true, false => .noticeEn
  | true, true => .stand

/-- What a host read with the register select returns (R1). -/
def hostReadRegisterAt (s : State) (a : Addr) : Word := hostReadRegister s (registerAt a)

/-- The even address a host access is served at (R1). -/
def evenAddr (a : Addr) : Nat := a.toNat / 2 * 2

/-- What a host read of common memory returns: 0 until the zeroing has ended (R1, R18). -/
def hostReadWord (s : State) (a : Addr) : Word :=
  if isLive s then BitVec.ofNat 16 (wordAt s (evenAddr a)) else 0

end Sys2Proof.Machine
end

