-- ==== Sys2Proof/Machine/Operands.lean ====
section
/-! DEFINITION. The fields of the records in common memory as the blocks read them: order slots, shot entries, outcomes, sheets
and frame records, accounts, profiles, prices, and the stand settings with their clamps. -/

namespace Sys2Proof.Machine

open Sys2Proof

/-! ### Order slots (01, section 1.3) -/

/-- First byte of a slot. -/
def slotBase (n : Slot) : Nat := n.val * Config.recordStride

/-- The value found in a slot's hand word. -/
def handFound (s : State) (n : Slot) : Nat := wordAt s (slotBase n)

/-- The kind byte of a slot. -/
def kindByte (s : State) (n : Slot) : Nat := byteAt s (slotBase n + 0x02)

/-- The back choice byte: EITHER 0, A 1, B 2. -/
def backChoice (s : State) (n : Slot) : Nat := byteAt s (slotBase n + 0x03)

def orderNumber (s : State) (n : Slot) : Nat := wordAt s (slotBase n + 0x04)

def accountIndex (s : State) (n : Slot) : Nat := byteAt s (slotBase n + 0x06)

def orderProfile (s : State) (n : Slot) : Nat := byteAt s (slotBase n + 0x07)

/-- A priority of 1 is RUSH, and any other value is ROUTINE (R21). -/
def isRush (s : State) (n : Slot) : Bool := decide (byteAt s (slotBase n + 0x08) = 1)

def styleIndex (s : State) (n : Slot) : Nat := byteAt s (slotBase n + 0x09)

def shotCount (s : State) (n : Slot) : Nat := wordAt s (slotBase n + 0x0A)

/-- First byte of shot entry i. -/
def shotEntry (n : Slot) (i : Nat) : Nat := slotBase n + 0x20 + i * 0x14

def trayPosition (s : State) (n : Slot) (i : Nat) : Nat := byteAt s (shotEntry n i)

def bracketCount (s : State) (n : Slot) (i : Nat) : Nat := byteAt s (shotEntry n i + 1)

def stepCode (s : State) (n : Slot) (i : Nat) : Nat := byteAt s (shotEntry n i + 2)

def copyCount (s : State) (n : Slot) (i : Nat) : Nat := byteAt s (shotEntry n i + 3)

/-- A word read as signed two's complement. -/
def signedWord (w : Nat) : Int := if w < 32768 then (w : Int) else (w : Int) - 65536

/-- The trim as written, signed. -/
def trimWritten (s : State) (n : Slot) (i : Nat) : Int := signedWord (wordAt s (shotEntry n i + 4))

/-- The trim as used, after clamping to −24..+24 (R21). -/
def trimUsed (s : State) (n : Slot) (i : Nat) : Int := max (-24) (min 24 (trimWritten s n i))

/-- The trim is outside −24..+24 (R28). -/
def trimOutside (s : State) (n : Slot) (i : Nat) : Bool := decide (trimWritten s n i ≠ trimUsed s n i)

/-- f: bracket count × copies (R33). -/
def plannedFrames (s : State) (n : Slot) (i : Nat) : Nat := bracketCount s n i * copyCount s n i

/-! ### Outcome areas -/

/-- First byte of a slot's outcome area. -/
def outcome (n : Slot) : Nat := slotBase n + 0x200

/-- First byte of shot outcome i, for i in 0..23. The remainder keeps the address of any other number, which does not arise, inside
the slot. -/
def shotOutcome (n : Slot) (i : Nat) : Nat := slotBase n + 0x220 + i % 24 * 0x10

def shotCode (s : State) (n : Slot) (i : Nat) : Nat := byteAt s (shotOutcome n i)

def framesExposed (s : State) (n : Slot) : Nat := wordAt s (outcome n + 0x06)

def charged (s : State) (n : Slot) : Nat := longAt s (outcome n + 0x14)

def plannedCommitment (s : State) (n : Slot) : Nat := longAt s (outcome n + 0x10)

def remaining (s : State) (n : Slot) : Nat := longAt s (outcome n + 0x18)

/-- The index of the order's next shot: the lowest shot whose outcome is PENDING (R29). -/
def nextShot (s : State) (n : Slot) : Option Nat :=
  (List.range (min 24 (shotCount s n))).find? fun i => decide (shotCode s n i = ShotCode.pending.code)

/-! ### Roll sheets and frame records -/

/-- Place of a sheet among the four: A0, A1, B0, B1. -/
def sheetIndex (sh : Sheet) : Nat :=
  (match sh.back with | .a => 0 | .b => 2) + (match sh.which with | .first => 0 | .second => 1)

/-- First byte of a sheet. -/
def sheetBase (sh : Sheet) : Nat := Config.sheets + sheetIndex sh * Config.recordStride

def sheetHandFound (s : State) (sh : Sheet) : Nat := wordAt s (sheetBase sh)

def rollSerial (s : State) (sh : Sheet) : Nat := wordAt s (sheetBase sh + 0x02)

def sheetProfile (s : State) (sh : Sheet) : Nat := byteAt s (sheetBase sh + 0x04)

def capacity (s : State) (sh : Sheet) : Nat := byteAt s (sheetBase sh + 0x05)

def framesUsed (s : State) (sh : Sheet) : Nat := byteAt s (sheetBase sh + 0x06)

/-- The remaining frames of a sheet (R33). -/
def framesLeft (s : State) (sh : Sheet) : Nat := capacity s sh - framesUsed s sh

def exposedCount (s : State) (sh : Sheet) : Nat := byteAt s (sheetBase sh + 0x08)

def spoiledCount (s : State) (sh : Sheet) : Nat := byteAt s (sheetBase sh + 0x09)

def unusedCount (s : State) (sh : Sheet) : Nat := byteAt s (sheetBase sh + 0x0A)

/-- First byte of frame record k, for k in 1..40. The remainder keeps the address of any other number, which does not arise, inside
the sheet. -/
def frameRecord (sh : Sheet) (k : Nat) : Nat := sheetBase sh + 0x40 + (k - 1) % 40 * 0x10

/-- The frame numbers 1..40. -/
def frameNumbers : List Nat := List.range' 1 Config.sheetFrames

/-- The frame state's code (00H bits 0–2). -/
def frameCode (s : State) (sh : Sheet) (k : Nat) : Nat := byteAt s (frameRecord sh k) % 8

/-- The label state's code (00H bits 3–5). -/
def labelCode (s : State) (sh : Sheet) (k : Nat) : Nat := byteAt s (frameRecord sh k) / 8 % 8

/-- The copy (00H bits 6–7). -/
def frameCopy (s : State) (sh : Sheet) (k : Nat) : Nat := byteAt s (frameRecord sh k) / 64

/-- The order slot of a frame (01H bits 0–3). -/
def frameSlot (s : State) (sh : Sheet) (k : Nat) : Slot :=
  ⟨byteAt s (frameRecord sh k + 1) % 16, Nat.mod_lt _ (by decide)⟩

/-- The shot index of a frame (02H bits 0–4). -/
def frameShot (s : State) (sh : Sheet) (k : Nat) : Nat := byteAt s (frameRecord sh k + 2) % 32

/-- The bracket position of a frame (02H bits 5–7, three-bit two's complement). -/
def framePosition (s : State) (sh : Sheet) (k : Nat) : Int :=
  let p := byteAt s (frameRecord sh k + 2) / 32
  if p < 4 then (p : Int) else (p : Int) - 8

/-- The stand sequence number of a frame. -/
def frameSequence (s : State) (sh : Sheet) (k : Nat) : Nat := longAt s (frameRecord sh k + 0x0C)

/-- A RESERVED frame. -/
def isReserved (s : State) (sh : Sheet) (k : Nat) : Bool := decide (frameCode s sh k = FrameState.reserved.code)

/-- A label that is outstanding on its sheet: WAITING or QUEUED (R111). -/
def labelOutstanding (s : State) (sh : Sheet) (k : Nat) : Bool :=
  decide (labelCode s sh k = LabelState.waiting.code) || decide (labelCode s sh k = LabelState.queued.code)

/-! ### Accounts, profiles and prices -/

/-- First byte of an account. -/
def accountBase (i : Nat) : Nat := Config.accounts + i * 0x20

def accountState (s : State) (i : Nat) : Nat := wordAt s (accountBase i)

def saturatedMark (s : State) (i : Nat) : Nat := wordAt s (accountBase i + 0x06)

def ceiling (s : State) (i : Nat) : Nat := longAt s (accountBase i + 0x08)

def settleValue (s : State) (i : Nat) : Nat := longAt s (accountBase i + 0x0C)

def spent (s : State) (i : Nat) : Nat := longAt s (accountBase i + 0x10)

def committed (s : State) (i : Nat) : Nat := longAt s (accountBase i + 0x14)

def accountFrames (s : State) (i : Nat) : Nat := longAt s (accountBase i + 0x18)

def lastSettled (s : State) (i : Nat) : Nat := longAt s (accountBase i + 0x1C)

/-- First byte of a film profile. -/
def profileBase (p : Nat) : Nat := Config.profiles + p * 0x20

/-- A valid mark of 0 means not valid, and any other value means valid (R24). -/
def profileValid (s : State) (p : Nat) : Bool := decide (byteAt s (profileBase p) ≠ 0)

/-- First byte of a label style. -/
def styleBase (i : Nat) : Nat := Config.styles + i * 0x80

def styleValid (s : State) (i : Nat) : Bool := decide (byteAt s (styleBase i) ≠ 0)

/-- A price word above 9999 is read as 9999 (R172). -/
def price (s : State) (a : Nat) : Nat := min Config.maxPrice (wordAt s a)

def framePrice (s : State) (p : Nat) : Nat := price s (Config.prices + 2 * p)

def labelPrice (s : State) : Nat := price s (Config.prices + 0x10)

def rushSurcharge (s : State) : Nat := price s (Config.prices + 0x12)

/-- What one frame position of the order costs: frame price plus label price (R27). -/
def positionPrice (s : State) (n : Slot) : Nat := framePrice s (orderProfile s n) + labelPrice s

/-- The calibration's valid mark is set. -/
def calibrated (s : State) : Bool := decide (wordAt s Config.calibration ≠ 0)

/-! ### Stand settings as the part reads them (R5) -/

/-- A stored setting word. -/
def setting (s : State) (offset : Nat) : Nat := wordAt s (Config.settings + offset)

/-- Hold a value within limits. -/
def clampTo (lo hi n : Nat) : Nat := max lo (min hi n)

/-- Settle delay, 0..250 ms. -/
def settleDelay (s : State) : Nat := clampTo 0 250 (setting s 0x00)

/-- Lamp wait, 0..2000 ticks. -/
def lampWait (s : State) : Nat := clampTo 0 2000 (setting s 0x02)

/-- Motor target speed, 32..255. -/
def targetSpeed (s : State) : Nat := clampTo 32 255 (setting s 0x04)

/-- Creep speed, 16..target. -/
def creepSpeed (s : State) : Nat := clampTo 16 (targetSpeed s) (setting s 0x06)

/-- Ramp step, 1..32 per 2 ms. -/
def rampStep (s : State) : Nat := clampTo 1 32 (setting s 0x08)

/-- Auto-rewind mark: 0 clear, any other value set. -/
def autoRewind (s : State) : Bool := decide (setting s 0x0A ≠ 0)

/-- F_s, 0..4095. -/
def fallingThreshold (s : State) : Nat := clampTo 0 4095 (setting s 0x0C)

/-- R_s, 0..4095; if not above F_s, F_s + 8 capped at 4095. -/
def risingThreshold (s : State) : Nat :=
  let r := clampTo 0 4095 (setting s 0x0E)
  if fallingThreshold s < r then r else min 4095 (fallingThreshold s + 8)

/-- N_s: 0 read as 1, above 8 read as 8. -/
def supplyCount (s : State) : Nat := clampTo 1 8 (setting s 0x10)

/-- The lamp threshold of an intensity, 0..4095. -/
def lampThreshold (s : State) : Intensity → Nat
  | .full => clampTo 0 4095 (setting s 0x12)
  | .quarter => clampTo 0 4095 (setting s 0x14)

/-- N_l: 0 read as 1, above 8 read as 8. -/
def lampCount (s : State) : Nat := clampTo 1 8 (setting s 0x16)

end Sys2Proof.Machine
end

