-- ==== Sys2Proof/Machine/Charges.lean ====
section
/-! DEFINITION. The Charge Unit (chapter 9): the take step, charges, releases and settles. The unit keeps no state beyond common
memory (R169). -/

namespace Sys2Proof.Machine

open Sys2Proof

/-! ### The amounts of an order and of its account -/

def setCharged (n : Slot) (x : Nat) (s : State) : State := setLong (outcome n + 0x14) x s

def setRemaining (n : Slot) (x : Nat) (s : State) : State := setLong (outcome n + 0x18) x s

def setCommitted (i x : Nat) (s : State) : State := setLong (accountBase i + 0x14) x s

def setSpent (i x : Nat) (s : State) : State := setLong (accountBase i + 0x10) x s

def setSaturated (i x : Nat) (s : State) : State := setWord (accountBase i + 0x06) x s

/-- Lower the order's remaining commitment, then its account's committed, by an amount, both by the same one (R178). By R179 the
amount never exceeds the remaining commitment (log 25). -/
def lowerCommitment (n : Slot) (x : Nat) (s : State) : State :=
  let y := min x (remaining s n)
  let s := setRemaining n (remaining s n - y) s
  setCommitted (accountIndex s n) (committed s (accountIndex s n) - y) s

/-- Raise an account's spent. It is held at 16,777,215 with the saturated mark 1 when it would pass that, and by every later charge,
of any amount, once it stands there (R176). -/
def raiseSpent (i x : Nat) (s : State) : State :=
  if Config.max24 < spent s i + x ∨ spent s i = Config.max24 then setSaturated i 1 (setSpent i Config.max24 s)
  else setSpent i (spent s i + x) s

/-- Raise the account's count of frames by one; it stops at 16,777,215 (R170). -/
def raiseFrames (i : Nat) (s : State) : State :=
  setLong (accountBase i + 0x18) (min Config.max24 (accountFrames s i + 1)) s

/-! ### Charges and releases -/

/-- A charge (R175): the order's charged, its remaining commitment, the account's committed, its spent. -/
def charge (n : Slot) (x : Nat) (s : State) : State :=
  let s := setCharged n (charged s n + x) s
  let s := lowerCommitment n x s
  raiseSpent (accountIndex s n) x s

/-- A frame charge also raises the account's frames (R175). -/
def chargeFrame (n : Slot) (x : Nat) (s : State) : State :=
  let s := charge n x s
  raiseFrames (accountIndex s n) s

/-- A release (R177) cancels an amount of commitment without a charge. -/
def release (n : Slot) (x : Nat) (s : State) : State := lowerCommitment n x s

/-! ### The take step -/

/-- The planned commitment of a COPY order (R27). -/
def planCommitment (s : State) (n : Slot) : Nat :=
  ((List.range (shotCount s n)).map fun i => plannedFrames s n i * positionPrice s n).sum
    + (if isRush s n then rushSurcharge s else 0)

/-- The commitment check of R27: the ceiling, when it is not 0, and the 24 bits of committed. -/
def commitmentFits (s : State) (n : Slot) : Bool :=
  let i := accountIndex s n
  let x := planCommitment s n
  !(decide (ceiling s i ≠ 0) && decide (ceiling s i < spent s i + committed s i + x))
    && !decide (Config.max24 < committed s i + x)

/-- An accepted COPY order commits its planned amount (R28 step 3, R173). -/
def commit (n : Slot) (x : Nat) (s : State) : State :=
  setCommitted (accountIndex s n) (committed s (accountIndex s n) + x) s

/-! ### Settles -/

/-- A settle step (R181): both settle words are read and written 0, then last settled, spent and the saturated mark are
written. -/
def settleStep (i : Nat) (s : State) : State :=
  let x := min (settleValue s i) (spent s i)
  let s := setWord (accountBase i + 0x0E) 0 (setWord (accountBase i + 0x0C) 0 s)
  let s := setLong (accountBase i + 0x1C) x s
  let s := setSpent i (spent s i - x) s
  setSaturated i 0 s

end Sys2Proof.Machine
end

