-- ==== Sys2Proof/Machine/Sheets.lean ====
section
/-! DEFINITION. Roll sheets and frame records (chapter 5): reservation, recording, UNUSED frames, the counts, the capacity cut,
retirement and clearing. -/

namespace Sys2Proof.Machine

open Sys2Proof

/-! ### Frame records -/

/-- Change the frame state, leaving the label state and the copy (R101). -/
def setFrameState (sh : Sheet) (k : Nat) (f : FrameState) (s : State) : State :=
  setByte (frameRecord sh k) (byteAt s (frameRecord sh k) / 8 * 8 + f.code) s

/-- Change the label state, leaving the frame state and the copy (R151). -/
def setLabelState (sh : Sheet) (k : Nat) (l : LabelState) (s : State) : State :=
  let x := byteAt s (frameRecord sh k)
  setByte (frameRecord sh k) (x / 64 * 64 + l.code * 8 + x % 8) s

/-- Change the spoil cause, leaving the order slot and the intensity. -/
def setSpoilCause (sh : Sheet) (k : Nat) (c : SpoilCause) (s : State) : State :=
  let x := byteAt s (frameRecord sh k + 1)
  setByte (frameRecord sh k + 1) (x / 128 * 128 + c.code * 16 + x % 16) s

def setFrameCharge (sh : Sheet) (k x : Nat) (s : State) : State := setWord (frameRecord sh k + 0x08) x s

def setLabelCharge (sh : Sheet) (k x : Nat) (s : State) : State := setWord (frameRecord sh k + 0x0A) x s

def setFrameSequence (sh : Sheet) (k x : Nat) (s : State) : State := setLong (frameRecord sh k + 0x0C) x s

/-- A bracket position in three-bit two's complement. -/
def positionBits (p : Int) : Nat := (p % 8).toNat

/-- The first byte of the header's counts: exposed 08H, spoiled 09H, unused 0AH. -/
def sheetCount : FrameState → Nat
  | .exposed => 0x08
  | .spoiled => 0x09
  | _ => 0x0A

/-- A RESERVED or BLANK frame becomes EXPOSED, SPOILED or UNUSED; at a position up to the capacity it raises its count (R104). -/
def closeFrame (sh : Sheet) (k : Nat) (f : FrameState) (s : State) : State :=
  let s := setFrameState sh k f s
  if k ≤ capacity s sh then raiseByte (sheetBase sh + sheetCount f) s else s

/-- The frame becomes UNUSED when it is RESERVED. -/
def dropReserved (sh : Sheet) (k : Nat) (s : State) : State :=
  if isReserved s sh k then closeFrame sh k .unused s else s

/-- Every RESERVED frame of a sheet but an excepted one becomes UNUSED (R90). -/
def dropAllReserved (sh : Sheet) (except : Option Nat) (s : State) : State :=
  frameNumbers.foldl (fun s k => if except = some k then s else dropReserved sh k s) s

/-! ### Reservation -/

/-- Write the record of a frame at its reservation (R57): its order fields, its exposure, zero charges, no spoil cause and no
sequence number; then the frame state RESERVED with the copy; then frames used (R103). -/
def reserveFrame (sh : Sheet) (n : Slot) (shot : Nat) (p : PositionPlan) (copy : Nat) (s : State) : State :=
  let k := framesUsed s sh + 1
  let r := frameRecord sh k
  let s := setByte (r + 1) (n.val + 128 * p.intensity.code) s
  let s := setByte (r + 2) (shot + 32 * positionBits p.position) s
  let s := setByte (r + 3) p.exposure s
  let s := setWord (r + 4) (orderNumber s n) s
  let s := setWord (r + 6) p.ticks s
  let s := setLong (r + 0x0C) 0 (setWord (r + 0x0A) 0 (setWord (r + 0x08) 0 s))
  let s := setByte r (FrameState.reserved.code + 64 * copy) s
  setByte (sheetBase sh + 0x06) k s

/-! ### The stand sequence number -/

/-- The number after a number: 16,777,215 is followed by 1 (R106). -/
def nextSequence (x : Nat) : Nat := if x < Config.max24 then x + 1 else 1

/-- Number a was issued before number b (R107). -/
def issuedBefore (a b : Nat) : Bool :=
  let d := (b + (Config.max24 + 1) - a) % (Config.max24 + 1)
  decide (1 ≤ d) && decide (d ≤ 8388607)

/-- Issue the next number: the counter rises and is written into the stand report (R106). -/
def issueSequence (s : State) : State := setLong (Config.report + 0x0C) (nextSequence (sequenceCounter s)) s

/-! ### The capacity cut -/

/-- The frames above k up to the capacity that were UNUSED, and so counted, when the cut began (R105 step 2). -/
def countedAbove (s : State) (sh : Sheet) (k : Nat) : Nat :=
  (frameNumbers.filter fun j =>
    decide (k < j) && decide (j ≤ capacity s sh) && decide (frameCode s sh j = FrameState.unused.code)).length

/-- A RESERVED frame above the cut becomes UNUSED and is not counted. -/
def dropAbove (sh : Sheet) (k j : Nat) (s : State) : State :=
  if k < j ∧ isReserved s sh j = true then setFrameState sh j .unused s else s

/-- A short roll cuts the capacity to k (R105). -/
def cutCapacity (sh : Sheet) (k : Nat) (s : State) : State :=
  let counted := countedAbove s sh k
  let s := frameNumbers.foldl (fun s j => dropAbove sh k j s) s
  let s := setByte (sheetBase sh + 0x0A) (unusedCount s sh - counted) s
  let s := setByte (sheetBase sh + 0x05) k s
  let s := setByte (sheetBase sh + 0x07) 1 s
  setByte (sheetBase sh + 0x06) k s

/-! ### Hands, promotion, retirement and clearing -/

/-- The part writes a sheet hand and records it; no mark is set (R6, R97). -/
def writeSheetHand (sh : Sheet) (h : SheetHand) (s : State) : State :=
  recordSheetHand sh h (setWord (sheetBase sh) h.code s)

/-- The capacity a promotion writes (R99). -/
def promotedCapacity (c : Nat) : Nat := clampTo 12 40 c

/-- The sheet qualifies for promotion: its profile is 0..7 and valid (R98). -/
def sheetQualifies (s : State) (sh : Sheet) : Bool :=
  decide (sheetProfile s sh ≤ 7) && profileValid s (sheetProfile s sh)

/-- A BLANK or RESERVED frame up to the capacity becomes UNUSED at retirement (R109 steps 1 to 3). -/
def retireFrame (sh : Sheet) (k : Nat) (s : State) : State :=
  if isReserved s sh k || (decide (frameCode s sh k = FrameState.blank.code) && decide (k ≤ capacity s sh)) then
    closeFrame sh k .unused s
  else s

/-- Retire a LIVE sheet (R109). -/
def retireSheet (sh : Sheet) (c : RetireCause) (s : State) : State :=
  let s := frameNumbers.foldl (fun s k => retireFrame sh k s) s
  let s := setByte (sheetBase sh + 0x06) (capacity s sh) s
  let s := setByte (sheetBase sh + 0x0B) c.code s
  let s := writeSheetHand sh .retired s
  let s := setLive sh.back none s
  raise .sheetRetired s

/-- Retire the LIVE sheet of a back, if it has one. -/
def retireLive (bk : Back) (c : RetireCause) (s : State) : State :=
  match liveSheet s bk with
  | some sh => retireSheet sh c s
  | none => s

/-- The retire cause a rewind's origin gives at film-out (R108). -/
def rewindCause : RewindOrigin → RetireCause
  | .auto => .rollEndRewound
  | .left .rollEnd => .rollEndRewound
  | .left .ready => .rewindOrder
  | .left .stale => .rewindOrder
  | .left .jammed => .jamRewound
  | .left _ => .none
  | .none => .none

/-- Some label of the sheet is outstanding (R111). -/
def sheetOutstanding (s : State) (sh : Sheet) : Bool := frameNumbers.any fun k => labelOutstanding s sh k

/-- An accepted CLEAR over RETIRED zeroes the header from 06H up and every frame record (R12). -/
def clearSheet (sh : Sheet) (s : State) : State :=
  recordSheetHand sh .clear (zeroBytes (sheetBase sh + 0x06) (sheetBase sh + 0x2C0) s)

/-- The hand rules of a sheet (R11, R12), applied to the recorded hand and the value found. -/
def sheetHandRule (sh : Sheet) (s : State) : State :=
  let found := sheetHandFound s sh
  let rec_ := sheetHand s sh
  if found = rec_.code then s
  else if rec_ = .clear ∧ found = SheetHand.prepared.code then recordSheetHand sh .prepared s
  else if rec_ = .prepared ∧ found = SheetHand.clear.code then recordSheetHand sh .clear s
  else if rec_ = .retired ∧ found = SheetHand.clear.code ∧ sheetOutstanding s sh = false then clearSheet sh s
  else raise .handFault (setWord (sheetBase sh) rec_.code s)

/-- Take a sheet's mark, if it is set, and act on the value found (R7, R11). -/
def handleSheetMark (sh : Sheet) (s : State) : State :=
  if sh ∈ s.watch.sheetMarks then
    sheetHandRule sh { s with watch := { s.watch with sheetMarks := dropMember s.watch.sheetMarks sh } }
  else s

end Sys2Proof.Machine
end

