-- ==== Sys2Proof/Machine/Metering.lean ====
section
/-! DEFINITION. Metering and exposure arithmetic (chapter 6): sums, readings, levels, densities, exposures, lamp ticks, the scan
and the calibration record. -/

namespace Sys2Proof.Machine

open Sys2Proof

/-! ### Readings and levels -/

/-- The reading of a channel: the lit result less the dark result when that is 1 or more, and 1 otherwise (R118). -/
def reading (lit dark : Nat) : Nat := max 1 (lit / 4 - dark / 4)

/-- The table F of R120. -/
def levelTable : List Nat := [0, 1, 2, 3, 4, 5, 6, 6, 7, 8, 8, 9, 10, 10, 11, 11]

/-- The level of a code in 1..4095: twelve for each doubling, and the table for the four bits after the leading one (R120). -/
def level (c : Nat) : Nat :=
  let p := Nat.log2 c
  12 * p + levelTable.getD (c * 16 / 2 ^ p - 16) 0

/-- Apply a function to each channel. -/
def Rgb.map (f : Nat → Nat) (x : Rgb) : Rgb := { red := f x.red, green := f x.green, blue := f x.blue }

/-- Apply a function to each channel of two. -/
def Rgb.zip (f : Nat → Nat → Nat) (x y : Rgb) : Rgb :=
  { red := f x.red y.red, green := f x.green y.green, blue := f x.blue y.blue }

/-- The three readings of a scan (R118). -/
def scanReadings (e : Exposure) : Rgb := Rgb.zip reading e.lit e.dark

/-- The three levels of a scan (R118, R120). -/
def scanLevels (e : Exposure) : Rgb := Rgb.map level (scanReadings e)

/-! ### Densities -/

/-- The open levels of the calibration record, as they stand (R122). -/
def openLevels (s : State) : Rgb :=
  { red := wordAt s (Config.calibration + 2), green := wordAt s (Config.calibration + 4),
    blue := wordAt s (Config.calibration + 6) }

/-- The density of each channel: the open level less the level, and not below 0 (R123). -/
def densities (open_ level_ : Rgb) : Rgb := Rgb.zip (fun o l => o - l) open_ level_

/-- The effective density under a profile's density rule; a rule above 2 is taken as WEIGHTED (R124). -/
def effectiveDensity (rule : Nat) (d : Rgb) : Nat :=
  if rule = 1 then d.green
  else if rule = 2 then max d.red (max d.green d.blue)
  else (d.red + 2 * d.green + d.blue + 2) / 4

/-! ### Exposures -/

/-- What a scan reads from a film profile (R125). -/
structure ProfileReading where
  rule : Nat
  base : Nat
  slope : Nat
  filter : Nat
  lowLight : Bool
deriving DecidableEq, Repr

/-- Read a film profile; a slope above 32 is taken as 32 and a filter factor above 48 as 48 (R125). -/
def readProfile (s : State) (p : Nat) : ProfileReading :=
  { rule := byteAt s (profileBase p + 2)
    base := byteAt s (profileBase p + 3)
    slope := min 32 (byteAt s (profileBase p + 4))
    filter := min 48 (byteAt s (profileBase p + 5))
    lowLight := decide (byteAt s (profileBase p + 6) ≠ 0) }

/-- The base exposure E0 (R126). -/
def baseExposure (p : ProfileReading) (density : Nat) (trim : Int) : Int :=
  (p.base : Int) + (((density * p.slope + 8) / 16 : Nat) : Int) + (p.filter : Int) + trim

/-- The step of a step code, in twelfths (R127). -/
def bracketStep (code : Nat) : Nat := [2, 3, 4, 6, 12].getD code 0

/-- The bracket positions of a bracket count, in ascending order (R57, R127). -/
def bracketPositions (count : Nat) : List Int :=
  if count = 5 then [-2, -1, 0, 1, 2] else if count = 3 then [-1, 0, 1] else [0]

/-- An exposure held within 24..191 (R128). -/
def clampExposure (e : Int) : Nat := (max 24 (min 191 e)).toNat

/-- The intensity and the timing exponent of a clamped exposure (R129). -/
def intensityOf (lowLight : Bool) (e : Nat) : Intensity := if lowLight = true ∧ e ≤ 59 then .quarter else .full

/-- The timing exponent E' (R129). -/
def timingExponent (i : Intensity) (e : Nat) : Nat :=
  match i with
  | .quarter => e + 24
  | .full => e

/-- The table M of R130. -/
def tickTable : List Nat := [256, 271, 287, 304, 323, 342, 362, 384, 406, 431, 456, 483]

/-- The lamp ticks of a timing exponent; a result below 16 is raised to 16 (R130). -/
def lampTicks (e : Nat) : Nat := max 16 ((tickTable.getD (e % 12) 0 * 2 ^ (e / 12) + 128) / 256)

/-- What one bracket position gets from E0 (R127 to R130). -/
def planPosition (e0 : Int) (step : Nat) (lowLight : Bool) (position : Int) : PositionPlan :=
  let unclamped := e0 + position * (step : Int)
  let e := clampExposure unclamped
  let i := intensityOf lowLight e
  { position := position, exposure := e, low := decide (unclamped < 24), high := decide (191 < unclamped),
    intensity := i, ticks := lampTicks (timingExponent i e) }

/-- The results of a COPY scan (R131). -/
structure MeterResult where
  density : Rgb
  effective : Nat
  e0 : Int
  plans : List PositionPlan
deriving DecidableEq, Repr

/-- The computation of a COPY scan for a shot (R123 to R131). -/
def meterShot (s : State) (n : Slot) (i : Nat) : MeterResult :=
  let p := readProfile s (orderProfile s n)
  let d := densities (openLevels s) (scanLevels s.exposure)
  let de := effectiveDensity p.rule d
  let e0 := baseExposure p de (trimUsed s n i)
  { density := d, effective := de, e0 := e0
    plans := (bracketPositions (bracketCount s n i)).map
      (planPosition e0 (bracketStep (stepCode s n i)) p.lowLight) }

/-- A signed number as a 16-bit word. -/
def signedBits (x : Int) : Nat := (x % 65536).toNat

/-- Write Dr, Dg, Db, De, E0 and the marks into the shot outcome, keeping TRIM_CLAMPED (R53). -/
def writeMeterResult (n : Slot) (i : Nat) (r : MeterResult) (s : State) : State :=
  let o := shotOutcome n i
  let s := setByte (o + 0x08) r.density.red s
  let s := setByte (o + 0x09) r.density.green s
  let s := setByte (o + 0x0A) r.density.blue s
  let s := setByte (o + 0x0B) r.effective s
  let s := setWord (o + 0x0C) (signedBits r.e0) s
  let low := if r.plans.any (·.low) then 1 else 0
  let high := if r.plans.any (·.high) then 2 else 0
  let quarter := if r.plans.any (fun p => decide (p.intensity = .quarter)) then 4 else 0
  setByte (o + 0x0E) (byteAt s (o + 0x0E) / 8 * 8 + low + high + quarter) s

/-! ### Calibration -/

/-- Every open level is 96 or more (R121). -/
def qualifies (l : Rgb) : Bool :=
  decide (Config.calibrationLevel ≤ l.red) && decide (Config.calibrationLevel ≤ l.green)
    && decide (Config.calibrationLevel ≤ l.blue)

/-- Store a qualifying calibration: readings, levels, valid mark (R121); CALIBRATED is set (R43). -/
def storeCalibration (r l : Rgb) (s : State) : State :=
  let c := Config.calibration
  let s := setWord (c + 0x0C) r.blue (setWord (c + 0x0A) r.green (setWord (c + 0x08) r.red s))
  let s := setWord (c + 0x06) l.blue (setWord (c + 0x04) l.green (setWord (c + 0x02) l.red s))
  raise .calibrated (setWord c 1 s)

/-- The open levels go into Dr, Dg and Db of the task's shot outcome 0 (R121). -/
def writeOpenLevels (n : Slot) (l : Rgb) (s : State) : State :=
  let o := shotOutcome n 0
  setByte (o + 0x0A) l.blue (setByte (o + 0x09) l.green (setByte (o + 0x08) l.red s))

/-! ### The converter (R114) -/

/-- With no conversion in progress the converter takes the request that comes first: supply, then lamp, then the next conversion of a
metering round, of which `waiting` have not ended (R114). -/
def takeNext (waiting : Nat) (c : Converter) : Converter :=
  match c.converting with
  | some _ => c
  | none =>
    if c.supply then { c with converting := some .supply, supply := false }
    else if c.lamp then { c with converting := some .lamp, lamp := false }
    else if 0 < waiting then { c with converting := some .metering }
    else c

/-- The request waits for the end of another conversion (R114). -/
def requestWaits (q : Requester) (s : State) : Bool :=
  match q with
  | .supply => s.converter.supply
  | .lamp => s.converter.lamp
  | .metering => decide (0 < s.exposure.waiting) && s.converter.converting.isSome

/-- A conversion of the requester can end: it is in progress, or its request does not wait for another conversion's end. One that
was not asked for at a tick is taken as it comes (log 21). -/
def mayEnd (q : Requester) (s : State) : Bool := decide (s.converter.converting = some q) || !requestWaits q s

/-- The conversion in progress ends, and the converter takes the next request (R114). -/
def endConversion (q : Requester) (s : State) : State :=
  if s.converter.converting = some q then
    { s with converter := takeNext s.exposure.waiting { s.converter with converting := none } }
  else s

/-! ### The scan -/

/-- The unit starts a scan: sums and round counts 0, DARK (R116). -/
def startScan (job : ScanJob) (s : State) : State :=
  { s with exposure :=
      { s.exposure with
        scan := .dark, job := job, dark := .zero, lit := .zero, darkRounds := 0, litRounds := 0, waiting := 0 } }

/-- The scan ends or is abandoned: the sums are discarded and the unit is IDLE (R118, R119). -/
def endScan (s : State) : State :=
  { s with exposure :=
      { s.exposure with
        scan := .idle, job := .none, dark := .zero, lit := .zero, darkRounds := 0, litRounds := 0, waiting := 0 } }

/-- A round asks for three conversions, red, green and blue in that order; a converter that is free takes the first (R114). -/
def requestRound (s : State) : State :=
  { s with exposure := { s.exposure with waiting := 3 }, converter := takeNext 3 s.converter }

/-- Add a code to the channel whose conversion has ended: red when three waited, then green, then blue (R114, R116). -/
def addCode (waiting c : Nat) (x : Rgb) : Rgb :=
  if waiting = 3 then { x with red := x.red + c }
  else if waiting = 2 then { x with green := x.green + c }
  else { x with blue := x.blue + c }

/-- A metering conversion ends; the third of its round raises the round count (R116, R117). -/
def convert (c : Nat) (s : State) : State :=
  let e := s.exposure
  let done := if e.waiting = 1 then 1 else 0
  match e.scan with
  | .dark =>
    { s with exposure :=
        { e with dark := addCode e.waiting c e.dark, darkRounds := e.darkRounds + done, waiting := e.waiting - 1 } }
  | .lit =>
    { s with exposure :=
        { e with lit := addCode e.waiting c e.lit, litRounds := e.litRounds + done, waiting := e.waiting - 1 } }
  | .idle => s
  | .computing => s

/-! ### The next-pulse holder -/

/-- Load the holder; the load replaces any pair it held (R132). -/
def loadHolder (p : Pulse) (s : State) : State := { s with exposure := { s.exposure with holder := some p } }

/-- Empty the holder (R134). -/
def emptyHolder (s : State) : State := { s with exposure := { s.exposure with holder := none } }

end Sys2Proof.Machine
end

