-- ==== Sys2Proof/Machine/Orders.lean ====
section
/-! DEFINITION. The Order Engine's records (chapter 2): recorded hands, intake queue, run list, sub-states, roll wanted, the fit
rule, EXCEEDS_ROLL, completion and the end of a stand task. -/

namespace Sys2Proof.Machine

open Sys2Proof

/-! ### Hands and the run list -/

/-- The recorded hand of a slot (R8). -/
def recordedHand (s : State) (n : Slot) : SlotHand := s.orders.recorded[n.val]

/-- Change the recorded hand of a slot. -/
def recordHand (n : Slot) (h : SlotHand) (s : State) : State :=
  { s with orders := { s.orders with recorded := s.orders.recorded.set n.val h n.isLt } }

/-- The part writes a slot hand and records it; no mark is set (R6, R8). -/
def writeHand (n : Slot) (h : SlotHand) (s : State) : State := recordHand n h (setWord (slotBase n) h.code s)

/-- The order of a slot in the run list. -/
def findOrder (s : State) (n : Slot) : Option OrderEntry := s.orders.runList.find? fun e => decide (e.slot = n)

/-- Replace the run list. -/
def setRunList (l : List OrderEntry) (s : State) : State := { s with orders := { s.orders with runList := l } }

/-- Replace the intake queue. -/
def setIntake (l : List Slot) (s : State) : State := { s with orders := { s.orders with intake := l } }

/-- Replace the current shot choice. -/
def setChoice (c : Option ShotChoice) (s : State) : State := { s with orders := { s.orders with choice := c } }

/-- Change the progress record of a slot's order. -/
def updateOrder (n : Slot) (f : OrderEntry → OrderEntry) (s : State) : State :=
  setRunList (s.orders.runList.map fun e => if e.slot = n then f e else e) s

/-- Enter a sub-state and write it into the slot (R29). -/
def setSub (n : Slot) (sub : SubState) (s : State) : State :=
  setByte (outcome n + 0x01) sub.code (updateOrder n (fun e => { e with sub := sub }) s)

/-- An order enters behind the last order of its own priority: every RUSH order stands ahead of every ROUTINE one (R29). -/
def enterRunList (e : OrderEntry) (l : List OrderEntry) : List OrderEntry :=
  if e.rush then l.filter (·.rush) ++ [e] ++ l.filter (fun x => !x.rush) else l ++ [e]

/-- The orders of the run list that are not FINISHING (R23). -/
def activeOrders (s : State) : Nat :=
  (s.orders.runList.filter fun e => decide (e.sub ≠ SubState.finishing)).length

/-- The planned frames of an order's next shot; 0 when no shot is PENDING. -/
def nextPlanned (s : State) (n : Slot) : Nat :=
  match nextShot s n with
  | some i => plannedFrames s n i
  | none => 0

/-- Write the roll wanted fields from the first WAITING_ROLL order in run-list order (R36). -/
def refreshWanted (s : State) : State :=
  match s.orders.runList.find? fun e => decide (e.sub = SubState.waitingRoll) with
  | some e => report 0x11 (nextPlanned s e.slot) (report 0x10 (orderProfile s e.slot) s)
  | none => report 0x11 0 (report 0x10 0 s)

/-! ### The end of an order -/

/-- Write the order state and sub-state 0, write and record DONE, leave the run list, set ORDER_DONE (R42 steps 3 to 5, R43,
R44, R45 step 3); the roll wanted fields follow (R36). -/
def finishOrder (n : Slot) (o : OrderState) (s : State) : State :=
  let s := setByte (outcome n + 0x01) 0 (setByte (outcome n) o.code s)
  let s := writeHand n .done s
  let s := setRunList (s.orders.runList.filter fun e => decide (e.slot ≠ n)) s
  refreshWanted (raise .orderDone s)

/-- The rush surcharge at completion: charged when a frame was exposed, released otherwise (R42 step 1, R180). -/
def settleSurcharge (e : OrderEntry) (s : State) : State :=
  if e.rush then
    (if 1 ≤ framesExposed s e.slot then charge e.slot (rushSurcharge s) s else release e.slot (rushSurcharge s) s)
  else s

/-- Every shot outcome among the first shot count is COMPLETE. -/
def allComplete (s : State) (n : Slot) : Bool :=
  (List.range (min 24 (shotCount s n))).all fun i => decide (shotCode s n i = ShotCode.complete.code)

/-- The order state a COPY order completes with (R42 step 3). -/
def completedState (e : OrderEntry) (s : State) : OrderState :=
  if e.withdrawn then .withdrawn else if allComplete s e.slot then .complete else .partialDone

/-- A COPY order completes (R42). -/
def completeCopy (n : Slot) (s : State) : State :=
  match findOrder s n with
  | none => s
  | some e =>
    let s := settleSurcharge e s
    let s := release n (remaining s n) s
    finishOrder n (completedState e s) s

/-- The order has ended a shot: to WAITING_RUN if a shot is still PENDING, to FINISHING if labels are outstanding, and
otherwise to its completion (R41, R65 step 6). -/
def afterShot (n : Slot) (s : State) : State :=
  match findOrder s n with
  | none => s
  | some e =>
    if (nextShot s n).isSome then refreshWanted (setSub n .waitingRun s)
    else if 0 < e.outstanding then refreshWanted (setSub n .finishing s)
    else completeCopy n s

/-- A label of the order has settled: the outstanding-label count falls by one, and a FINISHING order whose count reaches 0
completes (R41). -/
def labelSettled (n : Slot) (s : State) : State :=
  let s := updateOrder n (fun e => { e with outstanding := e.outstanding - 1 }) s
  match findOrder s n with
  | none => s
  | some e => if e.sub = .finishing ∧ e.outstanding = 0 then completeCopy n s else s

/-- The stand task that rewinds a back: a started REWIND order that names it (R44). -/
def rewindTask (s : State) (bk : Back) : Option OrderEntry :=
  s.orders.runList.find? fun e =>
    decide (e.kind = .rewind) && e.started && decide (backChoice s e.slot = (match bk with | .a => 1 | .b => 2))

/-- The REWIND task of a back ends, if there is one (R44). -/
def endRewindTask (bk : Back) (o : OrderState) (s : State) : State :=
  match rewindTask s bk with
  | some e => finishOrder e.slot o s
  | none => s

/-! ### Shot outcomes -/

/-- Write a shot outcome's code. -/
def setShotCode (n : Slot) (i : Nat) (c : ShotCode) (s : State) : State := setByte (shotOutcome n i) c.code s

/-- Raise the order's shots done (R42). -/
def raiseShotsDone (n : Slot) (s : State) : State := raiseWord (outcome n + 0x04) s

/-- Write a shot outcome with a code and every other field 0 except TRIM_CLAMPED (R35, R51). -/
def writeBareOutcome (n : Slot) (i : Nat) (c : ShotCode) (s : State) : State :=
  let trim := byteAt s (shotOutcome n i + 0x0E) / 8 % 2
  let s := zeroBytes (shotOutcome n i) (shotOutcome n i + 0x10) s
  setByte (shotOutcome n i + 0x0E) (8 * trim) (setShotCode n i c s)

/-- A shot ends without a frame: its outcome is bare, f frame positions are released, shots done rises (R35, R51). -/
def endBareShot (n : Slot) (i : Nat) (c : ShotCode) (s : State) : State :=
  let s := writeBareOutcome n i c s
  let s := raiseShotsDone n s
  release n (plannedFrames s n i * positionPrice s n) s

/-- Every PENDING shot of the order gets a code (R39 step 2, R45 step 1). -/
def closePending (n : Slot) (c : ShotCode) (s : State) : State :=
  (List.range (min 24 (shotCount s n))).foldl
    (fun s i => if shotCode s n i = ShotCode.pending.code then setShotCode n i c s else s) s

/-! ### The fit rule -/

/-- The order's back choice allows the back (R33). -/
def allowsBack (s : State) (n : Slot) (bk : Back) : Bool :=
  decide (backChoice s n = 0) || decide (backChoice s n = (match bk with | .a => 1 | .b => 2))

/-- The LIVE sheet of a matching back: an allowed back whose LIVE sheet has the order's profile (R33). -/
def matchingSheet (s : State) (n : Slot) (bk : Back) : Option Sheet :=
  match liveSheet s bk with
  | some sh => if allowsBack s n bk = true ∧ sheetProfile s sh = orderProfile s n then some sh else none
  | none => none

/-- The back matches and has at least f frames left. -/
def hasRoom (s : State) (n : Slot) (f : Nat) (bk : Back) : Bool :=
  match matchingSheet s n bk with
  | some sh => decide (f ≤ framesLeft s sh)
  | none => false

/-- The back matches and its capacity is at least f. -/
def couldHold (s : State) (n : Slot) (f : Nat) (bk : Back) : Bool :=
  match matchingSheet s n bk with
  | some sh => decide (f ≤ capacity s sh)
  | none => false

/-- The back is READY or STALE. -/
def canServe (s : State) (bk : Back) : Bool :=
  decide ((s.back bk).state = .ready) || decide ((s.back bk).state = .stale)

/-- What the fit rule finds for a shot (R33). -/
inductive Fit where
  | served (bk : Back)
  | passedOver
  | exceedsRoll
  | waits
deriving DecidableEq, Repr

/-- The back chosen among those that satisfy case 1: the only one, else the one in line, else back A (R34). -/
def chooseBack (s : State) (n : Slot) (f : Nat) : Option Back :=
  let ok := fun bk => hasRoom s n f bk && canServe s bk
  match ok .a, ok .b with
  | true, true => if inLine s .b then some .b else some .a
  | true, false => some .a
  | false, true => some .b
  | false, false => none

/-- The fit rule: the first case that holds (R33). -/
def fitRule (s : State) (n : Slot) (f : Nat) : Fit :=
  match chooseBack s n f with
  | some bk => .served bk
  | none =>
    if hasRoom s n f .a || hasRoom s n f .b then .passedOver
    else if ((matchingSheet s n .a).isSome || (matchingSheet s n .b).isSome)
        && !(couldHold s n f .a || couldHold s n f .b) then .exceedsRoll
    else .waits

/-- The order's next shot is written EXCEEDS_ROLL and the order goes on (R35). -/
def exceedNext (n : Slot) (s : State) : State :=
  match nextShot s n with
  | some i => afterShot n (endBareShot n i .exceedsRoll s)
  | none => s

/-- The order goes to WAITING_ROLL (R36). -/
def waitForRoll (n : Slot) (s : State) : State := refreshWanted (raise .rollWanted (setSub n .waitingRoll s))

/-- A sheet went LIVE on a back: the waiting orders it can serve return to WAITING_RUN (R37). -/
def sheetWentLive (bk : Back) (sh : Sheet) (s : State) : State :=
  refreshWanted (s.orders.runList.foldl
    (fun s e =>
      if e.sub = .waitingRoll ∧ orderProfile s e.slot = sheetProfile s sh ∧ allowsBack s e.slot bk = true then
        setSub e.slot .waitingRun s
      else s) s)

/-- A capacity was cut: waiting orders for which the back matches and whose next shot is now larger than every matching
capacity are written EXCEEDS_ROLL (R37). -/
def capacityWasCut (bk : Back) (s : State) : State :=
  s.orders.runList.foldl
    (fun s e =>
      if e.sub = .waitingRoll ∧ (matchingSheet s e.slot bk).isSome = true
          ∧ fitRule s e.slot (nextPlanned s e.slot) = .exceedsRoll then
        exceedNext e.slot s
      else s) s

end Sys2Proof.Machine
end

