-- ==== Sys2Proof/Machine/Labels.lean ====
section
/-! DEFINITION. The Label Unit (chapter 8): composing labels, the label queue, the printer states and the printer line. -/

namespace Sys2Proof.Machine

open Sys2Proof

/-! ### Composing a label -/

/-- A character below 20H is copied as a space (R152). -/
def printable (c : Byte) : Byte := if c.toNat < 0x20 then 0x20 else c

/-- The bytes of a character field: from its first byte up to the first byte of 0, or its full length (R152, R153). -/
def characters (s : State) (a len : Nat) : List Byte :=
  ((List.range' a len).map fun i => Memory.read s.mem i).takeWhile fun c => c != 0

/-- A decimal digit's character. -/
def digit (n : Nat) : Byte := BitVec.ofNat 8 (0x30 + n % 10)

/-- A number in decimal with leading zeros to two characters (R153). -/
def decimal2 (n : Nat) : List Byte := [digit (n / 10), digit n]

/-- A number in decimal with leading zeros to five characters (R153). -/
def decimal5 (n : Nat) : List Byte := [digit (n / 10000), digit (n / 1000), digit (n / 100), digit (n / 10), digit n]

/-- The bracket mark: B-2, B-1, B0, B+1 or B+2, and empty when the bracket count is 1 (R153). -/
def bracketMark (count : Nat) (p : Int) : List Byte :=
  if count = 1 then []
  else if p < 0 then [0x42, 0x2D, digit (-p).toNat]
  else if 0 < p then [0x42, 0x2B, digit p.toNat]
  else [0x42, 0x30]

/-- The texts that the field codes of one label stand for (R152, R153). -/
structure LabelFields where
  orderText : List Byte
  accountText : List Byte
  rollText : List Byte
  frameText : List Byte
  bracketText : List Byte
  copyText : List Byte
  profileText : List Byte
  captionText : List Byte
deriving DecidableEq, Repr

/-- Read the sources of a label as they stand (R152). -/
def labelFields (s : State) (sh : Sheet) (k : Nat) : LabelFields :=
  let n := frameSlot s sh k
  let i := frameShot s sh k
  { orderText := decimal5 (wordAt s (frameRecord sh k + 4))
    accountText := characters s (accountBase (accountIndex s n) + 2) 4
    rollText := decimal5 (rollSerial s sh)
    frameText := decimal2 k
    bracketText := bracketMark (bracketCount s n i) (framePosition s sh k)
    copyText := [digit (frameCopy s sh k)]
    profileText := characters s (profileBase (orderProfile s n) + 8) 4
    captionText := characters s (shotEntry n i + 6) 12 }

/-- The text of a field code's letter, when it is one of the eight (R153). -/
def fieldText (f : LabelFields) (c : Byte) : Option (List Byte) :=
  if c = 0x4F then some f.orderText          -- O
  else if c = 0x41 then some f.accountText   -- A
  else if c = 0x52 then some f.rollText      -- R
  else if c = 0x46 then some f.frameText     -- F
  else if c = 0x42 then some f.bracketText   -- B
  else if c = 0x43 then some f.copyText      -- C
  else if c = 0x50 then some f.profileText   -- P
  else if c = 0x54 then some f.captionText   -- T
  else none

/-- The scan of a style line from left to right: a "^" is read with the character after it, and the pair is a field code or is
copied; every other character is copied (R152 to R154). -/
def expandLine (f : LabelFields) : List Byte → List Byte
  | [] => []
  | [c] => [c]
  | c :: d :: rest =>
    if c = 0x5E then
      (match fieldText f d with
       | some text => text ++ expandLine f rest
       | none => c :: d :: expandLine f rest)
    else c :: expandLine f (d :: rest)

/-- A composed line: the expansion with control characters as spaces, cut at 24 (R152, R154). -/
def composeLine (f : LabelFields) (style : List Byte) : List Byte := ((expandLine f style).map printable).take 24

/-- Compose the queue entry of a frame's label (R152, R155). -/
def composeLabel (s : State) (sh : Sheet) (k : Nat) : LabelEntry :=
  let n := frameSlot s sh k
  let f := labelFields s sh k
  let style := styleBase (styleIndex s n)
  { sheet := sh, frame := k, sequence := frameSequence s sh k, slot := n
    line1 := composeLine f (characters s (style + 0x08) 24)
    line2 := composeLine f (characters s (style + 0x20) 24)
    line3 := composeLine f (characters s (style + 0x38) 24) }

/-- The sequence byte: the low 8 bits of the stand sequence number (R158). -/
def sequenceByte (e : LabelEntry) : Byte := BitVec.ofNat 8 e.sequence

/-- The bytes of a label message before its check byte (R158). -/
def messageBody (e : LabelEntry) : List Byte :=
  [0x11, sequenceByte e] ++ e.line1 ++ [0x0A] ++ e.line2 ++ [0x0A] ++ e.line3 ++ [0x0A, 0x12]

/-- A label message: the body and its sum modulo 256 (R158). -/
def labelMessage (e : LabelEntry) : List Byte :=
  messageBody e ++ [BitVec.ofNat 8 ((messageBody e).map BitVec.toNat).sum]

/-- The bytes of a transmission: an INQUIRE is the byte 05H, and a label message its own bytes (R158). -/
def transmissionBytes : Transmission → List Byte
  | .inquire => [0x05]
  | .label m => m

/-- The bytes of the transmission on the line, none when the transmitter is idle (R151, R158). -/
def bytesOnLine (s : State) : List Byte :=
  match s.labels.transmitter with
  | [] => []
  | t :: _ => transmissionBytes t

/-! ### The line and the printer states -/

/-- The printer is in a state in which the inquiry timer runs (R160). -/
def inquires (p : PrinterState) : Bool :=
  match p with
  | .unknown => true
  | .stockOut => true
  | .lost => true
  | .ready => false
  | .printing => false

/-- Change the transmissions. When an INQUIRE comes to the head of the line, the next one falls due 1 s after it (R160). -/
def setLine (l : List Transmission) (s : State) : State :=
  { s with labels :=
      { s.labels with
        transmitter := l
        inquiryTimer :=
          if l.head? = some .inquire ∧ inquires s.labels.printer = true then some Config.inquiryTime
          else s.labels.inquiryTimer } }

/-- Ask for an INQUIRE. While another transmission is being sent it waits, and the inquiry timer with it (R158, R160). -/
def sendInquire (s : State) : State :=
  if s.labels.transmitter = [] then setLine [.inquire] s
  else
    { s with labels :=
        { s.labels with
          inquiryTimer := none
          transmitter := s.labels.transmitter.take 1 ++ addMember s.labels.transmitter.tail .inquire } }

/-- Enter a printer state and write it into the stand report. The reply timer stops; READY and PRINTING stop the inquiry timer
and drop an INQUIRE that waits (R160; log 17). -/
def enterPrinter (p : PrinterState) (s : State) : State :=
  let l := s.labels
  report 0x09 p.code
    { s with labels :=
        { l with
          printer := p
          replyTimer := none
          inquiryTimer := if inquires p then l.inquiryTimer else none
          transmitter :=
            if inquires p then l.transmitter
            else l.transmitter.take 1 ++ l.transmitter.tail.filter fun t => decide (t ≠ .inquire) } }

/-- Enter STOCK_OUT, LOST or UNKNOWN: INQUIRE is sent at the entry (R160). -/
def enterInquiring (p : PrinterState) (s : State) : State := sendInquire (enterPrinter p s)

/-- Ask for the transmission of a label (R158). -/
def sendMessage (e : LabelEntry) (s : State) : State :=
  { s with labels := { s.labels with transmitter := s.labels.transmitter ++ [.label (labelMessage e)] } }

/-- With the printer READY and the queue not empty, the head is sent: the resend mark clears and the printer is PRINTING
(R161). -/
def trySend (s : State) : State :=
  match s.labels.printer, s.labels.queue with
  | .ready, e :: _ =>
    let s := enterPrinter .printing s
    sendMessage e { s with labels := { s.labels with resend := false } }
  | _, _ => s

/-- The printer enters READY and the head, if one exists, is sent (R161). -/
def enterReady (s : State) : State := trySend (enterPrinter .ready s)

/-! ### The queue -/

/-- Every frame of the four sheets. -/
def allFrames : List (Sheet × Nat) := allSheets.flatMap fun sh => frameNumbers.map fun k => (sh, k)

/-- The label of a frame is WAITING. -/
def isWaiting (s : State) (x : Sheet × Nat) : Bool := decide (labelCode s x.1 x.2 = LabelState.waiting.code)

/-- Keep the frame that was issued first (R157). -/
def earlierFrame (s : State) (best : Option (Sheet × Nat)) (x : Sheet × Nat) : Option (Sheet × Nat) :=
  match best with
  | none => some x
  | some y => if issuedBefore (frameSequence s x.1 x.2) (frameSequence s y.1 y.2) then some x else some y

/-- The WAITING frame whose stand sequence number is earliest, over all four sheets (R157). -/
def earliestWaiting (s : State) : Option (Sheet × Nat) :=
  (allFrames.filter fun x => isWaiting s x).foldl (earlierFrame s) none

/-- Compose a frame's label, append its entry at the tail and write QUEUED (R156, R157). -/
def appendLabel (sh : Sheet) (k : Nat) (s : State) : State :=
  setLabelState sh k .queued (setQueue (s.labels.queue ++ [composeLabel s sh k]) s)

/-- Promote one WAITING label when the queue has room and a frame waits (R157). -/
def promoteOne (s : State) : State :=
  if s.labels.queue.length < Config.labelDepth ∧ 0 < waitingCount s then
    match earliestWaiting s with
    | some (sh, k) => setWaitingCount (waitingCount s - 1) (appendLabel sh k s)
    | none => s
  else s

/-- Repeat a function. -/
def repeatN (f : State → State) : Nat → State → State
  | 0, s => s
  | n + 1, s => repeatN f n (f s)

/-- Promote WAITING labels until the queue is full or no frame waits (R157): at most 32 promotions fill the queue. -/
def promoteLabels (s : State) : State := repeatN promoteOne Config.labelDepth s

/-- Raise the order's count of outstanding labels (R41). -/
def raiseOutstanding (n : Slot) (s : State) : State :=
  updateOrder n (fun e => { e with outstanding := e.outstanding + 1 }) s

/-- A frame recorded EXPOSED enters the Label Unit: QUEUED when the queue has room and none waits, WAITING otherwise; the order's
count of outstanding labels rises; a READY printer is sent the new head (R156). -/
def enterLabel (sh : Sheet) (k : Nat) (s : State) : State :=
  let s :=
    if s.labels.queue.length < Config.labelDepth ∧ waitingCount s = 0 then appendLabel sh k s
    else setWaitingCount (waitingCount s + 1) (setLabelState sh k .waiting s)
  trySend (raiseOutstanding (frameSlot s sh k) s)

/-! ### How labels end -/

/-- A label ends SKIPPED: its label price is released, and the order's labels failed or skipped rises (R167). -/
def skipLabel (sh : Sheet) (k : Nat) (s : State) : State :=
  let s := setLabelState sh k .skipped s
  let n := frameSlot s sh k
  raiseWord (outcome n + 0x0C) (release n (labelPrice s) s)

/-- The head ends SKIPPED and leaves the queue; its order's count falls, and WAITING labels are promoted (R164, R165, R167). -/
def skipHead (s : State) : State :=
  match s.labels.queue with
  | [] => s
  | e :: rest => promoteLabels (labelSettled e.slot (skipLabel e.sheet e.frame (setQueue rest s)))

/-- The head's order has a withdrawal in effect (R164). -/
def headWithdrawn (s : State) : Bool :=
  match s.labels.queue with
  | [] => false
  | e :: _ =>
    match findOrder s e.slot with
    | some o => o.withdrawn
    | none => false

/-- A reply with this sequence byte matches the head, in a state in which replies are taken (R162). -/
def replyMatches (s : State) (q : Byte) : Bool :=
  match s.labels.queue with
  | [] => false
  | e :: _ =>
    decide (sequenceByte e = q)
      && (decide (s.labels.printer = .printing) || decide (s.labels.printer = .lost)
        || decide (s.labels.printer = .stockOut))

/-- After a matching reply the reply timer stops; in PRINTING or LOST the printer enters READY and the new head is sent, in
STOCK_OUT the state stays (R162 step 6). -/
def afterReply (s : State) : State :=
  if s.labels.printer = .stockOut then { s with labels := { s.labels with replyTimer := none } } else enterReady s

/-- An ACK (R162). -/
def takeAck (q : Byte) (s : State) : State :=
  if replyMatches s q then
    match s.labels.queue with
    | [] => s
    | e :: rest =>
      let s := setLabelState e.sheet e.frame .printed (setLabelCharge e.sheet e.frame (labelPrice s) s)
      let s := charge e.slot (labelPrice s) (setQueue rest s)
      let s := labelSettled e.slot (raiseWord (outcome e.slot + 0x0A) s)
      afterReply (promoteLabels s)
  else s

/-- A NAK (R163). -/
def takeNak (q : Byte) (s : State) : State :=
  if replyMatches s q then
    match s.labels.queue with
    | [] => s
    | e :: rest =>
      let s := setLabelState e.sheet e.frame .failed s
      let s := release e.slot (labelPrice s) (setQueue rest s)
      let s := labelSettled e.slot (raiseWord (outcome e.slot + 0x0C) s)
      afterReply (promoteLabels s)
  else s

/-- A READY reply (R166). -/
def takeReady (s : State) : State := if inquires s.labels.printer then enterReady s else s

/-! ### Receiving -/

/-- Change the receiver. -/
def setReceiver (r : Receiver) (s : State) : State := { s with labels := { s.labels with receiver := r } }

/-- Hold a byte for reading, or none (R159). -/
def holdByte (b : Option Byte) (s : State) : State := { s with labels := { s.labels with held := b } }

/-- The Label Unit reads the held byte (R159). -/
def readHeld (s : State) : State :=
  match s.labels.held with
  | none => s
  | some c =>
    let r := s.labels.receiver
    let s := holdByte none s
    match r with
    | .awaitingAck => takeAck c (setReceiver .idle s)
    | .awaitingNak => takeNak c (setReceiver .idle s)
    | .idle =>
      if c = 0x06 then setReceiver .awaitingAck s
      else if c = 0x15 then setReceiver .awaitingNak s
      else if c = 0x13 then takeReady s
      else s

/-- A byte with its stop bit arrives; it is held and read, for the unit is not handling another event (R159). -/
def receiveByte (c : Byte) (s : State) : State := readHeld (holdByte (some c) s)

/-- A received byte is discarded: the receive error count rises, to 65535 at most, and the receiver returns to idle (R159). -/
def discardByte (s : State) : State := setErrors (min 65535 (s.labels.errors + 1)) (setReceiver .idle s)

/-- A reported break (R159, R165): its own byte without a stop bit raises the receive error count, the receiver returns to idle,
LABEL_STOCK is set, and the printer enters STOCK_OUT unless it is there already; a withdrawn order's head is skipped. -/
def takeBreak (s : State) : State :=
  let s := discardByte { s with labels := { s.labels with breakSeen := true } }
  let s := raise .labelStock s
  if s.labels.printer = .stockOut then s
  else
    let s := enterInquiring .stockOut s
    if headWithdrawn s then skipHead s else s

/-! ### Withdrawal and reset -/

/-- The head is the label at the printer: the printer is PRINTING (R167). -/
def atPrinter (s : State) (e : LabelEntry) : Bool :=
  decide (s.labels.printer = .printing) && decide (s.labels.queue.head? = some e)

/-- Skip one label of a withdrawn order and lower the order's count, without its completion test (R39 step 3). -/
def skipWithdrawn (n : Slot) (sh : Sheet) (k : Nat) (s : State) : State :=
  updateOrder n (fun e => { e with outstanding := e.outstanding - 1 }) (skipLabel sh k s)

/-- Every WAITING frame of the order is skipped (R167). -/
def skipWaiting (n : Slot) (s : State) : State :=
  (allFrames.filter fun x => isWaiting s x && decide (frameSlot s x.1 x.2 = n)).foldl
    (fun s x => setWaitingCount (waitingCount s - 1) (skipWithdrawn n x.1 x.2 s)) s

/-- The queue entries of the order that a withdrawal skips: all but the label at the printer (R167). -/
def skippedEntries (s : State) (n : Slot) : List LabelEntry :=
  s.labels.queue.filter fun e => decide (e.slot = n) && !atPrinter s e

/-- A withdrawal settles the order's outstanding labels, and then WAITING labels of other orders are promoted (R167). -/
def skipOrderLabels (n : Slot) (s : State) : State :=
  let s := skipWaiting n s
  let out := skippedEntries s n
  let s := setQueue (s.labels.queue.filter fun e => decide (e ∉ out)) s
  promoteLabels (out.foldl (fun s e => skipWithdrawn n e.sheet e.frame s) s)

/-- The Label Unit takes its reset state at a stand reset (R168): every queued and WAITING label is SKIPPED without an amount, the
queue is emptied, the printer is UNKNOWN and the first INQUIRE is sent. -/
def resetLabels (s : State) : State :=
  let s := s.labels.queue.foldl (fun s e => setLabelState e.sheet e.frame .skipped s) s
  let s := (allFrames.filter fun x => isWaiting s x).foldl (fun s x => setLabelState x.1 x.2 .skipped s) s
  let s := setErrors 0 (setWaitingCount 0 (setQueue [] s))
  enterInquiring .unknown
    { s with labels := { s.labels with
        resend := false, replyTimer := none, inquiryTimer := none, receiver := .idle, held := none
        transmitter := [] } }

end Sys2Proof.Machine
end

