-- ==== Sys2Proof/Machine/Lamp.lean ====
section
/-! DEFINITION. The Lamp Timer with its monitors and interlock (chapter 7), the stand's holds (section 3.9), the carriage and the
feeder drives (sections 4.10, 4.11). -/

namespace Sys2Proof.Machine

open Sys2Proof

/-! ### Holds -/

/-- The stand enters HELD with a cause, or the cause replaces the hold cause; STAND_HELD is set (R68, R69). -/
def enterHeld (c : HoldCause) (s : State) : State := raise .standHeld (setStand .held c s)

/-- A hold condition: it holds the stand in RUNNING, HOLD_PENDING and HELD, and changes nothing in STOPPED (R69). -/
def holdStand (c : HoldCause) (s : State) : State :=
  match s.control.stand with
  | .stopped => s
  | .running => enterHeld c s
  | .holdPending => enterHeld c s
  | .held => enterHeld c s

/-! ### The interlock (R137) -/

/-- A back motor is driven; a deferred start does not drive it (R81). -/
def motorDriven (s : State) (bk : Back) : Bool := decide ((s.back bk).motor.direction ≠ .stopped)

/-- No back motor is driven. -/
def motorsStill (s : State) : Bool := !motorDriven s .a && !motorDriven s .b

/-- The carriage is neither HOMING nor SHIFTING. -/
def carriageStill (s : State) : Bool :=
  decide (s.carriage.state ≠ .homing) && decide (s.carriage.state ≠ .shifting)

/-- The feeder is not moving. -/
def feederStill (s : State) : Bool := decide (s.feeder.drive = .stopped)

/-- Nothing on the stand moves: the lamp may be switched on (R137). -/
def standStill (s : State) : Bool := motorsStill s && carriageStill s && feederStill s

/-- The back is SHUTTER_OPEN and in line (R137). -/
def openInLine (s : State) (bk : Back) : Bool :=
  decide ((s.back bk).state = .shutterOpen) && inLine s bk

/-! ### Pulses -/

/-- The lamp's output at an intensity. -/
def lit : Intensity → LampOutput
  | .full => .full
  | .quarter => .quarter

/-- The lamp goes off, the active pair is emptied, and the timer is IDLE. At an early end of a pulse the tick counter becomes 0, a
DESIGN CHOICE (log 37): of such ends the manual names the counter only at a reset (R149, R150). -/
def endPulse (s : State) : State :=
  { s with lamp :=
      { s.lamp with mode := .idle, counter := 0, output := .off, active := none, trigger := none } }

/-- The timer runs an exposure: WAIT or EXPOSE_ON. -/
def exposing (s : State) : Bool := decide (s.lamp.mode = .wait) || decide (s.lamp.mode = .exposeOn)

/-- The Gate Sequencer commands a shutter closed: the 80 ms timer starts (R87). -/
def commandClose (bk : Back) (s : State) : State :=
  let u := s.back bk
  setBack bk { u with shutter := { u.shutter with command := .close, timer := some Config.shutterTime } } s

/-- The Lamp Timer reports on the pulse: the sequencer keeps the result and commands the shutter closed (R60). -/
def reportPulse (r : PendingResult) (s : State) : State :=
  match s.gate.shot with
  | some x =>
    if s.gate.phase = .passage then
      commandClose x.back { s with gate := { s.gate with shot := some { x with result := r } } }
    else s
  | none => s

/-- A cut: the exposure ends and its cause is reported (R143, R145, R147). -/
def cutPulse (c : SpoilCause) (s : State) : State := reportPulse (.spoiled c) (endPulse s)

/-- A scan is abandoned: the unit is IDLE, a METER pulse ends, and the sequencer is back at its metering wait (R54, R119,
R139). -/
def abandonScan (s : State) : State :=
  if s.exposure.scan = .idle then s
  else
    let s := endScan s
    let s := if s.lamp.mode = .meterOn then endPulse s else s
    if s.gate.phase = .meterScan then { s with gate := { s.gate with phase := .meterWait } } else s

/-- A carriage or feeder drive starts: a lamp that is on goes off first; a METER pulse is cut and its scan abandoned, an exposure
is cut with LAMP (R137, R139, R142). -/
def startDrive (s : State) : State :=
  match s.lamp.mode with
  | .idle => s
  | .meterOn => abandonScan (endPulse s)
  | .wait => cutPulse .lamp s
  | .exposeOn => cutPulse .lamp s

/-- Switch the lamp on for the active pair when the interlock allows it (R141). -/
def switchOn (s : State) : State :=
  match s.lamp.active, s.lamp.trigger with
  | some p, some bk =>
    if standStill s && openInLine s bk then
      { s with lamp := { s.lamp with mode := .exposeOn, counter := p.ticks, output := lit p.intensity } }
    else s
  | _, _ => s

/-- The trigger of an exposure (R140): the holder's pair becomes the active pair; then no pulse for an empty holder, a cut for an
open lid or a SAG, and WAIT otherwise. A lamp wait of 0 switches the lamp on at the trigger itself (R141). -/
def trigger (bk : Back) (s : State) : State :=
  match s.lamp.mode, s.exposure.holder with
  | .idle, some p =>
    let s := emptyHolder s
    if s.lidOpen then reportPulse (.spoiled .lid) s
    else if s.supply.sag then reportPulse (.spoiled .supply) s
    else
      let w := lampWait s
      let s :=
        { s with lamp :=
            { s.lamp with
              mode := .wait, counter := w, active := some p, trigger := some bk, wait := w
              threshold := lampThreshold s p.intensity, lowCount := 0 } }
      if w = 0 then switchOn s else s
  | _, _ => s

/-! ### The carriage (R91, R92) -/

/-- Homing starts: LINE_A at once when its end switch is closed, and otherwise a drive toward line A with the homing timer
(R91). -/
def startHoming (s : State) : State :=
  if s.carriage.endA then
    enterCarriage .lineA { s with carriage := { s.carriage with homingTimer := none } }
  else
    let s := startDrive s
    enterCarriage .homing
      { s with carriage := { s.carriage with homingTimer := some Config.carriageTime, endB := false } }

/-- A shift starts toward a line (R91). The end switches are taken as open once the drive leaves a line (log 7). -/
def startShift (line : Back) (s : State) : State :=
  let s := startDrive s
  enterCarriage .shifting { s with carriage := { s.carriage with target := line, endA := false, endB := false } }

/-- The carriage enters FAULT and, but in STOPPED, holds the stand with CARRIAGE (R92). -/
def carriageFault (s : State) : State :=
  holdStand .carriage (enterCarriage .fault { s with carriage := { s.carriage with homingTimer := none } })

/-! ### The feeder (R93, R94) -/

/-- The feeder drive stops. -/
def stopFeeder (s : State) : State :=
  { s with feeder := { s.feeder with drive := .stopped, target := none, homingTimer := none } }

/-- The feeder goes on toward its target from the position it has, or stops when it is there (R93, R94). A drive that starts
reports it to the Lamp Timer first (R137). -/
def driveToTarget (s : State) : State :=
  match s.feeder.target with
  | none => stopFeeder s
  | some t =>
    if s.feeder.position = t then stopFeeder s
    else
      let s := startDrive s
      { s with feeder := { s.feeder with drive := .moving, homingTimer := none } }

/-- The home switch closes in homing: the position is 1, and the feeder stops or goes on (R94). -/
def feederHomed (s : State) : State := driveToTarget (setPosition 1 s)

/-- The feeder homes, with a target or none (R94). -/
def homeFeeder (t : Option Nat) (s : State) : State :=
  let s := { s with feeder := { s.feeder with target := t } }
  if s.feeder.home then feederHomed s
  else
    let s := startDrive s
    { s with feeder := { s.feeder with drive := .homing, homingTimer := some Config.feederHomingTime } }

/-- The Gate Sequencer commands a move to a position (R93); at position 0 it begins with a homing run (R94). -/
def moveFeeder (t : Nat) (s : State) : State :=
  if s.feeder.position = 0 then homeFeeder (some t) s
  else driveToTarget { s with feeder := { s.feeder with target := some t } }

/-- A position pulse: the position moves by one in the direction of travel, and the drive stops at the target (R93). -/
def feederPulse (s : State) : State :=
  match s.feeder.target with
  | none => s
  | some t =>
    let p := if s.feeder.position < t then s.feeder.position + 1 else s.feeder.position - 1
    driveToTarget (setPosition p { s with feeder := { s.feeder with home := false } })

/-! ### The supply monitor (R144) -/

/-- The supply monitor's next state for a code (R144): in OK a code below F_s raises the below count and N_s of them in a row
enter SAG; in SAG a code above R_s raises the above count and N_s of them in a row return to OK. -/
def sampleSupply (falling rising n code : Nat) (x : Supply) : Supply :=
  if x.sag then
    (if rising < code then
      (if n ≤ x.above + 1 then { sag := false, below := 0, above := 0 } else { x with above := x.above + 1 })
     else { x with above := 0 })
  else
    (if code < falling then
      (if n ≤ x.below + 1 then { sag := true, below := 0, above := 0 } else { x with below := x.below + 1 })
     else { x with below := 0 })

end Sys2Proof.Machine
end

