-- ==== Sys2Proof/Machine/Backs.lean ====
section
/-! DEFINITION. The Back Units (chapter 4): the motor, wind-on, roll end, rewinding, jams, and taking a sheet. -/

namespace Sys2Proof.Machine

open Sys2Proof

/-! ### The motor (R81) -/

/-- Change a back's motor. -/
def setMotor (bk : Back) (m : Motor) (s : State) : State := setBack bk { s.back bk with motor := m } s

/-- Change a back's shutter record. -/
def setShutter (bk : Back) (x : Shutter) (s : State) : State := setBack bk { s.back bk with shutter := x } s

/-- No lamp is lit and no shutter is commanded open and not yet seen closed: a motor may start (R81). -/
def mayStartMotor (s : State) : Bool :=
  decide (s.lamp.output = .off) && !s.backA.shutter.outstanding && !s.backB.shutter.outstanding

/-- The leader run begins: the rewind timer stops and the speed code falls to creep for 2 s (R89). -/
def leaderRun (m : Motor) : Motor :=
  { m with speed := m.creep, ramping := false, rewindTimer := none, leaderTimer := some Config.leaderTime }

/-- The motor starts at creep with its stall or rewind timer (R81, R89). A film-out level already closed begins the leader run
at the start of a rewind (R89). -/
def startedMotor (filmOut : Bool) (m : Motor) : Motor :=
  match m.start with
  | .stopped => m
  | .forward =>
    { m with direction := .forward, start := .stopped, speed := m.creep, ramping := true
             stallTimer := some Config.stallTime }
  | .reverse =>
    let x :=
      { m with direction := .reverse, start := .stopped, speed := m.creep, ramping := true
               rewindTimer := some Config.rewindTime }
    if filmOut then leaderRun x else x

/-- A start that is called for proceeds when it may (R81). -/
def startMotor (bk : Back) (s : State) : State :=
  if mayStartMotor s then setMotor bk (startedMotor (s.back bk).levels.filmOut (s.back bk).motor) s else s

/-- An operation calls for a start: it reads its settings, counts perforations from 0, and starts the motor at once or defers the
start (R81). That the speed code is 0 while the start is deferred is a DESIGN CHOICE (log 40). -/
def callMotor (bk : Back) (d : Direction) (s : State) : State :=
  startMotor bk (setMotor bk
    { direction := .stopped, start := d, speed := 0, target := targetSpeed s, creep := creepSpeed s, ramp := rampStep s
      ramping := false, perforations := 0, stallTimer := none, rewindTimer := none, leaderTimer := none } s)

/-- A motor that stops: no start is called for and no timer of it runs (R81). That its speed code is 0 from then on, and that its
perforation count stands until the next operation or a stand reset, is a DESIGN CHOICE (log 40). -/
def stoppedMotor (m : Motor) : Motor :=
  { m with direction := .stopped, start := .stopped, speed := 0, ramping := false
           stallTimer := none, rewindTimer := none, leaderTimer := none }

def stopMotor (bk : Back) (s : State) : State := setMotor bk (stoppedMotor (s.back bk).motor) s

/-- The speed code rises by the ramp step up to the target (R81). -/
def rampMotor (m : Motor) : Motor := { m with speed := min m.target (m.speed + m.ramp) }

/-- A fall to creep ends the rise (R81). -/
def creepMotor (m : Motor) : Motor := { m with speed := m.creep, ramping := false }

/-- A counted perforation: the count rises, the stall timer restarts, and the speed falls to creep after the count at which its
operation says so (R80, R81, R83). -/
def countPerforation (creepAt : Nat) (m : Motor) : Motor :=
  let x := { m with perforations := m.perforations + 1, stallTimer := some Config.stallTime }
  if x.perforations = creepAt then creepMotor x else x

/-! ### Entering states -/

/-- The back enters READY and records the time of entry (R80, R83, R87). -/
def enterReadyBack (bk : Back) (s : State) : State :=
  let u := s.back bk
  enterBack bk .ready
    (setBack bk { u with readyAt := s.clock, shutter := { u.shutter with sinceReady := false } } s)

/-- The frame that a jam leaves RESERVED: the gate frame when its shutter has been commanded open since READY (R90). -/
def jamException (u : BackUnit) : Option Nat := if u.shutter.sinceReady then some u.gateFrame else none

/-- The blade is driven closed, its timer stops, and it no longer defers a motor. -/
def closedShutter (x : Shutter) : Shutter := { x with command := .close, timer := none, outstanding := false }

/-- A back enters JAMMED (R90): the motor stops, the blade is driven closed, the RESERVED frames of its LIVE sheet but the
exception become UNUSED, and BACK_FAULT is set. -/
def jamBack (bk : Back) (s : State) : State :=
  let s :=
    match liveSheet s bk with
    | some sh => dropAllReserved sh (jamException (s.back bk)) s
    | none => s
  let s := stopMotor bk s
  let s := setShutter bk (closedShutter (s.back bk).shutter) s
  raise .backFault (enterBack bk .jammed s)

/-! ### Rewinding, roll end and wind-on -/

/-- The back enters REWINDING with an origin, the gate frame kept, and calls for the motor in reverse (R88). -/
def beginRewind (bk : Back) (o : RewindOrigin) (s : State) : State :=
  let s := enterBack bk .rewinding (setBack bk { s.back bk with origin := o } s)
  callMotor bk .reverse s

/-- A REWIND task commands its back (R88). With the door open the rewind counts as a door opening in REWINDING: the back is
JAMMED again, and the task ends FAILED_JAM. -/
def commandRewind (bk : Back) (s : State) : State :=
  if (s.back bk).levels.doorOpen then endRewindTask bk .failedJam (jamBack bk s)
  else beginRewind bk (.left (s.back bk).state) s

/-- The back enters ROLL_END and begins an automatic rewind when auto-rewind is set (R85). -/
def enterRollEnd (bk : Back) (s : State) : State :=
  let s := enterBack bk .rollEnd s
  if autoRewind s then beginRewind bk .auto s else s

/-- A wind-on from the gate frame: ROLL_END when it equals the capacity, WINDING otherwise (R82). -/
def windOn (bk : Back) (s : State) : State :=
  match liveSheet s bk with
  | none => s
  | some sh =>
    if (s.back bk).gateFrame = capacity s sh then enterRollEnd bk s
    else callMotor bk .forward (enterBack bk .winding s)

/-! ### Taking a sheet (R79, R98, R99) -/

/-- A qualifying sheet goes LIVE and the back enters LOADING (R99). -/
def promoteSheet (sh : Sheet) (s : State) : State :=
  let s := setByte (sheetBase sh + 0x05) (promotedCapacity (capacity s sh)) s
  let s := writeSheetHand sh .live s
  let s := setLive sh.back (some sh.which) s
  let s := callMotor sh.back .forward (enterBack sh.back .loading s)
  sheetWentLive sh.back sh s

/-- A PREPARED sheet with an invalid profile is rewritten CLEAR, and HAND_FAULT is set (R98). -/
def refuseSheet (sh : Sheet) (s : State) : State := raise .handFault (writeSheetHand sh .clear s)

/-- The back is in AWAITING_SHEET and the sheet is PREPARED. -/
def isCandidate (s : State) (sh : Sheet) : Bool :=
  decide ((s.back sh.back).state = .awaitingSheet) && decide (sheetHand s sh = .prepared)

/-- Examine one sheet: its pending mark is handled first, and then it is promoted or refused (R79, R11, R98). -/
def examineSheet (sh : Sheet) (s : State) : State :=
  if isCandidate s sh then
    let s := handleSheetMark sh s
    if isCandidate s sh then (if sheetQualifies s sh then promoteSheet sh s else refuseSheet sh s) else s
  else s

/-- The back looks for a PREPARED sheet, the first sheet before the second (R79). -/
def lookForSheet (bk : Back) (s : State) : State := examineSheet ⟨bk, .second⟩ (examineSheet ⟨bk, .first⟩ s)

end Sys2Proof.Machine
end

