-- ==== Sys2Proof/Machine/Gate.lean ====
section
/-! DEFINITION. The Gate Sequencer (chapter 3): frame boundaries, withdrawals at the gate, shot ends, feeding, shifting, reserving,
the frame loop, recording, and coming to rest. -/

namespace Sys2Proof.Machine

open Sys2Proof

/-! ### The shot record -/

/-- Change the gate phase. -/
def setPhase (p : GatePhase) (s : State) : State := { s with gate := { s.gate with phase := p } }

/-- Change the shot record. -/
def setShot (r : ShotRecord) (s : State) : State := { s with gate := { s.gate with shot := some r } }

/-- Change the settle wait's timer. -/
def setSettle (t : Timer) (s : State) : State := { s with gate := { s.gate with settleTimer := t } }

/-- The sheet of a shot. -/
def shotSheet (r : ShotRecord) : Sheet := ⟨r.back, r.which⟩

/-- The next frame: the lowest of the set whose result is not recorded (R48). -/
def nextFrame (r : ShotRecord) : Option SetFrame := r.frames.find? fun f => !f.recorded

/-- Every frame of the set is recorded. -/
def allRecorded (r : ShotRecord) : Bool := r.frames.all (·.recorded)

/-- The planned pairs without an EXPOSED frame (R65). -/
def missingPairs (r : ShotRecord) : Nat := r.planned - r.tally.length

/-- The exposure of a bracket position, from the shot's metering. -/
def planFor (r : ShotRecord) (position : Int) : Option PositionPlan :=
  r.plans.find? fun p => decide (p.position = position)

/-- The sequencer is at a frame boundary: no shutter open, the lamp off, and no feeder move, scan or carriage move for the gate
in progress (R66). -/
def GatePhase.boundary : GatePhase → Bool
  | .feedMoving | .meterScan | .shiftMoving | .passage | .reserving => false
  | .idle | .feedArrived | .feedTimedOut | .meterWait | .meterEnd | .shiftWait | .shiftEnd | .frameWait | .armed => true

/-- The gate becomes idle: the shot record is discarded, the holder is emptied and the shot choice cleared (R49, R134). -/
def clearGate (s : State) : State := setChoice none (emptyHolder { s with gate := Gate.reset })

/-- Every frame of the set still RESERVED becomes UNUSED. -/
def dropShotFrames (r : ShotRecord) (s : State) : State :=
  r.frames.foldl (fun s f => dropReserved (shotSheet r) f.frame s) s

/-- Release the commitment of the planned pairs without an EXPOSED frame (R65 step 2). -/
def releaseMissing (r : ShotRecord) (s : State) : State :=
  release r.slot (missingPairs r * positionPrice s r.slot) s

/-! ### Withdrawals (R38 to R40) -/

/-- A withdrawal takes effect on the order as a whole (R39 steps 2 to 5). -/
def withdrawOrder (n : Slot) (s : State) : State :=
  let s := updateOrder n (fun e => { e with withdrawn := true }) s
  let s := skipOrderLabels n (closePending n .withdrawn s)
  match findOrder s n with
  | none => s
  | some e => if e.outstanding = 0 then completeCopy n s else refreshWanted (setSub n .finishing s)

/-- A withdrawal stops the shot at the gate (R39 step 1): PARTIAL when a frame is EXPOSED, WITHDRAWN otherwise. -/
def stopShot (r : ShotRecord) (s : State) : State :=
  let s := releaseMissing r (dropShotFrames r s)
  clearGate
    (if r.tally = [] then setShotCode r.slot r.shot .withdrawn s
     else raiseShotsDone r.slot (setShotCode r.slot r.shot .partialDone s))

/-- The withdrawal of the order at the gate takes effect at a frame boundary, if one has been accepted (R38). A CALIBRATE task
that has started is not stopped (R40). -/
def withdrawAtGate (s : State) : State :=
  match s.gate.shot with
  | none => s
  | some r =>
    if r.calibrate = false ∧ recordedHand s r.slot = .withdraw then withdrawOrder r.slot (stopShot r s) else s

/-- A withdrawal is accepted (R38, R40). -/
def requestWithdrawal (n : Slot) (s : State) : State :=
  match findOrder s n with
  | none => s
  | some e =>
    if e.kind = .copy then
      (if e.sub = .atGate then (if s.gate.phase.boundary then withdrawAtGate s else s) else withdrawOrder n s)
    else if e.started then s
    else finishOrder n .withdrawn s

/-! ### Frame boundaries and coming to rest (R66, R67) -/

/-- In HELD the sequencer rests; a loaded holder is emptied and its frame is armed again later (R66). -/
def restIfHeld (s : State) : State :=
  if s.control.stand = .held ∧ s.gate.shot.isSome = true then
    let p := if s.gate.phase = .armed then GatePhase.frameWait else s.gate.phase
    emptyHolder { s with gate := { s.gate with phase := p, rested := true, settleTimer := none } }
  else s

/-- A pending HOLD takes effect: HELD with cause HOST (R68). -/
def takePendingHold (s : State) : State := if s.control.stand = .holdPending then enterHeld .host s else s

/-- The sequencer reaches a frame boundary, or is at one when a hold arrives: an accepted withdrawal and then a pending HOLD take
effect, and in HELD the sequencer rests (R66 to R68). -/
def reachBoundary (s : State) : State :=
  if s.gate.phase.boundary then restIfHeld (takePendingHold (withdrawAtGate s)) else s

/-- The sequencer may go on: RUNNING, with work at the gate, and not at rest. -/
def mayGoOn (s : State) : Bool :=
  decide (s.control.stand = .running) && s.gate.shot.isSome && !s.gate.rested

/-! ### Shot end (R64, R65) -/

/-- The order goes on after a shot: an accepted withdrawal takes effect at the shot end (R38), else R65 step 6. -/
def orderGoesOn (n : Slot) (s : State) : State :=
  if recordedHand s n = .withdraw then withdrawOrder n s else afterShot n s

/-- The shot ends (R65); `early` when its back failed (R64). -/
def endShot (early : Bool) (s : State) : State :=
  match s.gate.shot with
  | none => s
  | some r =>
    let s := releaseMissing r (dropShotFrames r s)
    let c := if missingPairs r = 0 ∧ early = false then ShotCode.complete else ShotCode.partialDone
    let s := raiseShotsDone r.slot (setShotCode r.slot r.shot c s)
    reachBoundary (orderGoesOn r.slot (clearGate s))

/-- The back has failed: the shot ends early when it is reserving or exposing on that back and frames of its set are
unrecorded (R64). -/
def failShot (bk : Back) (s : State) : State :=
  match s.gate.shot with
  | none => s
  | some r =>
    if r.calibrate = false ∧ r.back = bk ∧ s.gate.phase.step = .exposing ∧ allRecorded r = false then endShot true s else s

/-! ### The frame loop (R58) -/

/-- The sequencer waits for the back to be READY with the next frame: it commands a wind-on of a STALE back and of a gate frame
that lies behind, and starts the settle wait when the frame is at the gate (R58). -/
def frameLoop (s : State) : State :=
  match s.gate.shot with
  | none => s
  | some r =>
    match nextFrame r with
    | none => s
    | some f =>
      let u := s.back r.back
      if u.state = .ready then
        (if u.gateFrame = f.frame then setSettle (some (u.readyAt + ms (settleDelay s) - s.clock)) s
         else if u.gateFrame < f.frame then windOn r.back s
         else s)
      else if u.state = .stale then windOn r.back s
      else s

/-- The next frame's passage begins, from a frame boundary (R58, R66). -/
def beginPassage (s : State) : State :=
  let s := reachBoundary (setPhase .frameWait s)
  if mayGoOn s then frameLoop s else s

/-! ### Reserving (R56, R57) -/

/-- The chosen back can still take the shot: READY or STALE, with the same LIVE sheet and room for the set (R56). DESIGN CHOICE
(log 36): a LIVE sheet is the same when it is the same one of the back's two, also when it was cleared and promoted again. -/
def backCanTake (r : ShotRecord) (s : State) : Bool :=
  canServe s r.back && decide ((s.back r.back).live = some r.which) && decide (r.planned ≤ framesLeft s (shotSheet r))

/-- The shot is returned: the order is WAITING_RUN again and nothing is released (R56). -/
def returnShot (s : State) : State :=
  match s.gate.shot with
  | none => s
  | some r => reachBoundary (setSub r.slot .waitingRun (clearGate s))

/-- The shot outcome names the back, the roll serial and the first frame (R57). -/
def writeFirstFrame (r : ShotRecord) (k : Nat) (s : State) : State :=
  let o := shotOutcome r.slot r.shot
  let s := setByte (o + 0x01) (match r.back with | .a => 1 | .b => 2) s
  setByte (o + 0x04) k (setWord (o + 0x02) (rollSerial s (shotSheet r)) s)

/-- Reserve the next frame of the set for a pair of bracket position and copy, while the sheet has a frame left (R57, R63). -/
def reserveNext (p : PositionPlan) (copy : Nat) (s : State) : State :=
  match s.gate.shot with
  | none => s
  | some r =>
    let sh := shotSheet r
    if 1 ≤ framesLeft s sh ∧ (s.back r.back).live = some r.which then
      let k := framesUsed s sh + 1
      let s := reserveFrame sh r.slot r.shot p copy s
      let s := if r.frames = [] then writeFirstFrame r k s else s
      setShot { r with frames :=
        r.frames ++ [{ frame := k, position := p.position, copy := copy, recorded := false }] } s
    else s

/-- The pairs of the set in reservation order: positions ascending, and for each the copies (R57). -/
def setPairs (s : State) (r : ShotRecord) : List (PositionPlan × Nat) :=
  r.plans.flatMap fun p => (List.range' 1 (copyCount s r.slot r.shot)).map fun c => (p, c)

/-- RESERVING: return the shot when its back cannot take it, else reserve the set and begin the frame loop (R56, R57). -/
def reserveShot (s : State) : State :=
  match s.gate.shot with
  | none => s
  | some r =>
    if backCanTake r s then
      let s := (setPairs s r).foldl (fun s x => reserveNext x.1 x.2 s) (setPhase .reserving s)
      let got := match s.gate.shot with
        | some x => x.frames.length
        | none => 0
      if got = r.planned then beginPassage s
      else if got = 0 then returnShot s
      else endShot true s
    else returnShot s

/-! ### Shifting (R55) -/

/-- SHIFTING ends at the chosen back's line (R55, R66). -/
def endShift (s : State) : State :=
  let s := reachBoundary
    { s with gate := { s.gate with phase := .shiftEnd, shiftTimer := none } }
  if mayGoOn s then reserveShot s else s

/-- The carriage wait: in line, SHIFTING ends; at the other line, a shift is commanded with its 3 s timer; in HOMING the sequencer
waits (R55). -/
def shiftStep (s : State) : State :=
  match s.gate.shot with
  | none => s
  | some r =>
    if inLine s r.back then endShift s
    else if inLine s (otherBack r.back) then
      let s := startShift r.back s
      { s with gate := { s.gate with phase := .shiftMoving, shiftTimer := some Config.carriageTime } }
    else setPhase .shiftWait s

/-- METERING ends and SHIFTING begins (R53, R55). -/
def endMetering (s : State) : State :=
  let s := reachBoundary (setPhase .meterEnd s)
  if mayGoOn s then shiftStep (setPhase .shiftWait s) else s

/-- The carriage has come to a line or its homing has ended: a sequencer in its carriage wait reads the carriage state again. -/
def carriageArrived (s : State) : State :=
  if s.gate.phase = .shiftWait ∧ mayGoOn s = true then shiftStep s else s

/-- A shift for the gate has reached its line. In HELD the sequencer rests at the carriage wait (R67). -/
def shiftArrived (s : State) : State :=
  if s.gate.phase = .shiftMoving then
    (if s.control.stand = .held then
      reachBoundary { s with gate := { s.gate with phase := .shiftWait, shiftTimer := none } }
     else endShift s)
  else s

/-! ### Feeding (R50) -/

/-- The tray is at the position: the move timer stops and the original-present test follows (R50). -/
def arrive (s : State) : State :=
  reachBoundary { s with gate := { s.gate with phase := .feedArrived, moveTimer := none } }

/-- The distance of a move: the target itself from position 0 (R50). -/
def moveDistance (position target : Nat) : Nat :=
  if position = 0 then target else if position < target then target - position else position - target

/-- FEEDING starts: at the position already, the arrival is taken at once; otherwise a move is commanded with its timer (R50). -/
def startFeeding (s : State) : State :=
  match s.gate.shot with
  | none => s
  | some r =>
    let t := trayPosition s r.slot r.shot
    if s.feeder.position = t then arrive s
    else
      let d := moveDistance s.feeder.position t
      let s := moveFeeder t s
      if feederStill s then arrive s
      else { s with gate := { s.gate with phase := .feedMoving, moveTimer := some (Config.moveTime d) } }

/-- The feeder reports its arrival to a sequencer that waits for it (R93). -/
def feederArrived (s : State) : State :=
  if s.gate.phase = .feedMoving ∧ feederStill s = true then arrive s else s

/-! ### Recording a frame (R61 to R63) -/

/-- Mark a frame of the set recorded. -/
def markRecorded (k : Nat) (r : ShotRecord) : ShotRecord :=
  { r with frames := r.frames.map fun f => if f.frame = k then { f with recorded := true } else f }

/-- The sequencer records a frame EXPOSED: the next stand sequence number, the frame charge, the state, the tally and the counts;
then the charge, the label and the lamp-fault count (R61, R106, R148). -/
def recordExposed (r : ShotRecord) (f : SetFrame) (s : State) : State :=
  let sh := shotSheet r
  let s := issueSequence s
  let s := setFrameSequence sh f.frame (sequenceCounter s) s
  let x := framePrice s (orderProfile s r.slot)
  let s := closeFrame sh f.frame .exposed (setFrameCharge sh f.frame x s)
  let s := setShot (markRecorded f.frame { r with tally := r.tally ++ [(f.position, f.copy)] }) s
  let s := raiseByte (shotOutcome r.slot r.shot + 0x05) s
  let s := raiseWord (outcome r.slot + 0x06) s
  let s := chargeFrame r.slot x s
  setFaultCount 0 (enterLabel sh f.frame s)

/-- The sequencer writes a frame SPOILED with its cause and raises the counts (R61, R72). -/
def writeSpoiled (r : ShotRecord) (f : SetFrame) (c : SpoilCause) (s : State) : State :=
  let sh := shotSheet r
  let s := closeFrame sh f.frame .spoiled (setSpoilCause sh f.frame c s)
  let s := setShot (markRecorded f.frame r) s
  raiseWord (outcome r.slot + 0x08) (raiseByte (shotOutcome r.slot r.shot + 0x06) s)

/-- A LAMP-spoiled frame raises the consecutive lamp-fault count, to 3 at most, and at 3 the stand is held with LAMP (R148). -/
def countLampFault (s : State) : State :=
  let n := min 3 (s.lamp.faultCount + 1)
  let s := setFaultCount n s
  if n = 3 then holdStand .lamp s else s

/-- The reshoot test: a frame spoiled with a cause other than SHUTTER is reshot when fewer than two reshoots were used and the
sheet has a frame left (R63). -/
def reshoot (f : SetFrame) (c : SpoilCause) (s : State) : State :=
  match s.gate.shot with
  | none => s
  | some r =>
    match planFor r f.position with
    | none => s
    | some p =>
      if c ≠ .shutter ∧ r.reshoots < Config.maxReshoots ∧ 1 ≤ framesLeft s (shotSheet r) then
        let s := reserveNext p f.copy (setShot { r with reshoots := r.reshoots + 1 } s)
        setByte (shotOutcome r.slot r.shot + 0x07) (r.reshoots + 1) s
      else s

/-- The sequencer records a frame SPOILED: the record and the counts, the lamp-fault count for LAMP, and the reshoot test (R61,
R63). -/
def recordSpoiled (r : ShotRecord) (f : SetFrame) (c : SpoilCause) (s : State) : State :=
  let s := writeSpoiled r f c s
  let s := if c = .lamp then countLampFault s else s
  reshoot f c s

/-- Record the next frame with the pending result (R61). -/
def recordFrame (s : State) : State :=
  match s.gate.shot with
  | none => s
  | some r =>
    match nextFrame r, r.result with
    | some f, .good => recordExposed r f s
    | some f, .spoiled c => recordSpoiled r f c s
    | some _, .none => s
    | none, _ => s

/-- The back is told that its gate frame is used, unless it has entered JAMMED (R62). -/
def tellUsed (bk : Back) (s : State) : State := if (s.back bk).state = .jammed then s else windOn bk s

/-- After a recording: the used-frame notice; then the shot ends when every frame is recorded, ends early when the back is
JAMMED, and otherwise goes on to the next frame (R62, R64). -/
def afterRecording (bk : Back) (s : State) : State :=
  let s := tellUsed bk s
  match s.gate.shot with
  | none => s
  | some r =>
    if allRecorded r then endShot false s
    else if (s.back bk).state = .jammed then endShot true s
    else beginPassage s

/-- Record the frame of the passage on a back, and go on. -/
def finishPassage (bk : Back) (s : State) : State := afterRecording bk (recordFrame s)

/-! ### Resuming after a hold (R70) -/

/-- The sequencer resumes from its rest point (R70). -/
def resume (s : State) : State :=
  if s.gate.rested then
    let s := { s with gate := { s.gate with rested := false } }
    match s.gate.phase with
    | .feedTimedOut => startFeeding s
    | .meterEnd => shiftStep (setPhase .shiftWait s)
    | .shiftWait => shiftStep s
    | .shiftEnd => reserveShot s
    | .frameWait => frameLoop s
    | .armed => frameLoop (setPhase .frameWait s)
    | .idle => s
    | .feedMoving => s
    | .feedArrived => s
    | .meterWait => s
    | .meterScan => s
    | .shiftMoving => s
    | .reserving => s
    | .passage => s
  else s

/-! ### Slot hands (R9, R10) -/

/-- The hand rules of a slot, applied to the recorded hand and the value found (R9). -/
def slotHandRule (n : Slot) (s : State) : State :=
  let found := handFound s n
  let rec_ := recordedHand s n
  if found = rec_.code then s
  else if (rec_ = .empty ∨ rec_ = .done) ∧ found = SlotHand.filed.code then
    recordHand n .filed (setIntake (s.orders.intake ++ [n]) s)
  else if rec_ = .filed ∧ found = SlotHand.empty.code then
    recordHand n .empty (setIntake (dropMember s.orders.intake n) s)
  else if rec_ = .taken ∧ found = SlotHand.withdraw.code then requestWithdrawal n (recordHand n .withdraw s)
  else if rec_ = .done ∧ found = SlotHand.empty.code then recordHand n .empty s
  else if rec_ = .done ∧ found = SlotHand.withdraw.code then setWord (slotBase n) SlotHand.done.code s
  else raise .handFault (setWord (slotBase n) rec_.code s)

/-- Take a slot's mark, if it is set, out of the pending slot order, and act on the value found (R7, R9). -/
def handleSlotMark (n : Slot) (s : State) : State :=
  if n ∈ s.watch.slotOrder then
    slotHandRule n { s with watch := { s.watch with slotOrder := dropMember s.watch.slotOrder n } }
  else s

end Sys2Proof.Machine
end

