-- ==== Sys2Proof/Machine/Takes.lean ====
section
/-! DEFINITION. Takes (sections 2.2, 2.3) and shot choices (section 2.5). -/

namespace Sys2Proof.Machine

open Sys2Proof

/-! ### Validation (R24, R25) -/

/-- Some shot entry among the first shot count entries fails a check. -/
def someEntry (s : State) (n : Slot) (bad : Nat → Bool) : Bool := (List.range (shotCount s n)).any bad

/-- A tray position of 0 or above 80. -/
def badTray (s : State) (n : Slot) (i : Nat) : Bool :=
  decide (trayPosition s n i = 0) || decide (80 < trayPosition s n i)

/-- A bracket count other than 1, 3 or 5, or a step code above 4. -/
def badBracketEntry (s : State) (n : Slot) (i : Nat) : Bool :=
  let c := bracketCount s n i
  !(decide (c = 1) || decide (c = 3) || decide (c = 5)) || decide (4 < stepCode s n i)

/-- Copies of 0 or above 3. -/
def badCopiesEntry (s : State) (n : Slot) (i : Nat) : Bool :=
  decide (copyCount s n i = 0) || decide (3 < copyCount s n i)

/-- The kind of an order, from its kind byte. -/
def orderKind (s : State) (n : Slot) : Option OrderKind :=
  if kindByte s n = 1 then some .copy
  else if kindByte s n = 2 then some .calibrate
  else if kindByte s n = 3 then some .rewind
  else none

/-- The checks of a COPY order in the order of the table; the first that fails is the reason (R24). -/
def checkCopy (s : State) (n : Slot) : Option RefusalCode :=
  let i := accountIndex s n
  if 63 < i ∨ (accountState s i ≠ 1 ∧ accountState s i ≠ 2) then some .badAccount
  else if accountState s i = 2 then some .accountClosed
  else if 7 < orderProfile s n ∨ profileValid s (orderProfile s n) = false then some .badProfile
  else if shotCount s n = 0 ∨ 24 < shotCount s n then some .badShots
  else if someEntry s n (badTray s n) then some .badPosition
  else if someEntry s n (badBracketEntry s n) then some .badBracket
  else if someEntry s n (badCopiesEntry s n) then some .badCopies
  else if 3 < styleIndex s n ∨ styleValid s (styleIndex s n) = false then some .badStyle
  else if 2 < backChoice s n then some .badBack
  else if calibrated s = false then some .notCalibrated
  else if commitmentFits s n = false then some .overCeiling
  else none

/-- The checks at the take: a refusal code, or the kind of an order that passes (R24, R25). -/
def checkOrder (s : State) (n : Slot) : RefusalCode ⊕ OrderKind :=
  match orderKind s n with
  | none => .inl .badKind
  | some .copy =>
    match checkCopy s n with
    | some c => .inl c
    | none => .inr .copy
  | some .calibrate => if badTray s n 0 then .inl .badPosition else .inr .calibrate
  | some .rewind => if backChoice s n = 1 ∨ backChoice s n = 2 then .inr .rewind else .inl .badBack

/-! ### The take (R23, R26, R28) -/

/-- A refused order (R26): the outcome area is zeroed, the order state REFUSED and the code are written, then DONE with
ORDER_DONE. -/
def refuseOrder (n : Slot) (c : RefusalCode) (s : State) : State :=
  let s := zeroBytes (outcome n) (outcome n + 0x200) s
  let s := setByte (outcome n + 0x02) c.code (setByte (outcome n) OrderState.refused.code s)
  raise .orderDone (writeHand n .done s)

/-- The TRIM_CLAMPED mark of a COPY order's shots whose trim is outside −24..+24 (R28 step 2). -/
def markTrims (n : Slot) (s : State) : State :=
  (List.range (min 24 (shotCount s n))).foldl
    (fun s i => if trimOutside s n i then setByte (shotOutcome n i + 0x0E) 8 s else s) s

/-- The outcome area of an accepted order with its planned commitment (R28 steps 1 and 2). -/
def openOutcome (n : Slot) (k : OrderKind) (x : Nat) (s : State) : State :=
  let s := zeroBytes (outcome n) (outcome n + 0x200) s
  let s := setByte (outcome n + 0x01) SubState.waitingRun.code s
  let s := setRemaining n x (setLong (outcome n + 0x10) x s)
  if k = .copy then markTrims n s else s

/-- An accepted order (R28): its outcome area, its commitment, TAKEN, and its place in the run list. -/
def acceptOrder (n : Slot) (k : OrderKind) (s : State) : State :=
  let x := if k = .copy then planCommitment s n else 0
  let e : OrderEntry :=
    { slot := n, kind := k, rush := isRush s n, sub := .waitingRun, started := false, withdrawn := false, outstanding := 0 }
  let s := openOutcome n k x s
  let s := if k = .copy then commit n x s else s
  let s := writeHand n .taken s
  setRunList (enterRunList e s.orders.runList) s

/-- The take condition: the intake queue is not empty and fewer than four orders of the run list are not FINISHING (R23). -/
def mayTake (s : State) : Bool := decide (s.orders.intake ≠ []) && decide (activeOrders s < Config.runDepth)

/-- The entry the engine chooses: the oldest whose priority is RUSH, and otherwise the head (R23). -/
def chooseEntry (s : State) : Option Slot :=
  match s.orders.intake.find? fun n => isRush s n with
  | some n => some n
  | none => s.orders.intake.head?

/-- Take a chosen slot: it leaves the intake queue and is accepted or refused (R22, R23). -/
def takeSlot (n : Slot) (s : State) : State :=
  let s := setIntake (dropMember s.orders.intake n) s
  match checkOrder s n with
  | .inl c => refuseOrder n c s
  | .inr k => acceptOrder n k s

/-- Choose, handle the chosen slot's pending mark, and choose again when that retracts it (R10, R23). Each retraction shortens the
queue, so `fuel` is its length. -/
def takeFrom : Nat → State → State
  | 0, s => s
  | fuel + 1, s =>
    match chooseEntry s with
    | none => s
    | some n =>
      let s := handleSlotMark n s
      if recordedHand s n = .filed then takeSlot n s else takeFrom fuel s

/-! ### Stand tasks at a shot choice (R32) -/

/-- A CALIBRATE task starts: AT_GATE, and the sequencer feeds to the tray position of shot entry 0 (R32, R43). -/
def startCalibrate (n : Slot) (s : State) : State :=
  let s := updateOrder n (fun e => { e with started := true }) (setSub n .atGate s)
  startFeeding (setShot
    { slot := n, shot := 0, calibrate := true, back := .a, which := .first, planned := 0, plans := [], frames := []
      tally := [], reshoots := 0, result := .none } s)

/-- The back a REWIND order names. -/
def namedBack (s : State) (n : Slot) : Back := if backChoice s n = 2 then .b else .a

/-- What a REWIND order finds (R32). -/
inductive RewindFinding where
  | rewinds
  | passedOver
  | noFilm
deriving DecidableEq, Repr

/-- The table of R32. -/
def rewindFinding : BackState → RewindFinding
  | .ready | .rollEnd | .stale | .jammed | .orphanFilm => .rewinds
  | .winding | .loading => .passedOver
  | .empty | .doorOpen | .awaitingSheet | .shutterOpen | .rewinding | .filmOut => .noFilm

/-- A REWIND task at a shot choice (R32). -/
def considerRewind (n : Slot) (s : State) : State :=
  let bk := namedBack s n
  match rewindFinding (s.back bk).state with
  | .rewinds =>
    commandRewind bk (updateOrder n (fun e => { e with started := true }) (setSub n .atGate s))
  | .passedOver => s
  | .noFilm => finishOrder n .noFilm s

/-- The gate is idle. -/
def gateIdle (s : State) : Bool := decide (s.gate.phase = .idle) && decide (s.gate.shot = none)

/-- One order of the run list at the stand-task part of a choice (R32); once a CALIBRATE task has taken the gate the choice has
ended. -/
def considerTask (e : OrderEntry) (s : State) : State :=
  if gateIdle s = true ∧ e.started = false ∧ recordedHand s e.slot ≠ .withdraw then
    match e.kind with
    | .copy => s
    | .calibrate => startCalibrate e.slot s
    | .rewind => considerRewind e.slot s
  else s

/-! ### COPY orders at a shot choice (R33, R34) -/

/-- A shot is served (R34): the choice is recorded, the order is AT_GATE, and the sequencer begins FEEDING. -/
def serveShot (n : Slot) (i : Nat) (bk : Back) (s : State) : State :=
  match (s.back bk).live with
  | none => s
  | some w =>
    let f := plannedFrames s n i
    let s := setSub n .atGate (setChoice (some { slot := n, shot := i, back := bk, frames := f }) s)
    startFeeding (setShot
      { slot := n, shot := i, calibrate := false, back := bk, which := w, planned := f, plans := [], frames := []
        tally := [], reshoots := 0, result := .none } s)

/-- Apply the fit rule to the order's next shot; a shot that exceeds the roll is skipped and the next one is tested at once
(R33). An order has at most 24 shots. -/
def considerShots (n : Slot) : Nat → State → State
  | 0, s => s
  | fuel + 1, s =>
    match nextShot s n with
    | none => s
    | some i =>
      match fitRule s n (plannedFrames s n i) with
      | .served bk => serveShot n i bk s
      | .passedOver => s
      | .exceedsRoll => considerShots n fuel (exceedNext n s)
      | .waits => waitForRoll n s

/-- One order of the run list at the COPY part of a choice (R33). -/
def considerCopy (e : OrderEntry) (s : State) : State :=
  if gateIdle s = true ∧ e.kind = .copy ∧ e.sub = .waitingRun ∧ recordedHand s e.slot ≠ .withdraw then
    considerShots e.slot 24 s
  else s

/-- A shot choice: the stand tasks, and unless a CALIBRATE task has taken the gate, the COPY orders (R31). -/
def shotChoice (s : State) : State :=
  let s := s.orders.runList.foldl (fun s e => considerTask e s) s
  s.orders.runList.foldl (fun s e => considerCopy e s) s

end Sys2Proof.Machine
end

