-- ==== Sys2Proof/Machine/Resets.lean ====
section
/-! DEFINITION. The resets: the stand reset block by block, a power-on or line reset, the zeroing's end and start-up, and the
meanings of STAND_RESET_END, POWER_ON_RESET, LINE_RESET, RESET_RELEASE and ZEROING_END. -/

namespace Sys2Proof.Machine

open Sys2Proof

/-! ### The stand reset, block by block -/

/-- The frame whose shutter has been commanded is written SPOILED with RESET (R72). -/
def spoilPassage (r : ShotRecord) (s : State) : State :=
  match nextFrame r with
  | some f => writeSpoiled r f .reset s
  | none => s

/-- The Gate Sequencer ends its work: the frame in passage is SPOILED with RESET, every other RESERVED frame of the set becomes
UNUSED, and the shot record is discarded (R72). -/
def resetGate (s : State) : State :=
  match s.gate.shot with
  | none => clearGate s
  | some r => clearGate (dropShotFrames r (if s.gate.phase = .passage then spoilPassage r s else s))

/-- The Lamp Timer and the supply monitor (R149). -/
def resetLamp (s : State) : State :=
  let s := endPulse s
  setFaultCount 0 { s with lamp := { s.lamp with lowCount := 0 }, supply := Supply.reset }

/-- No request of the converter waits. A conversion in progress is never interrupted, and sampling continues (R114, R135). -/
def resetConverter (s : State) : State := { s with converter := { s.converter with supply := false, lamp := false } }

/-- A back's film is in motion, also with its motor start deferred (R77, R95). -/
def inMotion (st : BackState) : Bool :=
  decide (st = .loading) || decide (st = .winding) || decide (st = .rewinding)

/-- The back is SHUTTER_OPEN, or READY with its shutter commanded open (R95). -/
def shutterInUse (u : BackUnit) : Bool :=
  decide (u.state = .shutterOpen) || (decide (u.state = .ready) && decide (u.shutter.command = .open))

/-- A Back Unit's reset state (R95): a back in motion jams; a back whose shutter is in use is commanded closed and goes STALE;
every other state is kept. In every back the perforation count is 0, its timers are stopped, and the shutter command is none,
but for a close still awaited. -/
def resetBack (bk : Back) (s : State) : State :=
  let u := s.back bk
  let closing := shutterInUse u
  let s :=
    if inMotion u.state then jamBack bk s
    else if closing then commandClose bk (enterBack bk .stale s)
    else s
  let v := s.back bk
  let x := if closing then v.shutter else { v.shutter with command := .none, timer := none }
  setBack bk { v with motor := { stoppedMotor v.motor with perforations := 0 }, shutter := x } s

/-- The carriage (R95): SHIFTING and HOMING end in FAULT without a hold. -/
def resetCarriage (s : State) : State :=
  if carriageStill s then s
  else enterCarriage .fault { s with carriage := { s.carriage with homingTimer := none } }

/-- An order of the run list ends INTERRUPTED (R45): its PENDING shots are written INTERRUPTED, its remaining commitment is
released, and DONE is written. -/
def interruptOrder (e : OrderEntry) (s : State) : State :=
  let s :=
    if e.kind = .copy then
      let s := closePending e.slot .interrupted s
      release e.slot (remaining s e.slot) s
    else s
  finishOrder e.slot .interrupted s

/-- The slots in order. -/
def allSlots : List Slot := List.finRange 16

/-- The Order Engine's reset: every order ends in run-list order (R45), and the intake queue is rebuilt from the slots recorded
FILED (R46). -/
def resetOrders (s : State) : State :=
  let s := setChoice none (s.orders.runList.foldl (fun s e => interruptOrder e s) s)
  setIntake (allSlots.filter fun n => decide (recordedHand s n = .filed)) s

/-- The Board Watch clears every mark and keeps which settle marks it found set (R19). -/
def clearMarks (s : State) : State :=
  { s with watch := { slotOrder := [], sheetMarks := [], settleMarks := [], settleHeld := s.watch.settleMarks } }

/-- The stand-reset key (R195): STOPPED, no cause, reset cause none, and every block takes its reset state, the Gate Sequencer
before the backs and the Order Engine (R72, R45). -/
def takeStandReset (s : State) : State :=
  let s := { s with control := { s.control with resetting := true } }
  let s := resetGate (setResetCause .none (setStand .stopped .none s))
  let s := emptyHolder (endScan (resetLamp s))
  let s := resetConverter s
  let s := resetBack .b (resetBack .a s)
  let s := resetLabels (stopFeeder (resetCarriage s))
  clearMarks (resetOrders s)

/-- Every block has taken its reset state: no back still waits for its close switch (R95, R195). -/
def resetTaken (s : State) : Bool :=
  s.control.resetting && !running s.backA.shutter.timer && !running s.backB.shutter.timer

/-- The accounts. -/
def allAccounts : List Account := List.finRange 64

/-- The account's low or high settle word is not 0. -/
def settlePending (s : State) (i : Account) : Bool :=
  decide (wordAt s (accountBase i.val + 0x0C) ≠ 0) || decide (wordAt s (accountBase i.val + 0x0E) ≠ 0)

/-- The watch re-marks the hands and the settles (R19). -/
def remark (s : State) : State :=
  let due := allAccounts.filter fun i =>
    decide (i ∈ s.watch.settleHeld) || settlePending s i || decide (i ∈ s.watch.settleMarks)
  { s with watch := { slotOrder := allSlots, sheetMarks := allSheets, settleMarks := due, settleHeld := [] } }

/-- The stand reset ends: the re-marks, the stand-reset mark clear, the reset cause STAND (R195). -/
def endStandReset (s : State) : State :=
  let s := remark s
  setResetCause .stand { s with control := { s.control with resetting := false } }

/-! ### Power-on and line resets -/

/-- The part held in a power-on or line reset (R197): every block at its reset value. Common memory is not yet zeroed, and no
host access reaches it until it is (R18). -/
def holdInReset (c : ResetCause) (s : State) : State :=
  { State.reset with
    mem := s.mem
    hostData := s.hostData
    clock := s.clock
    pending := s.pending
    control := { Control.reset with startUp := .held c } }

/-- The state a back takes from its switches (R96). -/
def startUpState (l : BackLevels) : BackState :=
  if l.doorOpen then .doorOpen else if l.cassette then .orphanFilm else .empty

/-- Every block as the zeroing's end finds it, with the first levels of the inputs (R18, R76). -/
def zeroed (x : InputLevels) (s : State) : State :=
  { State.reset with
    hostData := s.hostData
    clock := s.clock
    pending := s.pending
    backA := { BackUnit.reset with levels := x.backA }
    backB := { BackUnit.reset with levels := x.backB }
    lidOpen := x.lidOpen
    originalPresent := x.originalPresent
    carriage := { Carriage.reset with endA := x.endA, endB := x.endB }
    feeder := { Feeder.reset with home := x.home }
    control := { Control.reset with startUp := .homing } }

/-- Start-up ends when both homings have ended: the start-up mark is set and the Label Unit begins inquiring (R198, R168). -/
def tryEndStartUp (s : State) : State :=
  if s.control.startUp = .homing ∧ s.carriage.state ≠ .homing ∧ s.feeder.drive ≠ .homing then
    enterInquiring .unknown { s with control := { s.control with startUp := .ended } }
  else s

/-- The zeroing ends (R18, R198): the reset cause, the backs' states, and the two homings. -/
def endZeroing (c : ResetCause) (x : InputLevels) (s : State) : State :=
  let s := setResetCause c (zeroed x s)
  let s := enterBack .b (startUpState x.backB) (enterBack .a (startUpState x.backA) s)
  tryEndStartUp (homeFeeder none (startHoming s))

/-! ### Meanings -/

/-- STAND_RESET_END (R19, R195). -/
def execStandResetEnd (s : State) : Result := .next (if resetTaken s then endStandReset s else s)

/-- POWER_ON_RESET (R197). -/
def execPowerOnReset (s : State) : Result := .next (holdInReset .powerOn s)

/-- LINE_RESET (R197): it replaces whatever was in progress. -/
def execLineReset (s : State) : Result := .next (holdInReset .line s)

/-- RESET_RELEASE (R198): the zeroing begins. -/
def execResetRelease (s : State) : Result :=
  .next (match s.control.startUp with
    | .held c => { s with control := { s.control with startUp := .zeroing c } }
    | .zeroing _ => s
    | .homing => s
    | .ended => s)

/-- ZEROING_END (R18, R198). -/
def execZeroingEnd (levels : InputLevels) (s : State) : Result :=
  .next (match s.control.startUp with
    | .zeroing c => endZeroing c levels s
    | .held _ => s
    | .homing => s
    | .ended => s)

end Sys2Proof.Machine
end

