-- ==== Sys2Proof/Machine/Port.lean ====
section
/-! DEFINITION. The host port (R1): the guard (R14 to R16), host writes of common memory with their marks (R6), the registers and
the stand commands (R68, R70, R190 to R195). -/

namespace Sys2Proof.Machine

open Sys2Proof

/-! ### The guard -/

/-- The slot that holds an address of the order board. -/
def slotOf (a : Nat) : Slot := ⟨a / Config.recordStride % 16, Nat.mod_lt _ (by decide)⟩

/-- The sheet that holds an address of the roll sheets. -/
def sheetOf (a : Nat) : Sheet :=
  let i := (a - Config.sheets) / Config.recordStride
  ⟨if i < 2 then .a else .b, if i % 2 = 0 then .first else .second⟩

/-- The account that holds an address of the account table. -/
def accountOf (a : Nat) : Account := ⟨(a - Config.accounts) / 0x20 % 64, Nat.mod_lt _ (by decide)⟩

/-- The order of the slot is taken: its recorded hand is TAKEN or WITHDRAW (R16). -/
def slotRuns (s : State) (n : Slot) : Bool :=
  decide (recordedHand s n = .taken) || decide (recordedHand s n = .withdraw)

/-- The sheet's words 02H and 04H belong to the part: LIVE or RETIRED (R4, R16). -/
def sheetHeld (s : State) (sh : Sheet) : Bool :=
  decide (sheetHand s sh = .live) || decide (sheetHand s sh = .retired)

/-- A word of a slot is part-owned from 200H up, and guarded from 002H up while the slot's order runs (R4, R16). -/
def slotWordGuarded (s : State) (a : Nat) : Bool :=
  let off := a % Config.recordStride
  decide (0x200 ≤ off) || (decide (2 ≤ off) && slotRuns s (slotOf a))

/-- A word of a sheet: the hand is the host's, words 02H and 04H are the part's while the sheet is LIVE or RETIRED, all else is
the part's (R4, R16). -/
def sheetWordGuarded (s : State) (a : Nat) : Bool :=
  let off := a % Config.recordStride
  decide (6 ≤ off) || (decide (2 ≤ off) && sheetHeld s (sheetOf a))

/-- A word of an account: the saturated mark and everything from 10H up are the part's (R4). -/
def accountWordGuarded (a : Nat) : Bool :=
  let off := a % 0x20
  decide (off = 6) || decide (0x10 ≤ off)

/-- The tables that the run list guards: profiles, prices, styles and settings (R15). -/
def inRunGuard (a : Nat) : Bool :=
  (decide (Config.profiles ≤ a) && decide (a < 0x5940)) || (decide (Config.styles ≤ a) && decide (a < Config.calibration))

/-- The calibration and the stand report (R4). -/
def inPartTable (a : Nat) : Bool :=
  (decide (Config.calibration ≤ a) && decide (a < 0x5C60)) || (decide (Config.report ≤ a) && decide (a < 0x5E00))

/-- The Board Watch drops a host write to the word at this even address (R14). -/
def guarded (s : State) (a : Nat) : Bool :=
  if a < Config.sheets then slotWordGuarded s a
  else if a < Config.accounts then sheetWordGuarded s a
  else if a < Config.profiles then accountWordGuarded a
  else (inRunGuard a && decide (s.orders.runList ≠ [])) || inPartTable a

/-! ### Host writes of common memory -/

/-- A served write to a watched word sets its mark; a slot joins the tail of the pending slot order unless it is in it (R6). -/
def markWritten (a : Nat) (s : State) : State :=
  if a < Config.sheets ∧ a % Config.recordStride = 0 then
    { s with watch := { s.watch with slotOrder := addMember s.watch.slotOrder (slotOf a) } }
  else if Config.sheets ≤ a ∧ a < Config.accounts ∧ a % Config.recordStride = 0 then
    { s with watch := { s.watch with sheetMarks := addMember s.watch.sheetMarks (sheetOf a) } }
  else if Config.accounts ≤ a ∧ a < Config.profiles ∧ a % 0x20 = 0x0C then
    { s with watch := { s.watch with settleMarks := addMember s.watch.settleMarks (accountOf a) } }
  else s

/-- A dropped write: GUARD_HIT and the guard address (R14). -/
def dropWrite (a : Nat) (s : State) : State := raise .guardHit (setWord (Config.report + 0x12) a s)

/-- A host write of one word: dropped in silence until the zeroing has ended (R18), dropped by the guard (R14), or stored with
its mark (R1, R6). -/
def hostWrite (addr : Addr) (value : Word) (s : State) : State :=
  let a := evenAddr addr
  if isLive s then (if guarded s a then dropWrite a s else markWritten a (setWord a value.toNat s)) else s

/-! ### STAND -/

/-- The stand enters RUNNING: hold cause none, a carriage at FAULT is homed again, and the sequencer resumes (R68, R70, R92). -/
def enterRunning (s : State) : State :=
  let s := setStand .running .none s
  resume (if s.carriage.state = .fault then startHoming s else s)

/-- A host RUN (R68, R70). -/
def commandRun (s : State) : State :=
  if atWork s then
    match s.control.stand with
    | .stopped => if s.lidOpen then enterHeld .lid s else enterRunning s
    | .running => s
    | .holdPending => enterRunning s
    | .held => if s.lidOpen then enterHeld .lid s else enterRunning s
  else s

/-- A host HOLD (R68): HOLD_PENDING, and HELD at once at a frame boundary (R66). -/
def commandHold (s : State) : State :=
  if atWork s then
    match s.control.stand with
    | .running => reachBoundary (setStand .holdPending .none s)
    | .stopped => s
    | .holdPending => s
    | .held => s
  else s

/-- A host write of the stand-reset key (R194, R195). -/
def commandStandReset (s : State) : State := if atWork s then takeStandReset s else s

/-- A host write of a register (R1, R18, R190, R192, R194). -/
def hostWriteRegister (reg : Register) (value : Word) (s : State) : State :=
  match reg with
  | .ident => s
  | .notice => if isLive s then writeNotice value s else s
  | .noticeEn => if isLive s then writeEnables value s else s
  | .stand =>
    if value = 0x0001 then commandRun s
    else if value = 0x0002 then commandHold s
    else if value = 0xC303 then commandStandReset s
    else s

/-- A host write with the register select at an address (R1). -/
def hostWriteRegisterAt (a : Addr) (value : Word) (s : State) : State := hostWriteRegister (registerAt a) value s

/-- The row of the table that a host write of a register is (R1, R190, R192, R194). -/
def registerWrite (reg : Register) (value : Word) : Instr :=
  match reg with
  | .ident => .ignoredRegisterWrite .ident value
  | .notice => .noticeWrite value
  | .noticeEn => .noticeEnWrite value
  | .stand =>
    if value = 0x0001 then .run
    else if value = 0x0002 then .hold
    else if value = 0xC303 then .standReset
    else .ignoredRegisterWrite .stand value

/-! ### Meanings -/

/-- HOST_MEMORY_WRITE (R1, R6, R14). -/
def execHostMemoryWrite (addr : Addr) (value : Word) (s : State) : Result := .next (hostWrite addr value s)

/-- NOTICE_READ (R190). Until the zeroing ends the read returns 0 (R18). -/
def execNoticeRead (s : State) : Result := .next (if isLive s then readNotice s else { s with hostData := 0 })

/-- NOTICE_WRITE (R190). -/
def execNoticeWrite (value : Word) (s : State) : Result := .next (hostWriteRegister .notice value s)

/-- NOTICE_EN_WRITE (R192). -/
def execNoticeEnWrite (value : Word) (s : State) : Result := .next (hostWriteRegister .noticeEn value s)

/-- RUN (R68, R70, R194). -/
def execRun (s : State) : Result := .next (hostWriteRegister .stand 0x0001 s)

/-- HOLD (R68, R194). -/
def execHold (s : State) : Result := .next (hostWriteRegister .stand 0x0002 s)

/-- STAND_RESET (R194, R195). -/
def execStandReset (s : State) : Result := .next (hostWriteRegister .stand 0xC303 s)

/-- IGNORED_REGISTER_WRITE (R1, R194): a write of IDENT, of a STAND value that is not recognised, or of STAND while a stand reset
is taken. It is served by the port like every register write, and the port ignores it. -/
def execIgnoredRegisterWrite (reg : Register) (value : Word) (s : State) : Result :=
  .next (hostWriteRegister reg value s)

end Sys2Proof.Machine
end

