-- ==== Sys2Proof/Machine/Hands.lean ====
section
/-! DEFINITION. The meanings of the marks, the takes and the shot choice: SLOT_MARK_TAKE, SHEET_MARK_TAKE, SETTLE, TAKE and
SHOT_CHOICE. A block takes a mark from the end of start-up on (R7) and not while a stand reset is taken (log 10). -/

namespace Sys2Proof.Machine

open Sys2Proof

/-- The Order Engine takes the mark at the head of the pending slot order (R7, R9). -/
def takeSlotMark (s : State) : State :=
  match s.watch.slotOrder with
  | [] => s
  | n :: _ => handleSlotMark n s

/-- A Back Unit takes a sheet's mark; a back in AWAITING_SHEET then looks for a PREPARED sheet (R7, R11, R79). -/
def takeSheetMark (sh : Sheet) (s : State) : State :=
  if sh ∈ s.watch.sheetMarks then lookForSheet sh.back (handleSheetMark sh s) else s

/-- The Charge Unit takes an account's settle mark and makes the settle step (R7, R13, R181). -/
def takeSettleMark (i : Account) (s : State) : State :=
  if i ∈ s.watch.settleMarks then
    settleStep i.val { s with watch := { s.watch with settleMarks := dropMember s.watch.settleMarks i } }
  else s

/-- SLOT_MARK_TAKE (R7, R9). -/
def execSlotMarkTake (s : State) : Result := .next (if atWork s then takeSlotMark s else s)

/-- SHEET_MARK_TAKE (R7, R11, R79). -/
def execSheetMarkTake (sheet : Sheet) (s : State) : Result := .next (if atWork s then takeSheetMark sheet s else s)

/-- SETTLE (R181). -/
def execSettle (account : Account) (s : State) : Result := .next (if atWork s then takeSettleMark account s else s)

/-- TAKE (R23): one take, when the take condition holds. -/
def execTake (s : State) : Result :=
  .next (if atWork s && mayTake s then takeFrom s.orders.intake.length s else s)

/-- A shot choice may be made: the stand is RUNNING and the gate is idle (R31). -/
def mayChoose (s : State) : Bool := atWork s && decide (s.control.stand = .running) && gateIdle s

/-- SHOT_CHOICE (R31). -/
def execShotChoice (s : State) : Result := .next (if mayChoose s then shotChoice s else s)

end Sys2Proof.Machine
end

