-- ==== Sys2Proof/Machine/Feeding.lean ====
section
/-! DEFINITION. The meanings of the feeder's events: FEEDER_POSITION_PULSE, ORIGINAL_PRESENT_TEST, FEEDER_MOVE_TIMEOUT,
FEEDER_HOME_SWITCH and FEEDER_HOMING_TIMEOUT. -/

namespace Sys2Proof.Machine

open Sys2Proof

/-- A CALIBRATE task ends: the gate becomes idle and the order is written like a completed one (R43). -/
def endCalibrate (n : Slot) (o : OrderState) (s : State) : State := reachBoundary (finishOrder n o (clearGate s))

/-- A shot with no original ends NO_ORIGINAL, and the order goes on (R51). -/
def endNoOriginal (r : ShotRecord) (s : State) : State :=
  reachBoundary (orderGoesOn r.slot (clearGate (endBareShot r.slot r.shot .noOriginal s)))

/-- The original-present test (R50); for a CALIBRATE task the level's meaning is reversed (R43). -/
def testOriginal (present : Bool) (s : State) : State :=
  match s.gate.shot with
  | none => s
  | some r =>
    if r.calibrate then (if present then endCalibrate r.slot .notClear s else setPhase .meterWait s)
    else if present then setPhase .meterWait s
    else endNoOriginal r s

/-- The sequencer waits for the original-present test: after the arrival, and not held. -/
def awaitsTest (s : State) : Bool := decide (s.gate.phase = .feedArrived) && mayGoOn s

/-- The move timer expires (R52): the feeder stops where it is, the stand is held with FEEDER, and the sequencer rests. -/
def feederTimedOut (s : State) : State :=
  let s := stopFeeder { s with gate := { s.gate with phase := .feedTimedOut, moveTimer := none } }
  reachBoundary (holdStand .feeder s)

/-- FEEDER_POSITION_PULSE (R93). -/
def execFeederPositionPulse (s : State) : Result :=
  .next (if s.feeder.drive = .moving then feederArrived (feederPulse s) else s)

/-- ORIGINAL_PRESENT_TEST (R50): the filtered level is taken, and a sequencer that waits for it goes on. -/
def execOriginalPresentTest (present : Bool) (s : State) : Result :=
  .next (if isLive s then
      let s := { s with originalPresent := present }
      if awaitsTest s then testOriginal present s else s
    else s)

/-- FEEDER_MOVE_TIMEOUT (R52). -/
def execFeederMoveTimeout (s : State) : Result :=
  .next (if s.gate.phase = .feedMoving ∧ running s.gate.moveTimer = true then feederTimedOut s else s)

/-- FEEDER_HOME_SWITCH (R94). -/
def execFeederHomeSwitch (s : State) : Result :=
  .next (if isLive s then
      let s := { s with feeder := { s.feeder with home := true } }
      if s.feeder.drive = .homing then tryEndStartUp (feederArrived (feederHomed s)) else s
    else s)

/-- FEEDER_HOMING_TIMEOUT (R94): the drive stops and the position stays 0. -/
def execFeederHomingTimeout (s : State) : Result :=
  .next (if s.feeder.drive = .homing ∧ running s.feeder.homingTimer = true then tryEndStartUp (stopFeeder s) else s)

end Sys2Proof.Machine
end

