-- ==== Sys2Proof/Machine/Scans.lean ====
section
/-! DEFINITION. The meanings of a metering scan: METERING_SCAN_START, DARK_ROUND, METER_PULSE_REQUEST, LIT_ROUND,
METERING_CONVERSION and METER_PULSE_END. -/

namespace Sys2Proof.Machine

open Sys2Proof

/-- The metering wait's conditions hold (R53), and no scan runs (R116). -/
def scanMayStart (s : State) : Bool :=
  decide (s.gate.phase = .meterWait) && mayGoOn s && !s.supply.sag && standStill s
    && decide (s.exposure.scan = .idle)

/-- What the work at the gate scans for (R115). -/
def jobOf (r : ShotRecord) : ScanJob := if r.calibrate then .calibrate else .copy r.slot r.shot

/-- The sequencer starts the scan (R53, R116). -/
def beginScan (s : State) : State :=
  match s.gate.shot with
  | none => s
  | some r => setPhase .meterScan (startScan (jobOf r) s)

/-- A dark round is due: DARK, the last round ended, and fewer than four taken (R116). -/
def darkRoundDue (s : State) : Bool :=
  decide (s.exposure.scan = .dark) && decide (s.exposure.waiting = 0) && decide (s.exposure.darkRounds < 4)

/-- A lit round is due: LIT with the lamp on, the last round ended, and fewer than four taken (R117). -/
def litRoundDue (s : State) : Bool :=
  decide (s.exposure.scan = .lit) && decide (s.lamp.mode = .meterOn) && decide (s.exposure.waiting = 0)
    && decide (s.exposure.litRounds < 4)

/-- The four dark rounds have ended, so the METER pulse is asked for (R116, R138). -/
def pulseDue (s : State) : Bool :=
  decide (s.exposure.scan = .dark) && decide (s.exposure.waiting = 0) && decide (s.exposure.darkRounds = 4)

/-- The Lamp Timer takes a METER request in IDLE, with the interlock's leave and the lid closed (R138). -/
def mayMeter (s : State) : Bool := standStill s && !s.lidOpen && decide (s.lamp.mode = .idle)

/-- The METER pulse starts: FULL for 400 ticks, and the scan is LIT (R117, R138). -/
def startMeter (s : State) : State :=
  { s with
    lamp := { s.lamp with mode := .meterOn, counter := Config.meterTicks, output := .full }
    exposure := { s.exposure with scan := .lit } }

/-- The METER pulse is asked for; one that cannot be switched on abandons the scan (R119, R138). -/
def requestMeter (s : State) : State := if mayMeter s then startMeter s else reachBoundary (abandonScan s)

/-- The computation of a CALIBRATE scan and the end of its task (R121, R43). -/
def finishCalibration (n : Slot) (s : State) : State :=
  let r := scanReadings s.exposure
  let l := scanLevels s.exposure
  let good := qualifies l
  let s := if good then storeCalibration r l s else s
  endCalibrate n (if good then .complete else .failedDim) (endScan (writeOpenLevels n l s))

/-- The computation of a COPY scan: the results go into the shot outcome and the shot record, and METERING ends (R53, R131). -/
def finishMetering (r : ShotRecord) (s : State) : State :=
  let m := meterShot s r.slot r.shot
  let s := setShot { r with plans := m.plans } (writeMeterResult r.slot r.shot m s)
  endMetering (endScan s)

/-- The METER pulse has ended with the lamp off, and the unit computes (R117, R118). -/
def compute (s : State) : State :=
  match s.gate.shot with
  | none => endScan s
  | some r => if r.calibrate then finishCalibration r.slot s else finishMetering r s

/-- METERING_SCAN_START (R53, R116). -/
def execMeteringScanStart (s : State) : Result := .next (if scanMayStart s then beginScan s else s)

/-- DARK_ROUND (R116). -/
def execDarkRound (s : State) : Result := .next (if darkRoundDue s then requestRound s else s)

/-- METER_PULSE_REQUEST (R138). -/
def execMeterPulseRequest (s : State) : Result := .next (if pulseDue s then requestMeter s else s)

/-- LIT_ROUND (R117). -/
def execLitRound (s : State) : Result := .next (if litRoundDue s then requestRound s else s)

/-- A metering conversion ends; its code is added when its scan still waits for it (R114, R116, R119). -/
def endMeteringConversion (code : Nat) (s : State) : State :=
  endConversion .metering (if 0 < s.exposure.waiting then convert code s else s)

/-- METERING_CONVERSION (R114, R116). -/
def execMeteringConversion (code : AdcCode) (s : State) : Result :=
  .next (if mayEnd .metering s then endMeteringConversion code.toNat s else s)

/-- METER_PULSE_END (R117, R118, R138). -/
def execMeterPulseEnd (s : State) : Result :=
  .next (if s.lamp.mode = .meterOn then
      let s := endPulse s
      if s.exposure.scan = .lit then compute s else s
    else s)

end Sys2Proof.Machine
end

