-- ==== Sys2Proof/Machine/Moves.lean ====
section
/-! DEFINITION. The meanings of the carriage's events: CARRIAGE_END_SWITCH, SHIFT_TIMEOUT and HOMING_TIMEOUT. -/

namespace Sys2Proof.Machine

open Sys2Proof

/-- An end switch closes: its raw level (R76). -/
def closeEnd (line : Back) (s : State) : State :=
  match line with
  | .a => { s with carriage := { s.carriage with endA := true } }
  | .b => { s with carriage := { s.carriage with endB := true } }

/-- The drive stops at a line, and no homing timer runs (R91). -/
def stopAtLine (line : Back) (s : State) : State :=
  enterCarriage (lineOf line) { s with carriage := { s.carriage with homingTimer := none } }

/-- An end switch closes: it ends a homing at line A, or a shift at its line (R91, R55). -/
def reachLine (line : Back) (s : State) : State :=
  let s := closeEnd line s
  if s.carriage.state = .homing ∧ line = .a then tryEndStartUp (carriageArrived (stopAtLine line s))
  else if s.carriage.state = .shifting ∧ s.carriage.target = line then shiftArrived (stopAtLine line s)
  else s

/-- The shift timer expires: the carriage is at FAULT, the stand is held with CARRIAGE, and the sequencer rests at its carriage
wait (R55, R92). -/
def shiftTimedOut (s : State) : State :=
  reachBoundary (carriageFault { s with gate := { s.gate with phase := .shiftWait, shiftTimer := none } })

/-- CARRIAGE_END_SWITCH (R91). -/
def execCarriageEndSwitch (line : Back) (s : State) : Result := .next (if isLive s then reachLine line s else s)

/-- The sequencer times a shift that the carriage still makes (R55). -/
def shiftTimed (s : State) : Bool :=
  decide (s.gate.phase = .shiftMoving) && running s.gate.shiftTimer && decide (s.carriage.state = .shifting)

/-- SHIFT_TIMEOUT (R55). -/
def execShiftTimeout (s : State) : Result := .next (if shiftTimed s then shiftTimedOut s else s)

/-- HOMING_TIMEOUT (R91, R92). -/
def execHomingTimeout (s : State) : Result :=
  .next (if s.carriage.state = .homing ∧ running s.carriage.homingTimer = true then
      tryEndStartUp (reachBoundary (carriageFault s))
    else s)

end Sys2Proof.Machine
end

