-- ==== Sys2Proof/Machine/Exposing.lean ====
section
/-! DEFINITION. The meanings of a frame's passage: SETTLE_DELAY_END, SHUTTER_OPEN_COMMAND, SHUTTER_OPEN_SWITCH,
SHUTTER_OPEN_TIMEOUT, LAMP_WAIT_END, EXPOSE_PULSE_END, SHUTTER_CLOSE_SWITCH and SHUTTER_CLOSE_TIMEOUT. -/

namespace Sys2Proof.Machine

open Sys2Proof

/-! ### Arming -/

/-- The back of a shot is READY with the next frame at the gate (R58). -/
def frameAtGate (s : State) (r : ShotRecord) : Bool :=
  match nextFrame r with
  | some f => decide ((s.back r.back).state = .ready) && decide ((s.back r.back).gateFrame = f.frame)
  | none => false

/-- The frame is armed: the holder is loaded with the lamp ticks and the intensity of its bracket position (R59 step 1, R132). -/
def armFrame (s : State) : State :=
  match s.gate.shot with
  | none => s
  | some r =>
    if frameAtGate s r then
      match (nextFrame r).bind fun f => planFor r f.position with
      | some p => setSettle none (setPhase .armed (loadHolder { ticks := p.ticks, intensity := p.intensity } s))
      | none => s
    else s

/-- The settle wait runs, and the sequencer may go on (R58). -/
def settling (s : State) : Bool := decide (s.gate.phase = .frameWait) && mayGoOn s && running s.gate.settleTimer

/-! ### Opening -/

/-- A back's shutter is commanded open with its 80 ms timer (R86). -/
def commandOpen (bk : Back) (s : State) : State :=
  setShutter bk { command := .open, timer := some Config.shutterTime, sinceReady := true, outstanding := true } s

/-- The arming wait's conditions hold (R59 step 2). -/
def mayOpen (s : State) : Bool :=
  decide (s.gate.phase = .armed) && mayGoOn s && !s.supply.sag && standStill s

/-- The pending result is none, and the chosen back's shutter is commanded open (R59 step 3). -/
def openShutter (s : State) : State :=
  match s.gate.shot with
  | none => s
  | some r =>
    if (s.back r.back).state = .ready then commandOpen r.back (setPhase .passage (setShot { r with result := .none } s))
    else s

/-- The back waits for its open switch: READY, commanded open, its timer running (R86). -/
def opening (u : BackUnit) : Bool :=
  decide (u.state = .ready) && decide (u.shutter.command = .open) && running u.shutter.timer

/-- The filtered levels of the shutter switches. -/
def shutterLevels (bk : Back) (open_ close : Bool) (s : State) : State :=
  let u := s.back bk
  setBack bk { u with levels := { u.levels with shutterOpen := open_, shutterClose := close } } s

/-- The shutter timer stops. -/
def stopShutterTimer (bk : Back) (s : State) : State :=
  setShutter bk { (s.back bk).shutter with timer := none } s

/-- The open switch closes in time: SHUTTER_OPEN, and the back in line passes the trigger (R86, R140). -/
def shutterOpened (bk : Back) (s : State) : State :=
  let s := enterBack bk .shutterOpen (stopShutterTimer bk s)
  if inLine s bk then trigger bk s else s

/-- Set the pending result of the shot. -/
def setResult (p : PendingResult) (s : State) : State :=
  match s.gate.shot with
  | some r => setShot { r with result := p } s
  | none => s

/-- The passage of the shot at the gate is on this back. -/
def passageOn (s : State) (bk : Back) : Bool :=
  decide (s.gate.phase = .passage) && decide (s.gate.shot.map ShotRecord.back = some bk)

/-- The sequencer records the frame of its passage on a back and goes on (R61, R62). -/
def recordPassage (bk : Back) (s : State) : State := if passageOn s bk then finishPassage bk s else s

/-- The shutter fails to open (R59, R86): the holder is emptied, the result is SPOILED with SHUTTER, the back is JAMMED, and the
frame is recorded at once. -/
def openFailed (bk : Back) (s : State) : State :=
  let s := if passageOn s bk then setResult (.spoiled .shutter) (emptyHolder s) else s
  recordPassage bk (jamBack bk s)

/-! ### Closing -/

/-- The back waits for its close switch in SHUTTER_OPEN (R87). -/
def closing (u : BackUnit) : Bool :=
  decide (u.state = .shutterOpen) && decide (u.shutter.command = .close) && running u.shutter.timer

/-- The back waits for its close switch in STALE, under a stand reset (R95). -/
def staleClosing (u : BackUnit) : Bool := decide (u.state = .stale) && running u.shutter.timer

/-- The close switch has been seen closed: the timer stops and no motor is deferred for this shutter (R81, R87). -/
def shutterSeenClosed (bk : Back) (s : State) : State :=
  setShutter bk { (s.back bk).shutter with timer := none, outstanding := false } s

/-- The close switch closes in time: READY, and the frame is recorded (R87, R61). -/
def shutterClosed (bk : Back) (s : State) : State := recordPassage bk (enterReadyBack bk (shutterSeenClosed bk s))

/-- The close ends in STALE: the shutter command is none (R95). -/
def staleClosed (bk : Back) (s : State) : State :=
  setShutter bk { (s.back bk).shutter with command := .none, timer := none, outstanding := false } s

/-- A pending result that a close failure leaves: GOOD becomes SPOILED with SHUTTER (R60). -/
def spoilGood : PendingResult → PendingResult
  | .good => .spoiled .shutter
  | .spoiled c => .spoiled c
  | .none => .none

/-- The shutter fails to close (R60, R87): the back is JAMMED and the frame is recorded. -/
def closeFailed (bk : Back) (s : State) : State :=
  let s :=
    match s.gate.shot with
    | some r => if passageOn s bk then setShot { r with result := spoilGood r.result } s else s
    | none => s
  recordPassage bk (jamBack bk s)

/-! ### Meanings -/

/-- SETTLE_DELAY_END (R58, R59). -/
def execSettleDelayEnd (s : State) : Result := .next (if settling s then armFrame s else s)

/-- SHUTTER_OPEN_COMMAND (R59, R86). -/
def execShutterOpenCommand (s : State) : Result := .next (if mayOpen s then openShutter s else s)

/-- SHUTTER_OPEN_SWITCH (R86, R140). -/
def execShutterOpenSwitch (back : Back) (s : State) : Result :=
  .next (if isLive s then
      let s := shutterLevels back true false s
      if opening (s.back back) then shutterOpened back s else s
    else s)

/-- SHUTTER_OPEN_TIMEOUT (R59, R86). -/
def execShutterOpenTimeout (back : Back) (s : State) : Result :=
  .next (if opening (s.back back) then openFailed back s else s)

/-- LAMP_WAIT_END (R141): the lamp goes on for the active pair. -/
def execLampWaitEnd (s : State) : Result := .next (if s.lamp.mode = .wait then switchOn s else s)

/-- EXPOSE_PULSE_END (R141): the lamp goes off and a good pulse is reported (R60). -/
def execExposePulseEnd (s : State) : Result :=
  .next (if s.lamp.mode = .exposeOn then reportPulse .good (endPulse s) else s)

/-- SHUTTER_CLOSE_SWITCH (R87, R95). -/
def execShutterCloseSwitch (back : Back) (s : State) : Result :=
  .next (if isLive s then
      let s := shutterLevels back false true s
      if closing (s.back back) then shutterClosed back s
      else if staleClosing (s.back back) then staleClosed back s
      else s
    else s)

/-- SHUTTER_CLOSE_TIMEOUT (R87, R95). -/
def execShutterCloseTimeout (back : Back) (s : State) : Result :=
  .next (if closing (s.back back) then closeFailed back s
    else if staleClosing (s.back back) then jamBack back s
    else s)

end Sys2Proof.Machine
end

