-- ==== Sys2Proof/Machine/Monitors.lean ====
section
/-! DEFINITION. The meanings of the lid, the supply monitor and the lamp monitor: LID_OPENING, LID_CLOSING, SUPPLY_SAMPLE and
LAMP_SENSE_SAMPLE. -/

namespace Sys2Proof.Machine

open Sys2Proof

/-- The filtered lid opens (R143): a METER pulse goes off and its scan is abandoned, an exposure is cut with LID, and the stand
is held with LID. -/
def openLid (s : State) : State :=
  let s := abandonScan { s with lidOpen := true }
  let s := if s.lamp.mode = .meterOn then endPulse s else s
  let s := if exposing s then cutPulse .lid s else s
  reachBoundary (holdStand .lid s)

/-- Entry to SAG (R145): SUPPLY_SAG is set, an exposure is cut with SUPPLY, and a scan is abandoned. The sequencer is then at its
metering wait, a frame boundary, where a pending HOLD takes effect (R66, R68); that it does so in this step, although R145 and R71
change no stand state at a SAG, is a DESIGN CHOICE (log 39). -/
def enterSag (s : State) : State :=
  let s := raise .supplySag s
  let s := if exposing s then cutPulse .supply s else s
  reachBoundary (abandonScan s)

/-- One conversion of the supply monitor with the settings as they stand (R144). -/
def nextSupply (s : State) (code : Nat) : Supply :=
  sampleSupply (fallingThreshold s) (risingThreshold s) (supplyCount s) code s.supply

/-- A supply conversion ends (R144, R145). -/
def sample (code : Nat) (s : State) : State :=
  let x := nextSupply s code
  let entered := x.sag && !s.supply.sag
  let s := { s with supply := x }
  if entered then enterSag s else s

/-- The lamp-sense low count after a code (R146): a code below the threshold raises it, to 8 at most, and any other sets it to
0. -/
def nextLow (threshold low code : Nat) : Nat := if code < threshold then min 8 (low + 1) else 0

/-- A lamp-sense conversion in EXPOSE_ON (R146, R147): a low count that reaches N_l cuts the pulse with LAMP. -/
def senseLamp (code : Nat) (s : State) : State :=
  let n := nextLow s.lamp.threshold s.lamp.lowCount code
  let s := { s with lamp := { s.lamp with lowCount := n } }
  if lampCount s ≤ n then cutPulse .lamp s else s

/-- LID_OPENING (R143). -/
def execLidOpening (s : State) : Result := .next (if isLive s && !s.lidOpen then openLid s else s)

/-- LID_CLOSING (R143): no mode and no hold change. -/
def execLidClosing (s : State) : Result := .next (if isLive s then { s with lidOpen := false } else s)

/-- A supply conversion ends (R114, R144). -/
def endSupplyConversion (code : Nat) (s : State) : State := endConversion .supply (sample code s)

/-- A lamp-sense conversion ends; one that ends after the lamp has gone off is discarded (R114, R146). -/
def endLampConversion (code : Nat) (s : State) : State :=
  endConversion .lamp (if s.lamp.mode = .exposeOn then senseLamp code s else s)

/-- SUPPLY_SAMPLE (R144). Sampling runs from the end of start-up on (R114). -/
def execSupplySample (code : AdcCode) (s : State) : Result :=
  .next (if started s && mayEnd .supply s then endSupplyConversion code.toNat s else s)

/-- LAMP_SENSE_SAMPLE (R146). -/
def execLampSenseSample (code : AdcCode) (s : State) : Result :=
  .next (if mayEnd .lamp s then endLampConversion code.toNat s else s)

end Sys2Proof.Machine
end

