-- ==== Sys2Proof/Machine/Transport.lean ====
section
/-! DEFINITION. The meanings of film transport: DOOR_OPENING, DOOR_CLOSING, MOTOR_START, RAMP_STEP, PERFORATION, STALL_TIMEOUT,
FILM_OUT_SWITCH, LEADER_RUN_END and REWIND_TIMEOUT. -/

namespace Sys2Proof.Machine

open Sys2Proof

/-- Change the filtered levels of a back. -/
def setLevels (bk : Back) (l : BackLevels) (s : State) : State := setBack bk { s.back bk with levels := l } s

/-! ### The door (R77, R78) -/

/-- A shutter that has been commanded open is commanded closed, and its timer stops (R77). -/
def dropShutter (bk : Back) (s : State) : State :=
  if (s.back bk).shutter.outstanding || decide ((s.back bk).shutter.command = .open) then
    setShutter bk (closedShutter (s.back bk).shutter) s
  else s

/-- An exposure whose back leaves SHUTTER_OPEN ends without a report (R142). -/
def endExposureOf (bk : Back) (s : State) : State :=
  if exposing s && decide (s.lamp.trigger = some bk) then endPulse s else s

/-- The state a door opening gives: JAMMED, entered as R90 gives, from a motion state, and DOOR_OPEN from every other (R77). -/
def doorState (bk : Back) (s : State) : State :=
  if inMotion (s.back bk).state then jamBack bk s else enterBack bk .doorOpen s

/-- The filtered door of a back opens (R77): its state changes, its LIVE sheet retires DOOR_OPENED, its gate frame is 0, a REWIND
task of it ends FAILED_JAM, and a shot in progress on it ends (R64). -/
def openDoor (bk : Back) (s : State) : State :=
  let rewound := decide ((s.back bk).state = .rewinding)
  let s := setLevels bk { (s.back bk).levels with doorOpen := true } s
  let s := doorState bk (endExposureOf bk (dropShutter bk s))
  let s := setGateFrame bk 0 (retireLive bk .doorOpened s)
  let s := if rewound then endRewindTask bk .failedJam s else s
  failShot bk s

/-- The state a door closing gives (R78). -/
def doorClosedState (cassette : Bool) : BackState := if cassette then .awaitingSheet else .empty

/-- The filtered door of a back closes in DOOR_OPEN or JAMMED (R78); in AWAITING_SHEET the back looks for a sheet (R79). It does so
also while a stand reset is taken, a DESIGN CHOICE (log 38): a CLEAR whose mark the reset has cleared (R19) does not withdraw the
preparation (R11) then. -/
def closeDoor (bk : Back) (cassette filmOut : Bool) (s : State) : State :=
  let s := setLevels bk { (s.back bk).levels with doorOpen := false, cassette := cassette, filmOut := filmOut } s
  if (s.back bk).state = .doorOpen ∨ (s.back bk).state = .jammed then
    lookForSheet bk (enterBack bk (doorClosedState cassette) s)
  else s

/-! ### Perforations (R80, R83) -/

/-- The motor stops, the gate frame is set, and the back enters READY (R80, R83). -/
def endWind (bk : Back) (frame : Nat) (s : State) : State := enterReadyBack bk (setGateFrame bk frame (stopMotor bk s))

/-- The sequencer waits for this back before a frame's passage. -/
def awaitsBack (s : State) (bk : Back) : Bool :=
  decide (s.gate.phase = .frameWait) && mayGoOn s && decide (s.gate.shot.map ShotRecord.back = some bk)

/-- A perforation of a loading (R80) or of a wind-on (R83): `creepAt` is the count after which the speed falls to creep, `last`
the count that ends the operation with the frame at the gate. -/
def windPerforation (bk : Back) (creepAt last frame : Nat) (s : State) : State :=
  let s := setMotor bk (countPerforation creepAt (s.back bk).motor) s
  if (s.back bk).motor.perforations = last then
    let s := endWind bk frame s
    if awaitsBack s bk then frameLoop s else s
  else s

/-- A filtered perforation closing (R76): it is counted while the motor is driven forward. -/
def perforate (bk : Back) (s : State) : State :=
  let s := setLevels bk { (s.back bk).levels with perforation := true } s
  let u := s.back bk
  if u.motor.direction = .forward then
    if u.state = .loading then windPerforation bk 22 24 1 s
    else if u.state = .winding then windPerforation bk 6 8 (u.gateFrame + 1) s
    else s
  else s

/-! ### Stalls (R80, R84) -/

/-- The back is in a state that the stall timer watches, and the timer runs. -/
def stallWatched (u : BackUnit) (st : BackState) : Bool := decide (u.state = st) && running u.motor.stallTimer

/-- A stall while loading: JAMMED with the gate frame 0 (R80). -/
def stallLoading (bk : Back) (s : State) : State := jamBack bk (setGateFrame bk 0 s)

/-- The roll is taken to have ended early: k is at least the capacity less 2 (R84). -/
def isShortRoll (s : State) (sh : Sheet) (k : Nat) : Bool := decide (capacity s sh ≤ k + 2)

/-- A short roll (R84): the motor stops, the capacity is cut to k, the back enters ROLL_END, and the Order Engine is told of the
cut (R37). -/
def shortRoll (bk : Back) (sh : Sheet) (s : State) : State :=
  let k := (s.back bk).gateFrame
  capacityWasCut bk (enterRollEnd bk (cutCapacity sh k (stopMotor bk s)))

/-- A stall while winding: a short roll or a jam, and a failure of the back for a shot in progress (R84, R64). -/
def stallWinding (bk : Back) (s : State) : State :=
  match liveSheet s bk with
  | some sh => failShot bk (if isShortRoll s sh (s.back bk).gateFrame then shortRoll bk sh s else jamBack bk s)
  | none => failShot bk (jamBack bk s)

/-! ### Rewinds (R89) -/

/-- The rewind runs and its timer with it. -/
def rewindTimed (u : BackUnit) : Bool := decide (u.state = .rewinding) && running u.motor.rewindTimer

/-- The leader run of a rewind is in progress. -/
def leaderTimed (u : BackUnit) : Bool := decide (u.state = .rewinding) && running u.motor.leaderTimer

/-- The rewind ends at FILM_OUT (R89, R44). -/
def endRewind (bk : Back) (s : State) : State :=
  let s := retireLive bk (rewindCause (s.back bk).origin) (stopMotor bk s)
  endRewindTask bk .complete (setGateFrame bk 0 (enterBack bk .filmOut s))

/-- The rewind fails: JAMMED with the sheet still LIVE (R89, R44). -/
def failRewind (bk : Back) (s : State) : State := endRewindTask bk .failedJam (jamBack bk s)

/-! ### Meanings -/

/-- DOOR_OPENING (R77). -/
def execDoorOpening (back : Back) (s : State) : Result :=
  .next (if isLive s && !(s.back back).levels.doorOpen then openDoor back s else s)

/-- DOOR_CLOSING (R78). -/
def execDoorClosing (back : Back) (cassette filmOut : Bool) (s : State) : Result :=
  .next (if isLive s && (s.back back).levels.doorOpen then closeDoor back cassette filmOut s else s)

/-- MOTOR_START (R81): a deferred start proceeds when it may. -/
def execMotorStart (back : Back) (s : State) : Result :=
  .next (if (s.back back).motor.start ≠ .stopped then startMotor back s else s)

/-- RAMP_STEP (R81). -/
def execRampStep (back : Back) (s : State) : Result :=
  .next (if (s.back back).motor.ramping then setMotor back (rampMotor (s.back back).motor) s else s)

/-- PERFORATION (R76, R80, R83). -/
def execPerforation (back : Back) (s : State) : Result := .next (if isLive s then perforate back s else s)

/-- STALL_TIMEOUT (R80, R84). -/
def execStallTimeout (back : Back) (s : State) : Result :=
  .next (if stallWatched (s.back back) .loading then stallLoading back s
    else if stallWatched (s.back back) .winding then stallWinding back s
    else s)

/-- FILM_OUT_SWITCH (R89): the level, and in a rewind that is driven the leader run. -/
def execFilmOutSwitch (back : Back) (s : State) : Result :=
  .next (if isLive s then
      let s := setLevels back { (s.back back).levels with filmOut := true } s
      if rewindTimed (s.back back) then setMotor back (leaderRun (s.back back).motor) s else s
    else s)

/-- LEADER_RUN_END (R89). -/
def execLeaderRunEnd (back : Back) (s : State) : Result :=
  .next (if leaderTimed (s.back back) then endRewind back s else s)

/-- REWIND_TIMEOUT (R89). -/
def execRewindTimeout (back : Back) (s : State) : Result :=
  .next (if rewindTimed (s.back back) then failRewind back s else s)

end Sys2Proof.Machine
end

