-- ==== Sys2Proof/Machine/Printer.lean ====
section
/-! DEFINITION. The meanings of the printer link: TRANSMISSION_END, REPLY_TIMEOUT, INQUIRY_TIMEOUT, ACK, NAK, READY_REPLY,
RECEIVE_ERROR, BREAK, RECEIVED_BYTE and LINE_RETURNED_TO_ONE. The Label Unit begins at the end of start-up (R168). -/

namespace Sys2Proof.Machine

open Sys2Proof

/-- A transmission is a label message. -/
def isLabel : Transmission → Bool
  | .inquire => false
  | .label _ => true

/-- The reply timer starts with 2 s (R161). -/
def startReplyTimer (s : State) : State :=
  { s with labels := { s.labels with replyTimer := some Config.replyTime } }

/-- A transmission has left the line: a label message starts the reply timer if the printer is still PRINTING (R161), and the
next transmission follows (R158, R160). -/
def endTransmission (s : State) : State :=
  match s.labels.transmitter with
  | [] => s
  | t :: rest =>
    setLine rest (if isLabel t && decide (s.labels.printer = .printing) then startReplyTimer s else s)

/-- The printer enters LOST and PRINTER_LOST is set; INQUIRE is sent (R164, R160). -/
def losePrinter (s : State) : State := raise .printerLost (enterInquiring .lost s)

/-- The head's message is sent again whole: the resend mark is set, and the reply timer starts when it has left the line
(R164). -/
def resendHead (s : State) : State :=
  match s.labels.queue with
  | [] => s
  | e :: _ => sendMessage e { s with labels := { s.labels with resend := true, replyTimer := none } }

/-- The reply timer expires in PRINTING (R164). -/
def replyTimedOut (s : State) : State :=
  if headWithdrawn s then
    (if s.labels.resend then losePrinter (skipHead s) else enterReady (skipHead s))
  else if s.labels.resend then losePrinter s
  else resendHead s

/-- The reply timer runs in PRINTING. -/
def replyAwaited (s : State) : Bool := decide (s.labels.printer = .printing) && running s.labels.replyTimer

/-- The inquiry timer runs in UNKNOWN, STOCK_OUT or LOST. -/
def inquiryAwaited (s : State) : Bool := inquires s.labels.printer && running s.labels.inquiryTimer

/-- TRANSMISSION_END (R158, R160, R161). -/
def execTransmissionEnd (s : State) : Result := .next (if started s then endTransmission s else s)

/-- REPLY_TIMEOUT (R164). -/
def execReplyTimeout (s : State) : Result := .next (if started s && replyAwaited s then replyTimedOut s else s)

/-- INQUIRY_TIMEOUT (R160). -/
def execInquiryTimeout (s : State) : Result := .next (if started s && inquiryAwaited s then sendInquire s else s)

/-- ACK (R159, R162): the reply is complete with this sequence byte. -/
def execAck (sequence : Byte) (s : State) : Result :=
  .next (if started s then takeAck sequence (setReceiver .idle s) else s)

/-- NAK (R159, R163). -/
def execNak (sequence : Byte) (s : State) : Result :=
  .next (if started s then takeNak sequence (setReceiver .idle s) else s)

/-- READY_REPLY (R159, R166): the byte 13H arrives. -/
def execReadyReply (s : State) : Result := .next (if started s then receiveByte 0x13 s else s)

/-- RECEIVE_ERROR (R159): a byte without its stop bit and a byte that overruns the held one are both discarded and counted; the
held byte is kept. -/
def execReceiveError (fault : ReceiveFault) (s : State) : Result :=
  .next (if started s then
      match fault with
      | .framing => discardByte s
      | .overrun => discardByte s
    else s)

/-- BREAK (R159, R165): reported once until the line has returned to 1. -/
def execBreak (s : State) : Result := .next (if started s && !s.labels.breakSeen then takeBreak s else s)

/-- RECEIVED_BYTE (R159). -/
def execReceivedByte (byte : Byte) (s : State) : Result := .next (if started s then receiveByte byte s else s)

/-- LINE_RETURNED_TO_ONE (R159): a later break can be reported. -/
def execLineReturnedToOne (s : State) : Result :=
  .next (if started s then { s with labels := { s.labels with breakSeen := false } } else s)

end Sys2Proof.Machine
end

