-- ==== Sys2Proof/Machine/Dispatch.lean ====
section
/-! DEFINITION. The dispatch: one arm per command, each one direct call of its meaning. -/

namespace Sys2Proof.Machine

open Sys2Proof

def exec (i : Instr) (s : State) : Host.Outcome State Fault Refusal :=
  match i with
  | .hostMemoryWrite addr value => Sys2Proof.Machine.execHostMemoryWrite addr value s
  | .noticeRead => Sys2Proof.Machine.execNoticeRead s
  | .noticeWrite value => Sys2Proof.Machine.execNoticeWrite value s
  | .noticeEnWrite value => Sys2Proof.Machine.execNoticeEnWrite value s
  | .run => Sys2Proof.Machine.execRun s
  | .hold => Sys2Proof.Machine.execHold s
  | .standReset => Sys2Proof.Machine.execStandReset s
  | .ignoredRegisterWrite reg value => Sys2Proof.Machine.execIgnoredRegisterWrite reg value s
  | .standResetEnd => Sys2Proof.Machine.execStandResetEnd s
  | .powerOnReset => Sys2Proof.Machine.execPowerOnReset s
  | .lineReset => Sys2Proof.Machine.execLineReset s
  | .resetRelease => Sys2Proof.Machine.execResetRelease s
  | .zeroingEnd levels => Sys2Proof.Machine.execZeroingEnd levels s
  | .slotMarkTake => Sys2Proof.Machine.execSlotMarkTake s
  | .sheetMarkTake sheet => Sys2Proof.Machine.execSheetMarkTake sheet s
  | .settle account => Sys2Proof.Machine.execSettle account s
  | .take => Sys2Proof.Machine.execTake s
  | .shotChoice => Sys2Proof.Machine.execShotChoice s
  | .feederPositionPulse => Sys2Proof.Machine.execFeederPositionPulse s
  | .originalPresentTest present => Sys2Proof.Machine.execOriginalPresentTest present s
  | .feederMoveTimeout => Sys2Proof.Machine.execFeederMoveTimeout s
  | .feederHomeSwitch => Sys2Proof.Machine.execFeederHomeSwitch s
  | .feederHomingTimeout => Sys2Proof.Machine.execFeederHomingTimeout s
  | .meteringScanStart => Sys2Proof.Machine.execMeteringScanStart s
  | .darkRound => Sys2Proof.Machine.execDarkRound s
  | .meterPulseRequest => Sys2Proof.Machine.execMeterPulseRequest s
  | .litRound => Sys2Proof.Machine.execLitRound s
  | .meteringConversion code => Sys2Proof.Machine.execMeteringConversion code s
  | .meterPulseEnd => Sys2Proof.Machine.execMeterPulseEnd s
  | .carriageEndSwitch line => Sys2Proof.Machine.execCarriageEndSwitch line s
  | .shiftTimeout => Sys2Proof.Machine.execShiftTimeout s
  | .homingTimeout => Sys2Proof.Machine.execHomingTimeout s
  | .settleDelayEnd => Sys2Proof.Machine.execSettleDelayEnd s
  | .shutterOpenCommand => Sys2Proof.Machine.execShutterOpenCommand s
  | .shutterOpenSwitch back => Sys2Proof.Machine.execShutterOpenSwitch back s
  | .shutterOpenTimeout back => Sys2Proof.Machine.execShutterOpenTimeout back s
  | .lampWaitEnd => Sys2Proof.Machine.execLampWaitEnd s
  | .exposePulseEnd => Sys2Proof.Machine.execExposePulseEnd s
  | .shutterCloseSwitch back => Sys2Proof.Machine.execShutterCloseSwitch back s
  | .shutterCloseTimeout back => Sys2Proof.Machine.execShutterCloseTimeout back s
  | .lidOpening => Sys2Proof.Machine.execLidOpening s
  | .lidClosing => Sys2Proof.Machine.execLidClosing s
  | .supplySample code => Sys2Proof.Machine.execSupplySample code s
  | .lampSenseSample code => Sys2Proof.Machine.execLampSenseSample code s
  | .doorOpening back => Sys2Proof.Machine.execDoorOpening back s
  | .doorClosing back cassette filmOut => Sys2Proof.Machine.execDoorClosing back cassette filmOut s
  | .motorStart back => Sys2Proof.Machine.execMotorStart back s
  | .rampStep back => Sys2Proof.Machine.execRampStep back s
  | .perforation back => Sys2Proof.Machine.execPerforation back s
  | .stallTimeout back => Sys2Proof.Machine.execStallTimeout back s
  | .filmOutSwitch back => Sys2Proof.Machine.execFilmOutSwitch back s
  | .leaderRunEnd back => Sys2Proof.Machine.execLeaderRunEnd back s
  | .rewindTimeout back => Sys2Proof.Machine.execRewindTimeout back s
  | .transmissionEnd => Sys2Proof.Machine.execTransmissionEnd s
  | .replyTimeout => Sys2Proof.Machine.execReplyTimeout s
  | .inquiryTimeout => Sys2Proof.Machine.execInquiryTimeout s
  | .ack sequence => Sys2Proof.Machine.execAck sequence s
  | .nak sequence => Sys2Proof.Machine.execNak sequence s
  | .readyReply => Sys2Proof.Machine.execReadyReply s
  | .receiveError fault => Sys2Proof.Machine.execReceiveError fault s
  | .lineBreak => Sys2Proof.Machine.execBreak s
  | .receivedByte byte => Sys2Proof.Machine.execReceivedByte byte s
  | .lineReturnedToOne => Sys2Proof.Machine.execLineReturnedToOne s

end Sys2Proof.Machine
end

