-- ==== Sys2Proof/Machine/Time.lean ====
section
/-! DEFINITION. The passing of time: what one lamp tick of 50 µs does when no command waits (DESIGN CHOICE, log 2). Every timer
that runs counts down, the tick counter of a lamp phase falls, the monitors ask for their conversions, and the clock rises; what an
expiry brings about comes with its own command. -/

namespace Sys2Proof.Machine

open Sys2Proof

/-- The timers of a motor. -/
def tickMotor (m : Motor) : Motor :=
  { m with stallTimer := tickTimer m.stallTimer, rewindTimer := tickTimer m.rewindTimer,
           leaderTimer := tickTimer m.leaderTimer }

/-- The timers of a back. -/
def tickBack (u : BackUnit) : BackUnit :=
  { u with motor := tickMotor u.motor, shutter := { u.shutter with timer := tickTimer u.shutter.timer } }

/-- The tick counter falls in METER_ON, WAIT and EXPOSE_ON (R138, R141), and does not fall below 0. -/
def tickLamp (l : Lamp) : Lamp := if l.mode = .idle then l else { l with counter := l.counter - 1 }

/-- The sequencer's timers. -/
def tickGate (g : Gate) : Gate :=
  { g with moveTimer := tickTimer g.moveTimer, shiftTimer := tickTimer g.shiftTimer,
           settleTimer := tickTimer g.settleTimer }

/-- Lamp ticks between two conversions of the supply or of the lamp sense, 1 ms (R114). -/
def sampleTicks : Nat := ms 1

/-- The supply monitor asks for a conversion every 1 ms, from the end of start-up on (R114). -/
def askSupply (c : Converter) : Converter :=
  if sampleTicks ≤ c.sinceSupply + 1 then { c with supply := true, sinceSupply := 0 }
  else { c with sinceSupply := c.sinceSupply + 1 }

/-- This tick ends a millisecond of light of an EXPOSE pulse, so the lamp sense asks for a conversion (R114, R146). -/
def lampSenseDue (l : Lamp) : Bool :=
  match l.active with
  | some p =>
    decide (l.mode = .exposeOn) && decide (0 < l.counter) && decide ((p.ticks + 1 - l.counter) % sampleTicks = 0)
  | none => false

/-- The requests that a tick brings, and the converter takes one when it is free (R114). -/
def tickConverter (s : State) : Converter :=
  let c := if started s then askSupply s.converter else s.converter
  takeNext s.exposure.waiting (if lampSenseDue s.lamp then { c with lamp := true } else c)

/-- One lamp tick. -/
def tick (s : State) : State :=
  { s with
    gate := tickGate s.gate
    backA := tickBack s.backA
    backB := tickBack s.backB
    carriage := { s.carriage with homingTimer := tickTimer s.carriage.homingTimer }
    feeder := { s.feeder with homingTimer := tickTimer s.feeder.homingTimer }
    converter := tickConverter s
    lamp := tickLamp s.lamp
    labels := { s.labels with
      replyTimer := tickTimer s.labels.replyTimer, inquiryTimer := tickTimer s.labels.inquiryTimer }
    clock := s.clock + 1 }

end Sys2Proof.Machine
end

