-- ==== Sys2Proof/Safety.lean ====
section
/-! DEFINITION. What the manual promises of the whole machine, as predicates on a state: the form of common memory, the lamp's law
of R137 with what keeps it, the hands of the order board (R9, R29), the commitments (R178) and the sheets (R103, R104). -/

namespace Sys2Proof.Safety

open Sys2Proof Sys2Proof.Machine

/-- Common memory has its canonical form: every byte that is not 0 once, at rising addresses inside the 32 KiB. -/
abbrev MemoryOk (s : State) : Prop := Memory.wf s.mem = true

/-- The lamp is on in METER_ON and EXPOSE_ON alone (R136). -/
abbrev LampByMode (s : State) : Prop := s.lamp.mode = .idle ∨ s.lamp.mode = .wait → s.lamp.output = .off

/-- The first half of R137's law: while the lamp is on no back motor is driven, the carriage neither homes nor shifts, and the
feeder does not move. -/
abbrev DarkWhileMoving (s : State) : Prop := s.lamp.output ≠ .off → standStill s = true

/-- The lamp's law of motion with the mode that keeps it. -/
abbrev MotionLaw (s : State) : Prop := LampByMode s ∧ DarkWhileMoving s

/-- A back's shutter is commanded open only in READY and SHUTTER_OPEN. -/
abbrev CommandOrder (u : BackUnit) : Prop :=
  u.shutter.command = .open → u.state = .ready ∨ u.state = .shutterOpen

/-- A back that is SHUTTER_OPEN or commanded open is the back of the shot in its passage. -/
abbrev PassageOrder (s : State) (bk : Back) : Prop :=
  (s.back bk).state = .shutterOpen ∨ (s.back bk).shutter.command = .open → passageOn s bk = true

/-- A scan is in progress only in the sequencer's metering scan. -/
abbrev ScanOrder (s : State) : Prop := s.exposure.scan ≠ .idle → s.gate.phase = .meterScan

/-- An exposure (WAIT or EXPOSE_ON) belongs to a back that is SHUTTER_OPEN, commanded open, and in line. -/
def ExposureOwner (s : State) : Prop :=
  exposing s = true →
    ∃ bk, s.lamp.trigger = some bk ∧ (s.back bk).state = .shutterOpen ∧ (s.back bk).shutter.command = .open
      ∧ inLine s bk = true

/-- The second half of R137's law with what keeps it. -/
def ExposureLaw (s : State) : Prop :=
  (∀ bk, CommandOrder (s.back bk)) ∧ (∀ bk, PassageOrder s bk) ∧ ScanOrder s ∧ ExposureOwner s

/-- The slot has an order in the run list. -/
def Running (s : State) (n : Slot) : Prop := ∃ e ∈ s.orders.runList, e.slot = n

/-- The order of the work at the gate: AT_GATE, and a COPY order for a shot or a started CALIBRATE task (R30, R34, R43). -/
def AtGate (s : State) (r : ShotRecord) (e : OrderEntry) : Prop :=
  e.slot = r.slot ∧ e.sub = .atGate
    ∧ (r.calibrate = false ∧ e.kind = .copy ∨ r.calibrate = true ∧ e.kind = .calibrate ∧ e.started = true)
    ∧ e ∈ s.orders.runList

/-- A slot is in the intake queue exactly while its recorded hand is FILED (R9), and in the run list exactly while it is TAKEN or
WITHDRAW (R29), once in either; and the work at the gate has its order in the run list. -/
structure HandsLaw (s : State) : Prop where
  intake : ∀ n, n ∈ s.orders.intake ↔ recordedHand s n = .filed
  runs : ∀ n, Running s n ↔ recordedHand s n = .taken ∨ recordedHand s n = .withdraw
  intakeOnce : s.orders.intake.Nodup
  runsOnce : (s.orders.runList.map OrderEntry.slot).Nodup
  gate : ∀ r, s.gate.shot = some r → ∃ e, AtGate s r e

/-! ### Commitments (R178) -/

/-- The remaining commitments of the run list's orders charged to an account. -/
def commitments (s : State) (i : Account) : Nat :=
  ((s.orders.runList.filter fun e => decide (accountIndex s e.slot = i.val)).map fun e => remaining s e.slot).sum

/-- Every account's committed is the sum of the remaining commitments charged to it (R178), with what keeps it: a COPY order's
account exists, and a slot without a COPY order in the run list has no commitment left (R179). -/
structure CommitmentsAgree (s : State) : Prop where
  accounts : ∀ e ∈ s.orders.runList, e.kind = .copy → accountIndex s e.slot ≤ 63
  settled : ∀ n : Slot, (∀ e ∈ s.orders.runList, e.slot = n → e.kind ≠ .copy) → remaining s n = 0
  sums : ∀ i : Account, committed s i.val = commitments s i

/-- The law of commitments, from the end of the zeroing on. -/
structure CommitmentLaw (s : State) : Prop where
  memory : MemoryOk s
  hands : HandsLaw s
  agree : isLive s = true → CommitmentsAgree s

/-! ### Frames and counts of the sheets (R102 to R105) -/

/-- The frames of a sheet up to its capacity that are in a state. -/
def framesIn (s : State) (sh : Sheet) (f : FrameState) : Nat :=
  (frameNumbers.filter fun k => decide (k ≤ capacity s sh) && decide (frameCode s sh k = f.code)).length

/-- The sheet's header counts its EXPOSED, SPOILED and UNUSED frames (R104). -/
abbrev CountsAgree (s : State) (sh : Sheet) : Prop :=
  exposedCount s sh = framesIn s sh .exposed ∧ spoiledCount s sh = framesIn s sh .spoiled
    ∧ unusedCount s sh = framesIn s sh .unused

/-- A CLEAR or PREPARED sheet: every part-owned count is 0 and every frame BLANK (R97). -/
abbrev SheetUnused (s : State) (sh : Sheet) : Prop :=
  framesUsed s sh = 0 ∧ exposedCount s sh = 0 ∧ spoiledCount s sh = 0 ∧ unusedCount s sh = 0
    ∧ ∀ k ∈ frameNumbers, frameCode s sh k = 0

/-- The state of frame k of a LIVE or RETIRED sheet: taken up to frames used, BLANK above it up to the capacity, and BLANK or UNUSED
above the capacity, which a cut has lowered (R103, R105). -/
abbrev FrameInOrder (s : State) (sh : Sheet) (k : Nat) : Prop :=
  if k ≤ framesUsed s sh then 1 ≤ frameCode s sh k ∧ frameCode s sh k ≤ 4
  else if k ≤ capacity s sh then frameCode s sh k = 0
  else frameCode s sh k = 0 ∨ frameCode s sh k = 4

/-- A LIVE sheet (R103, R104). -/
abbrev SheetInUse (s : State) (sh : Sheet) : Prop :=
  capacity s sh ≤ 40 ∧ framesUsed s sh ≤ capacity s sh ∧ (∀ k ∈ frameNumbers, FrameInOrder s sh k) ∧ CountsAgree s sh

/-- The form of a sheet by its recorded hand. -/
abbrev SheetForm (s : State) (sh : Sheet) : Prop :=
  match sheetHand s sh with
  | .clear => SheetUnused s sh
  | .prepared => SheetUnused s sh
  | .live => SheetInUse s sh
  | .retired =>
    SheetInUse s sh ∧ framesUsed s sh = capacity s sh ∧ ∀ k ∈ frameNumbers, frameCode s sh k ≠ 1

/-- Where the film of a back with a LIVE sheet stands (R74): no frame beyond the gate is EXPOSED or SPOILED, and the gate frame lies
within what the back's state allows. -/
abbrev FilmInPlace (s : State) (bk : Back) (sh : Sheet) : Prop :=
  (∀ k ∈ frameNumbers, (s.back bk).gateFrame < k → frameCode s sh k ≠ 2 ∧ frameCode s sh k ≠ 3)
    ∧ ((s.back bk).state = .loading → framesUsed s sh = 0 ∧ 1 ≤ capacity s sh)
    ∧ ((s.back bk).state = .ready → (s.back bk).gateFrame ≤ framesUsed s sh + 1)
    ∧ ((s.back bk).state = .winding →
        (s.back bk).gateFrame ≤ framesUsed s sh ∧ (s.back bk).gateFrame < capacity s sh)
    ∧ ((s.back bk).state = .stale ∨ (s.back bk).state = .shutterOpen → (s.back bk).gateFrame ≤ framesUsed s sh)

/-- Where the back of a shot stands in a phase of the frame loop, for the next frame f. -/
abbrev BackInLoop (p : GatePhase) (u : BackUnit) (f : Nat) : Prop :=
  match p with
  | .frameWait =>
    u.state = .ready ∧ u.gateFrame ≤ f ∨ (u.state = .winding ∨ u.state = .stale) ∧ u.gateFrame < f
  | .armed => u.state = .ready ∧ u.gateFrame = f
  | .passage =>
    (u.state = .ready ∧ u.shutter.command = .open ∨ u.state = .shutterOpen) ∧ u.gateFrame = f
      ∧ u.shutter.sinceReady = true
  | _ => True

/-- The frame set of a shot in its frame loop: its frames rise, are taken on the LIVE sheet of its back, and are RESERVED until they
are recorded; some frame is still to be recorded, the back stands where the phase says, and a shutter commanded closed has a result. -/
abbrev SetInLoop (s : State) (r : ShotRecord) : Prop :=
  r.calibrate = false ∧ (s.back r.back).live = some r.which
    ∧ (∀ f ∈ r.frames, 1 ≤ f.frame ∧ f.frame ≤ framesUsed s ⟨r.back, r.which⟩
        ∧ (f.recorded = false → frameCode s ⟨r.back, r.which⟩ f.frame = 1))
    ∧ r.frames.Pairwise (fun f g => f.frame < g.frame)
    ∧ (s.gate.phase = .passage → (s.back r.back).shutter.command = .close → r.result ≠ .none)
    ∧ ∃ f ∈ r.frames, nextFrame r = some f ∧ BackInLoop s.gate.phase (s.back r.back) f.frame

/-- Frames, counts, film and frame set agree. -/
structure SheetsAgree (s : State) : Prop where
  sheets : ∀ sh ∈ allSheets, SheetForm s sh
  film : ∀ bk w, (s.back bk).live = some w → sheetHand s ⟨bk, w⟩ = .live ∧ FilmInPlace s bk ⟨bk, w⟩
  orders : ∀ e ∈ s.orders.runList, e.kind = .copy → ∀ i < min 24 (shotCount s e.slot), 1 ≤ plannedFrames s e.slot i
  loop : s.gate.phase.step = .exposing → ∃ r, s.gate.shot = some r ∧ SetInLoop s r
  before : ∀ r, s.gate.shot = some r → s.gate.phase.step ≠ .exposing →
    r.frames = [] ∧ (r.calibrate = false → 1 ≤ r.planned)
      ∧ (r.calibrate = true → s.gate.phase.step = .feeding ∨ s.gate.phase = .meterWait ∨ s.gate.phase = .meterScan)

/-- The law of sheets, from the end of the zeroing on. -/
structure SheetLaw (s : State) : Prop where
  memory : MemoryOk s
  hands : HandsLaw s
  exposure : ExposureLaw s
  agree : isLive s = true → SheetsAgree s

end Sys2Proof.Safety
end

