-- ==== Sys2Proof/Laws/Memory.lean ====
section
/-! SUPPORT. The laws of common memory: reading after a write, and the canonical form, which every memory operation keeps. -/

namespace Sys2Proof.Laws

open Sys2Proof Sys2Proof.Machine

/-- A canonical memory from a higher start is canonical from a lower one. -/
theorem wfFrom_mono {lo lo' : Nat} {m : Memory} (h : lo' ≤ lo) (hm : Memory.wfFrom lo m = true) :
    Memory.wfFrom lo' m = true := by
  cases m with
  | nil => rfl
  | cons c t =>
    simp only [Memory.wfFrom, Bool.and_eq_true, decide_eq_true_eq] at hm ⊢
    exact ⟨⟨⟨by omega, hm.1.1.2⟩, hm.1.2⟩, hm.2⟩

/-- An address below a canonical memory's start reads 0. -/
theorem read_below {lo a : Nat} {m : Memory} (hm : Memory.wfFrom lo m = true) (h : a < lo) : Memory.read m a = 0 := by
  induction m generalizing lo with
  | nil => rfl
  | cons c t ih =>
    simp only [Memory.wfFrom, Bool.and_eq_true, decide_eq_true_eq] at hm
    simp only [Memory.read]
    rw [if_neg (by omega)]
    exact ih hm.2 (by omega)

/-- No byte above 7FFFH is listed, so it reads 0. -/
theorem read_above {lo a : Nat} {m : Memory} (hm : Memory.wfFrom lo m = true) (h : Config.memorySize ≤ a) :
    Memory.read m a = 0 := by
  induction m generalizing lo with
  | nil => rfl
  | cons c t ih =>
    simp only [Memory.wfFrom, Bool.and_eq_true, decide_eq_true_eq] at hm
    simp only [Memory.read]
    rw [if_neg (by omega)]
    exact ih hm.2

/-- Inserting keeps the canonical form. -/
theorem wfFrom_insert {lo a : Nat} {m : Memory} {v : Byte} (hm : Memory.wfFrom lo m = true) (hlo : lo ≤ a)
    (ha : a < Config.memorySize) : Memory.wfFrom lo (Memory.insert m a v) = true := by
  induction m generalizing lo with
  | nil =>
    simp only [Memory.insert]
    split
    · rfl
    · rename_i hv
      simp only [Memory.wfFrom, Bool.and_eq_true, decide_eq_true_eq, bne_iff_ne, ne_eq]
      exact ⟨⟨⟨hlo, ha⟩, hv⟩, trivial⟩
  | cons c t ih =>
    have hm' := hm
    simp only [Memory.wfFrom, Bool.and_eq_true, decide_eq_true_eq] at hm
    obtain ⟨⟨⟨h1, h2⟩, h3⟩, h4⟩ := hm
    simp only [Memory.insert]
    split
    · split
      · exact hm'
      · rename_i hlt hv
        simp only [Memory.wfFrom, Bool.and_eq_true, decide_eq_true_eq, bne_iff_ne, ne_eq]
        refine ⟨⟨⟨hlo, ha⟩, hv⟩, ⟨⟨⟨by omega, h2⟩, by simpa using h3⟩, h4⟩⟩
    · split
      · rename_i hlt heq
        split
        · exact wfFrom_mono (by omega) h4
        · rename_i hv
          simp only [Memory.wfFrom, Bool.and_eq_true, decide_eq_true_eq, bne_iff_ne, ne_eq]
          exact ⟨⟨⟨hlo, ha⟩, hv⟩, by rw [heq]; exact h4⟩
      · simp only [Memory.wfFrom, Bool.and_eq_true, decide_eq_true_eq]
        exact ⟨⟨⟨h1, h2⟩, h3⟩, ih h4 (by omega)⟩

/-- What an insertion reads as. -/
theorem read_insert {lo a b : Nat} {m : Memory} {v : Byte} (hm : Memory.wfFrom lo m = true) :
    Memory.read (Memory.insert m a v) b = if b = a then v else Memory.read m b := by
  induction m generalizing lo with
  | nil =>
    simp only [Memory.insert]
    split
    · rename_i hv
      simp only [Memory.read]
      split
      · exact hv.symm
      · rfl
    · simp only [Memory.read]
      by_cases hb : b = a
      · rw [if_pos hb, if_pos hb.symm]
      · rw [if_neg hb, if_neg (fun h => hb h.symm)]
  | cons c t ih =>
    have hm' := hm
    simp only [Memory.wfFrom, Bool.and_eq_true, decide_eq_true_eq] at hm
    obtain ⟨⟨⟨h1, h2⟩, h3⟩, h4⟩ := hm
    simp only [Memory.insert]
    split
    · rename_i hlt
      split
      · rename_i hv
        by_cases hb : b = a
        · rw [if_pos hb, hv]
          simp only [Memory.read]
          rw [if_neg (by omega)]
          exact read_below h4 (by omega)
        · rw [if_neg hb]
      · by_cases hb : b = a
        · simp [Memory.read, hb]
        · have : ¬ a = b := fun h => hb h.symm
          simp [Memory.read, hb, this]
    · split
      · rename_i hlt heq
        split
        · rename_i hv
          by_cases hb : b = a
          · rw [if_pos hb, hv]
            exact read_below h4 (by omega)
          · rw [if_neg hb]
            simp only [Memory.read]
            rw [if_neg (by omega)]
        · by_cases hb : b = a
          · simp [Memory.read, hb]
          · simp only [Memory.read]
            rw [if_neg (by omega), if_neg hb, if_neg (by omega)]
      · simp only [Memory.read]
        by_cases hc : c.1 = b
        · rw [if_pos hc, if_neg (by omega), if_pos hc]
        · rw [if_neg hc, if_neg hc]
          exact ih h4

/-- A write keeps the canonical form. -/
theorem wf_write {m : Memory} {a : Nat} {v : Byte} (hm : Memory.wf m = true) : Memory.wf (Memory.write m a v) = true := by
  unfold Memory.write
  split
  · exact wfFrom_insert hm (Nat.zero_le _) ‹_›
  · exact hm

/-- What a write inside common memory reads as. -/
theorem read_write {m : Memory} {a b : Nat} {v : Byte} (hm : Memory.wf m = true) (ha : a < Config.memorySize) :
    Memory.read (Memory.write m a v) b = if b = a then v else Memory.read m b := by
  unfold Memory.write
  rw [if_pos ha]
  exact read_insert hm

/-- A write leaves every other byte, wherever it goes. -/
theorem read_write_other {m : Memory} {a b : Nat} {v : Byte} (hm : Memory.wf m = true) (hb : b ≠ a) :
    Memory.read (Memory.write m a v) b = Memory.read m b := by
  unfold Memory.write
  split
  · rw [read_insert hm, if_neg hb]
  · rfl

/-- Zeroing a range keeps the canonical form. -/
theorem wfFrom_zero {lo x y : Nat} {m : Memory} (hm : Memory.wfFrom lo m = true) :
    Memory.wfFrom lo (Memory.zero m x y) = true := by
  induction m generalizing lo with
  | nil => rfl
  | cons c t ih =>
    simp only [Memory.wfFrom, Bool.and_eq_true, decide_eq_true_eq] at hm
    obtain ⟨⟨⟨h1, h2⟩, h3⟩, h4⟩ := hm
    have key := ih h4
    simp only [Memory.zero, List.filter_cons] at key ⊢
    split
    · simp only [Memory.wfFrom, Bool.and_eq_true, decide_eq_true_eq]
      exact ⟨⟨⟨h1, h2⟩, h3⟩, key⟩
    · exact wfFrom_mono (by omega) key

/-- Zeroing a range keeps the canonical form of the whole memory. -/
theorem wf_zero {x y : Nat} {m : Memory} (hm : Memory.wf m = true) : Memory.wf (Memory.zero m x y) = true :=
  wfFrom_zero hm

/-- What a zeroed range reads as. -/
theorem read_zero {x y b : Nat} {m : Memory} :
    Memory.read (Memory.zero m x y) b = if x ≤ b ∧ b < y then 0 else Memory.read m b := by
  induction m with
  | nil => simp [Memory.zero, Memory.read]
  | cons c t ih =>
    simp only [Memory.zero, List.filter_cons] at ih ⊢
    split
    · rename_i hc
      simp only [Bool.or_eq_true, decide_eq_true_eq] at hc
      simp only [Memory.read]
      by_cases hb : c.1 = b
      · rw [if_pos hb, if_pos hb, if_neg (by omega)]
      · rw [if_neg hb, if_neg hb]
        exact ih
    · rename_i hc
      simp only [Bool.or_eq_true, decide_eq_true_eq, not_or, Nat.not_lt, Nat.not_le] at hc
      rw [ih]
      by_cases hb : x ≤ b ∧ b < y
      · rw [if_pos hb, if_pos hb]
      · rw [if_neg hb, if_neg hb]
        simp only [Memory.read]
        rw [if_neg (by omega)]

/-- The memory of the reset state has the canonical form. -/
theorem wf_reset : Memory.wf State.reset.mem = true := rfl

/-! ### The field operations -/

/-- Writing a byte keeps the canonical form. -/
theorem memoryOk_setByte {a n : Nat} {s : State} (h : Safety.MemoryOk s) : Safety.MemoryOk (setByte a n s) := wf_write h

/-- Writing a word keeps the canonical form. -/
theorem memoryOk_setWord {a n : Nat} {s : State} (h : Safety.MemoryOk s) : Safety.MemoryOk (setWord a n s) :=
  memoryOk_setByte (memoryOk_setByte h)

/-- Writing a 24-bit field keeps the canonical form. -/
theorem memoryOk_setLong {a n : Nat} {s : State} (h : Safety.MemoryOk s) : Safety.MemoryOk (setLong a n s) :=
  memoryOk_setWord (memoryOk_setWord h)

/-- Zeroing a range of the state's memory keeps the canonical form. -/
theorem memoryOk_zeroBytes {x y : Nat} {s : State} (h : Safety.MemoryOk s) : Safety.MemoryOk (zeroBytes x y s) :=
  wf_zero h

/-- The byte just written. -/
theorem byteAt_setByte_same {a n : Nat} {s : State} (h : Safety.MemoryOk s) (ha : a < Config.memorySize) :
    byteAt (setByte a n s) a = n % 256 := by
  simp [byteAt, setByte, read_write h ha]

/-- Every other byte. -/
theorem byteAt_setByte_other {a b n : Nat} {s : State} (h : Safety.MemoryOk s) (hb : b ≠ a) :
    byteAt (setByte a n s) b = byteAt s b := by
  simp [byteAt, setByte, read_write_other h hb]

/-- A byte outside the word written. -/
theorem byteAt_setWord_other {a b n : Nat} {s : State} (h : Safety.MemoryOk s) (h0 : b ≠ a) (h1 : b ≠ a + 1) :
    byteAt (setWord a n s) b = byteAt s b := by
  unfold setWord
  rw [byteAt_setByte_other (memoryOk_setByte h) h1, byteAt_setByte_other h h0]

/-- The word just written. -/
theorem wordAt_setWord_same {a n : Nat} {s : State} (h : Safety.MemoryOk s) (ha : a + 1 < Config.memorySize) :
    wordAt (setWord a n s) a = n % 65536 := by
  unfold wordAt setWord
  rw [byteAt_setByte_same (memoryOk_setByte h) ha, byteAt_setByte_other (memoryOk_setByte h) (by omega),
    byteAt_setByte_same h (by omega)]
  omega

/-- A word that does not meet the word written. -/
theorem wordAt_setWord_other {a b n : Nat} {s : State} (h : Safety.MemoryOk s) (hb : b + 1 < a ∨ a + 1 < b) :
    wordAt (setWord a n s) b = wordAt s b := by
  unfold wordAt
  rw [byteAt_setWord_other h (by omega) (by omega), byteAt_setWord_other h (by omega) (by omega)]

/-- The 24-bit field just written. -/
theorem longAt_setLong_same {a n : Nat} {s : State} (h : Safety.MemoryOk s) (ha : a + 3 < Config.memorySize)
    (hn : n < 16777216) : longAt (setLong a n s) a = n := by
  unfold longAt setLong
  rw [wordAt_setWord_other (memoryOk_setWord h) (by omega), wordAt_setWord_same h (by omega)]
  have hb : byteAt (setWord (a + 2) (n / 65536 % 256) (setWord a n s)) (a + 2) = n / 65536 % 256 := by
    unfold setWord
    rw [byteAt_setByte_other (memoryOk_setByte (memoryOk_setByte (memoryOk_setByte h))) (by omega),
      byteAt_setByte_same (memoryOk_setByte (memoryOk_setByte h)) (by omega)]
    omega
  rw [hb]
  omega

/-- A byte outside the 24-bit field's two words. -/
theorem byteAt_setLong_other {a b n : Nat} {s : State} (h : Safety.MemoryOk s) (hb : b < a ∨ a + 4 ≤ b) :
    byteAt (setLong a n s) b = byteAt s b := by
  unfold setLong
  rw [byteAt_setWord_other (memoryOk_setWord h) (by omega) (by omega), byteAt_setWord_other h (by omega) (by omega)]

/-- A byte of a zeroed range, or outside it. -/
theorem byteAt_zeroBytes {x y b : Nat} {s : State} :
    byteAt (zeroBytes x y s) b = if x ≤ b ∧ b < y then 0 else byteAt s b := by
  unfold byteAt zeroBytes
  simp only [read_zero]
  split <;> rfl

end Sys2Proof.Laws
end

