-- ==== Sys2Proof/Laws/State.lean ====
section
/-! SUPPORT. One lemma for each field of State that an update leaves, and one for each field it writes, so that no proof unfolds a
record update. -/

namespace Sys2Proof.Laws

open Sys2Proof Sys2Proof.Machine

variable (s : State)

/-! ### `setByte` -/

@[simp] theorem setByte_watch (a n : Nat) : (setByte a n s).watch = s.watch := rfl
@[simp] theorem setByte_orders (a n : Nat) : (setByte a n s).orders = s.orders := rfl
@[simp] theorem setByte_gate (a n : Nat) : (setByte a n s).gate = s.gate := rfl
@[simp] theorem setByte_carriage (a n : Nat) : (setByte a n s).carriage = s.carriage := rfl
@[simp] theorem setByte_feeder (a n : Nat) : (setByte a n s).feeder = s.feeder := rfl
@[simp] theorem setByte_exposure (a n : Nat) : (setByte a n s).exposure = s.exposure := rfl
@[simp] theorem setByte_lamp (a n : Nat) : (setByte a n s).lamp = s.lamp := rfl
@[simp] theorem setByte_supply (a n : Nat) : (setByte a n s).supply = s.supply := rfl
@[simp] theorem setByte_converter (a n : Nat) : (setByte a n s).converter = s.converter := rfl
@[simp] theorem setByte_labels (a n : Nat) : (setByte a n s).labels = s.labels := rfl
@[simp] theorem setByte_control (a n : Nat) : (setByte a n s).control = s.control := rfl
@[simp] theorem setByte_lidOpen (a n : Nat) : (setByte a n s).lidOpen = s.lidOpen := rfl
@[simp] theorem setByte_originalPresent (a n : Nat) : (setByte a n s).originalPresent = s.originalPresent := rfl
@[simp] theorem setByte_hostData (a n : Nat) : (setByte a n s).hostData = s.hostData := rfl
@[simp] theorem setByte_clock (a n : Nat) : (setByte a n s).clock = s.clock := rfl
@[simp] theorem setByte_pending (a n : Nat) : (setByte a n s).pending = s.pending := rfl
@[simp] theorem setByte_backA (a n : Nat) : (setByte a n s).backA = s.backA := rfl
@[simp] theorem setByte_backB (a n : Nat) : (setByte a n s).backB = s.backB := rfl

/-! ### `setWord` -/

@[simp] theorem setWord_watch (a n : Nat) : (setWord a n s).watch = s.watch := rfl
@[simp] theorem setWord_orders (a n : Nat) : (setWord a n s).orders = s.orders := rfl
@[simp] theorem setWord_gate (a n : Nat) : (setWord a n s).gate = s.gate := rfl
@[simp] theorem setWord_carriage (a n : Nat) : (setWord a n s).carriage = s.carriage := rfl
@[simp] theorem setWord_feeder (a n : Nat) : (setWord a n s).feeder = s.feeder := rfl
@[simp] theorem setWord_exposure (a n : Nat) : (setWord a n s).exposure = s.exposure := rfl
@[simp] theorem setWord_lamp (a n : Nat) : (setWord a n s).lamp = s.lamp := rfl
@[simp] theorem setWord_supply (a n : Nat) : (setWord a n s).supply = s.supply := rfl
@[simp] theorem setWord_converter (a n : Nat) : (setWord a n s).converter = s.converter := rfl
@[simp] theorem setWord_labels (a n : Nat) : (setWord a n s).labels = s.labels := rfl
@[simp] theorem setWord_control (a n : Nat) : (setWord a n s).control = s.control := rfl
@[simp] theorem setWord_lidOpen (a n : Nat) : (setWord a n s).lidOpen = s.lidOpen := rfl
@[simp] theorem setWord_originalPresent (a n : Nat) : (setWord a n s).originalPresent = s.originalPresent := rfl
@[simp] theorem setWord_hostData (a n : Nat) : (setWord a n s).hostData = s.hostData := rfl
@[simp] theorem setWord_clock (a n : Nat) : (setWord a n s).clock = s.clock := rfl
@[simp] theorem setWord_pending (a n : Nat) : (setWord a n s).pending = s.pending := rfl
@[simp] theorem setWord_backA (a n : Nat) : (setWord a n s).backA = s.backA := rfl
@[simp] theorem setWord_backB (a n : Nat) : (setWord a n s).backB = s.backB := rfl

/-! ### `setLong` -/

@[simp] theorem setLong_watch (a n : Nat) : (setLong a n s).watch = s.watch := rfl
@[simp] theorem setLong_orders (a n : Nat) : (setLong a n s).orders = s.orders := rfl
@[simp] theorem setLong_gate (a n : Nat) : (setLong a n s).gate = s.gate := rfl
@[simp] theorem setLong_carriage (a n : Nat) : (setLong a n s).carriage = s.carriage := rfl
@[simp] theorem setLong_feeder (a n : Nat) : (setLong a n s).feeder = s.feeder := rfl
@[simp] theorem setLong_exposure (a n : Nat) : (setLong a n s).exposure = s.exposure := rfl
@[simp] theorem setLong_lamp (a n : Nat) : (setLong a n s).lamp = s.lamp := rfl
@[simp] theorem setLong_supply (a n : Nat) : (setLong a n s).supply = s.supply := rfl
@[simp] theorem setLong_converter (a n : Nat) : (setLong a n s).converter = s.converter := rfl
@[simp] theorem setLong_labels (a n : Nat) : (setLong a n s).labels = s.labels := rfl
@[simp] theorem setLong_control (a n : Nat) : (setLong a n s).control = s.control := rfl
@[simp] theorem setLong_lidOpen (a n : Nat) : (setLong a n s).lidOpen = s.lidOpen := rfl
@[simp] theorem setLong_originalPresent (a n : Nat) : (setLong a n s).originalPresent = s.originalPresent := rfl
@[simp] theorem setLong_hostData (a n : Nat) : (setLong a n s).hostData = s.hostData := rfl
@[simp] theorem setLong_clock (a n : Nat) : (setLong a n s).clock = s.clock := rfl
@[simp] theorem setLong_pending (a n : Nat) : (setLong a n s).pending = s.pending := rfl
@[simp] theorem setLong_backA (a n : Nat) : (setLong a n s).backA = s.backA := rfl
@[simp] theorem setLong_backB (a n : Nat) : (setLong a n s).backB = s.backB := rfl

/-! ### `zeroBytes` -/

@[simp] theorem zeroBytes_watch (x y : Nat) : (zeroBytes x y s).watch = s.watch := rfl
@[simp] theorem zeroBytes_orders (x y : Nat) : (zeroBytes x y s).orders = s.orders := rfl
@[simp] theorem zeroBytes_gate (x y : Nat) : (zeroBytes x y s).gate = s.gate := rfl
@[simp] theorem zeroBytes_carriage (x y : Nat) : (zeroBytes x y s).carriage = s.carriage := rfl
@[simp] theorem zeroBytes_feeder (x y : Nat) : (zeroBytes x y s).feeder = s.feeder := rfl
@[simp] theorem zeroBytes_exposure (x y : Nat) : (zeroBytes x y s).exposure = s.exposure := rfl
@[simp] theorem zeroBytes_lamp (x y : Nat) : (zeroBytes x y s).lamp = s.lamp := rfl
@[simp] theorem zeroBytes_supply (x y : Nat) : (zeroBytes x y s).supply = s.supply := rfl
@[simp] theorem zeroBytes_converter (x y : Nat) : (zeroBytes x y s).converter = s.converter := rfl
@[simp] theorem zeroBytes_labels (x y : Nat) : (zeroBytes x y s).labels = s.labels := rfl
@[simp] theorem zeroBytes_control (x y : Nat) : (zeroBytes x y s).control = s.control := rfl
@[simp] theorem zeroBytes_lidOpen (x y : Nat) : (zeroBytes x y s).lidOpen = s.lidOpen := rfl
@[simp] theorem zeroBytes_originalPresent (x y : Nat) : (zeroBytes x y s).originalPresent = s.originalPresent := rfl
@[simp] theorem zeroBytes_hostData (x y : Nat) : (zeroBytes x y s).hostData = s.hostData := rfl
@[simp] theorem zeroBytes_clock (x y : Nat) : (zeroBytes x y s).clock = s.clock := rfl
@[simp] theorem zeroBytes_pending (x y : Nat) : (zeroBytes x y s).pending = s.pending := rfl
@[simp] theorem zeroBytes_backA (x y : Nat) : (zeroBytes x y s).backA = s.backA := rfl
@[simp] theorem zeroBytes_backB (x y : Nat) : (zeroBytes x y s).backB = s.backB := rfl

/-! ### `report` -/

@[simp] theorem report_watch (a n : Nat) : (report a n s).watch = s.watch := rfl
@[simp] theorem report_orders (a n : Nat) : (report a n s).orders = s.orders := rfl
@[simp] theorem report_gate (a n : Nat) : (report a n s).gate = s.gate := rfl
@[simp] theorem report_carriage (a n : Nat) : (report a n s).carriage = s.carriage := rfl
@[simp] theorem report_feeder (a n : Nat) : (report a n s).feeder = s.feeder := rfl
@[simp] theorem report_exposure (a n : Nat) : (report a n s).exposure = s.exposure := rfl
@[simp] theorem report_lamp (a n : Nat) : (report a n s).lamp = s.lamp := rfl
@[simp] theorem report_supply (a n : Nat) : (report a n s).supply = s.supply := rfl
@[simp] theorem report_converter (a n : Nat) : (report a n s).converter = s.converter := rfl
@[simp] theorem report_labels (a n : Nat) : (report a n s).labels = s.labels := rfl
@[simp] theorem report_control (a n : Nat) : (report a n s).control = s.control := rfl
@[simp] theorem report_lidOpen (a n : Nat) : (report a n s).lidOpen = s.lidOpen := rfl
@[simp] theorem report_originalPresent (a n : Nat) : (report a n s).originalPresent = s.originalPresent := rfl
@[simp] theorem report_hostData (a n : Nat) : (report a n s).hostData = s.hostData := rfl
@[simp] theorem report_clock (a n : Nat) : (report a n s).clock = s.clock := rfl
@[simp] theorem report_pending (a n : Nat) : (report a n s).pending = s.pending := rfl
@[simp] theorem report_backA (a n : Nat) : (report a n s).backA = s.backA := rfl
@[simp] theorem report_backB (a n : Nat) : (report a n s).backB = s.backB := rfl

/-! ### `raise` -/

@[simp] theorem raise_watch (f : Flag) : (raise f s).watch = s.watch := rfl
@[simp] theorem raise_orders (f : Flag) : (raise f s).orders = s.orders := rfl
@[simp] theorem raise_gate (f : Flag) : (raise f s).gate = s.gate := rfl
@[simp] theorem raise_carriage (f : Flag) : (raise f s).carriage = s.carriage := rfl
@[simp] theorem raise_feeder (f : Flag) : (raise f s).feeder = s.feeder := rfl
@[simp] theorem raise_exposure (f : Flag) : (raise f s).exposure = s.exposure := rfl
@[simp] theorem raise_lamp (f : Flag) : (raise f s).lamp = s.lamp := rfl
@[simp] theorem raise_supply (f : Flag) : (raise f s).supply = s.supply := rfl
@[simp] theorem raise_converter (f : Flag) : (raise f s).converter = s.converter := rfl
@[simp] theorem raise_labels (f : Flag) : (raise f s).labels = s.labels := rfl
@[simp] theorem raise_lidOpen (f : Flag) : (raise f s).lidOpen = s.lidOpen := rfl
@[simp] theorem raise_originalPresent (f : Flag) : (raise f s).originalPresent = s.originalPresent := rfl
@[simp] theorem raise_hostData (f : Flag) : (raise f s).hostData = s.hostData := rfl
@[simp] theorem raise_clock (f : Flag) : (raise f s).clock = s.clock := rfl
@[simp] theorem raise_pending (f : Flag) : (raise f s).pending = s.pending := rfl
@[simp] theorem raise_backA (f : Flag) : (raise f s).backA = s.backA := rfl
@[simp] theorem raise_backB (f : Flag) : (raise f s).backB = s.backB := rfl
@[simp] theorem raise_mem (f : Flag) : (raise f s).mem = s.mem := rfl

/-! ### `setBack` -/

@[simp] theorem setBack_watch (bk : Back) (u : BackUnit) : (setBack bk u s).watch = s.watch := by cases bk <;> rfl
@[simp] theorem setBack_orders (bk : Back) (u : BackUnit) : (setBack bk u s).orders = s.orders := by cases bk <;> rfl
@[simp] theorem setBack_gate (bk : Back) (u : BackUnit) : (setBack bk u s).gate = s.gate := by cases bk <;> rfl
@[simp] theorem setBack_carriage (bk : Back) (u : BackUnit) : (setBack bk u s).carriage = s.carriage := by cases bk <;> rfl
@[simp] theorem setBack_feeder (bk : Back) (u : BackUnit) : (setBack bk u s).feeder = s.feeder := by cases bk <;> rfl
@[simp] theorem setBack_exposure (bk : Back) (u : BackUnit) : (setBack bk u s).exposure = s.exposure := by cases bk <;> rfl
@[simp] theorem setBack_lamp (bk : Back) (u : BackUnit) : (setBack bk u s).lamp = s.lamp := by cases bk <;> rfl
@[simp] theorem setBack_supply (bk : Back) (u : BackUnit) : (setBack bk u s).supply = s.supply := by cases bk <;> rfl
@[simp] theorem setBack_converter (bk : Back) (u : BackUnit) : (setBack bk u s).converter = s.converter := by cases bk <;> rfl
@[simp] theorem setBack_labels (bk : Back) (u : BackUnit) : (setBack bk u s).labels = s.labels := by cases bk <;> rfl
@[simp] theorem setBack_control (bk : Back) (u : BackUnit) : (setBack bk u s).control = s.control := by cases bk <;> rfl
@[simp] theorem setBack_lidOpen (bk : Back) (u : BackUnit) : (setBack bk u s).lidOpen = s.lidOpen := by cases bk <;> rfl
@[simp] theorem setBack_originalPresent (bk : Back) (u : BackUnit) : (setBack bk u s).originalPresent = s.originalPresent := by cases bk <;> rfl
@[simp] theorem setBack_hostData (bk : Back) (u : BackUnit) : (setBack bk u s).hostData = s.hostData := by cases bk <;> rfl
@[simp] theorem setBack_clock (bk : Back) (u : BackUnit) : (setBack bk u s).clock = s.clock := by cases bk <;> rfl
@[simp] theorem setBack_pending (bk : Back) (u : BackUnit) : (setBack bk u s).pending = s.pending := by cases bk <;> rfl
@[simp] theorem setBack_mem (bk : Back) (u : BackUnit) : (setBack bk u s).mem = s.mem := by cases bk <;> rfl

/-! ### `setStand` -/

@[simp] theorem setStand_watch (st : StandState) (c : HoldCause) : (setStand st c s).watch = s.watch := rfl
@[simp] theorem setStand_orders (st : StandState) (c : HoldCause) : (setStand st c s).orders = s.orders := rfl
@[simp] theorem setStand_gate (st : StandState) (c : HoldCause) : (setStand st c s).gate = s.gate := rfl
@[simp] theorem setStand_carriage (st : StandState) (c : HoldCause) : (setStand st c s).carriage = s.carriage := rfl
@[simp] theorem setStand_feeder (st : StandState) (c : HoldCause) : (setStand st c s).feeder = s.feeder := rfl
@[simp] theorem setStand_exposure (st : StandState) (c : HoldCause) : (setStand st c s).exposure = s.exposure := rfl
@[simp] theorem setStand_lamp (st : StandState) (c : HoldCause) : (setStand st c s).lamp = s.lamp := rfl
@[simp] theorem setStand_supply (st : StandState) (c : HoldCause) : (setStand st c s).supply = s.supply := rfl
@[simp] theorem setStand_converter (st : StandState) (c : HoldCause) : (setStand st c s).converter = s.converter := rfl
@[simp] theorem setStand_labels (st : StandState) (c : HoldCause) : (setStand st c s).labels = s.labels := rfl
@[simp] theorem setStand_lidOpen (st : StandState) (c : HoldCause) : (setStand st c s).lidOpen = s.lidOpen := rfl
@[simp] theorem setStand_originalPresent (st : StandState) (c : HoldCause) : (setStand st c s).originalPresent = s.originalPresent := rfl
@[simp] theorem setStand_hostData (st : StandState) (c : HoldCause) : (setStand st c s).hostData = s.hostData := rfl
@[simp] theorem setStand_clock (st : StandState) (c : HoldCause) : (setStand st c s).clock = s.clock := rfl
@[simp] theorem setStand_pending (st : StandState) (c : HoldCause) : (setStand st c s).pending = s.pending := rfl
@[simp] theorem setStand_backA (st : StandState) (c : HoldCause) : (setStand st c s).backA = s.backA := rfl
@[simp] theorem setStand_backB (st : StandState) (c : HoldCause) : (setStand st c s).backB = s.backB := rfl

/-! ### `setResetCause` -/

@[simp] theorem setResetCause_watch (c : ResetCause) : (setResetCause c s).watch = s.watch := rfl
@[simp] theorem setResetCause_orders (c : ResetCause) : (setResetCause c s).orders = s.orders := rfl
@[simp] theorem setResetCause_gate (c : ResetCause) : (setResetCause c s).gate = s.gate := rfl
@[simp] theorem setResetCause_carriage (c : ResetCause) : (setResetCause c s).carriage = s.carriage := rfl
@[simp] theorem setResetCause_feeder (c : ResetCause) : (setResetCause c s).feeder = s.feeder := rfl
@[simp] theorem setResetCause_exposure (c : ResetCause) : (setResetCause c s).exposure = s.exposure := rfl
@[simp] theorem setResetCause_lamp (c : ResetCause) : (setResetCause c s).lamp = s.lamp := rfl
@[simp] theorem setResetCause_supply (c : ResetCause) : (setResetCause c s).supply = s.supply := rfl
@[simp] theorem setResetCause_converter (c : ResetCause) : (setResetCause c s).converter = s.converter := rfl
@[simp] theorem setResetCause_labels (c : ResetCause) : (setResetCause c s).labels = s.labels := rfl
@[simp] theorem setResetCause_lidOpen (c : ResetCause) : (setResetCause c s).lidOpen = s.lidOpen := rfl
@[simp] theorem setResetCause_originalPresent (c : ResetCause) : (setResetCause c s).originalPresent = s.originalPresent := rfl
@[simp] theorem setResetCause_hostData (c : ResetCause) : (setResetCause c s).hostData = s.hostData := rfl
@[simp] theorem setResetCause_clock (c : ResetCause) : (setResetCause c s).clock = s.clock := rfl
@[simp] theorem setResetCause_pending (c : ResetCause) : (setResetCause c s).pending = s.pending := rfl
@[simp] theorem setResetCause_backA (c : ResetCause) : (setResetCause c s).backA = s.backA := rfl
@[simp] theorem setResetCause_backB (c : ResetCause) : (setResetCause c s).backB = s.backB := rfl

/-! ### `enterCarriage` -/

@[simp] theorem enterCarriage_watch (c : CarriageState) : (enterCarriage c s).watch = s.watch := rfl
@[simp] theorem enterCarriage_orders (c : CarriageState) : (enterCarriage c s).orders = s.orders := rfl
@[simp] theorem enterCarriage_gate (c : CarriageState) : (enterCarriage c s).gate = s.gate := rfl
@[simp] theorem enterCarriage_feeder (c : CarriageState) : (enterCarriage c s).feeder = s.feeder := rfl
@[simp] theorem enterCarriage_exposure (c : CarriageState) : (enterCarriage c s).exposure = s.exposure := rfl
@[simp] theorem enterCarriage_lamp (c : CarriageState) : (enterCarriage c s).lamp = s.lamp := rfl
@[simp] theorem enterCarriage_supply (c : CarriageState) : (enterCarriage c s).supply = s.supply := rfl
@[simp] theorem enterCarriage_converter (c : CarriageState) : (enterCarriage c s).converter = s.converter := rfl
@[simp] theorem enterCarriage_labels (c : CarriageState) : (enterCarriage c s).labels = s.labels := rfl
@[simp] theorem enterCarriage_control (c : CarriageState) : (enterCarriage c s).control = s.control := rfl
@[simp] theorem enterCarriage_lidOpen (c : CarriageState) : (enterCarriage c s).lidOpen = s.lidOpen := rfl
@[simp] theorem enterCarriage_originalPresent (c : CarriageState) : (enterCarriage c s).originalPresent = s.originalPresent := rfl
@[simp] theorem enterCarriage_hostData (c : CarriageState) : (enterCarriage c s).hostData = s.hostData := rfl
@[simp] theorem enterCarriage_clock (c : CarriageState) : (enterCarriage c s).clock = s.clock := rfl
@[simp] theorem enterCarriage_pending (c : CarriageState) : (enterCarriage c s).pending = s.pending := rfl
@[simp] theorem enterCarriage_backA (c : CarriageState) : (enterCarriage c s).backA = s.backA := rfl
@[simp] theorem enterCarriage_backB (c : CarriageState) : (enterCarriage c s).backB = s.backB := rfl

/-! ### `setPosition` -/

@[simp] theorem setPosition_watch (p : Nat) : (setPosition p s).watch = s.watch := rfl
@[simp] theorem setPosition_orders (p : Nat) : (setPosition p s).orders = s.orders := rfl
@[simp] theorem setPosition_gate (p : Nat) : (setPosition p s).gate = s.gate := rfl
@[simp] theorem setPosition_carriage (p : Nat) : (setPosition p s).carriage = s.carriage := rfl
@[simp] theorem setPosition_exposure (p : Nat) : (setPosition p s).exposure = s.exposure := rfl
@[simp] theorem setPosition_lamp (p : Nat) : (setPosition p s).lamp = s.lamp := rfl
@[simp] theorem setPosition_supply (p : Nat) : (setPosition p s).supply = s.supply := rfl
@[simp] theorem setPosition_converter (p : Nat) : (setPosition p s).converter = s.converter := rfl
@[simp] theorem setPosition_labels (p : Nat) : (setPosition p s).labels = s.labels := rfl
@[simp] theorem setPosition_control (p : Nat) : (setPosition p s).control = s.control := rfl
@[simp] theorem setPosition_lidOpen (p : Nat) : (setPosition p s).lidOpen = s.lidOpen := rfl
@[simp] theorem setPosition_originalPresent (p : Nat) : (setPosition p s).originalPresent = s.originalPresent := rfl
@[simp] theorem setPosition_hostData (p : Nat) : (setPosition p s).hostData = s.hostData := rfl
@[simp] theorem setPosition_clock (p : Nat) : (setPosition p s).clock = s.clock := rfl
@[simp] theorem setPosition_pending (p : Nat) : (setPosition p s).pending = s.pending := rfl
@[simp] theorem setPosition_backA (p : Nat) : (setPosition p s).backA = s.backA := rfl
@[simp] theorem setPosition_backB (p : Nat) : (setPosition p s).backB = s.backB := rfl

/-! ### `setFaultCount` -/

@[simp] theorem setFaultCount_watch (n : Nat) : (setFaultCount n s).watch = s.watch := rfl
@[simp] theorem setFaultCount_orders (n : Nat) : (setFaultCount n s).orders = s.orders := rfl
@[simp] theorem setFaultCount_gate (n : Nat) : (setFaultCount n s).gate = s.gate := rfl
@[simp] theorem setFaultCount_carriage (n : Nat) : (setFaultCount n s).carriage = s.carriage := rfl
@[simp] theorem setFaultCount_feeder (n : Nat) : (setFaultCount n s).feeder = s.feeder := rfl
@[simp] theorem setFaultCount_exposure (n : Nat) : (setFaultCount n s).exposure = s.exposure := rfl
@[simp] theorem setFaultCount_supply (n : Nat) : (setFaultCount n s).supply = s.supply := rfl
@[simp] theorem setFaultCount_converter (n : Nat) : (setFaultCount n s).converter = s.converter := rfl
@[simp] theorem setFaultCount_labels (n : Nat) : (setFaultCount n s).labels = s.labels := rfl
@[simp] theorem setFaultCount_control (n : Nat) : (setFaultCount n s).control = s.control := rfl
@[simp] theorem setFaultCount_lidOpen (n : Nat) : (setFaultCount n s).lidOpen = s.lidOpen := rfl
@[simp] theorem setFaultCount_originalPresent (n : Nat) : (setFaultCount n s).originalPresent = s.originalPresent := rfl
@[simp] theorem setFaultCount_hostData (n : Nat) : (setFaultCount n s).hostData = s.hostData := rfl
@[simp] theorem setFaultCount_clock (n : Nat) : (setFaultCount n s).clock = s.clock := rfl
@[simp] theorem setFaultCount_pending (n : Nat) : (setFaultCount n s).pending = s.pending := rfl
@[simp] theorem setFaultCount_backA (n : Nat) : (setFaultCount n s).backA = s.backA := rfl
@[simp] theorem setFaultCount_backB (n : Nat) : (setFaultCount n s).backB = s.backB := rfl

/-! ### `setQueue` -/

@[simp] theorem setQueue_watch (q : List LabelEntry) : (setQueue q s).watch = s.watch := rfl
@[simp] theorem setQueue_orders (q : List LabelEntry) : (setQueue q s).orders = s.orders := rfl
@[simp] theorem setQueue_gate (q : List LabelEntry) : (setQueue q s).gate = s.gate := rfl
@[simp] theorem setQueue_carriage (q : List LabelEntry) : (setQueue q s).carriage = s.carriage := rfl
@[simp] theorem setQueue_feeder (q : List LabelEntry) : (setQueue q s).feeder = s.feeder := rfl
@[simp] theorem setQueue_exposure (q : List LabelEntry) : (setQueue q s).exposure = s.exposure := rfl
@[simp] theorem setQueue_lamp (q : List LabelEntry) : (setQueue q s).lamp = s.lamp := rfl
@[simp] theorem setQueue_supply (q : List LabelEntry) : (setQueue q s).supply = s.supply := rfl
@[simp] theorem setQueue_converter (q : List LabelEntry) : (setQueue q s).converter = s.converter := rfl
@[simp] theorem setQueue_control (q : List LabelEntry) : (setQueue q s).control = s.control := rfl
@[simp] theorem setQueue_lidOpen (q : List LabelEntry) : (setQueue q s).lidOpen = s.lidOpen := rfl
@[simp] theorem setQueue_originalPresent (q : List LabelEntry) : (setQueue q s).originalPresent = s.originalPresent := rfl
@[simp] theorem setQueue_hostData (q : List LabelEntry) : (setQueue q s).hostData = s.hostData := rfl
@[simp] theorem setQueue_clock (q : List LabelEntry) : (setQueue q s).clock = s.clock := rfl
@[simp] theorem setQueue_pending (q : List LabelEntry) : (setQueue q s).pending = s.pending := rfl
@[simp] theorem setQueue_backA (q : List LabelEntry) : (setQueue q s).backA = s.backA := rfl
@[simp] theorem setQueue_backB (q : List LabelEntry) : (setQueue q s).backB = s.backB := rfl

/-! ### `setErrors` -/

@[simp] theorem setErrors_watch (n : Nat) : (setErrors n s).watch = s.watch := rfl
@[simp] theorem setErrors_orders (n : Nat) : (setErrors n s).orders = s.orders := rfl
@[simp] theorem setErrors_gate (n : Nat) : (setErrors n s).gate = s.gate := rfl
@[simp] theorem setErrors_carriage (n : Nat) : (setErrors n s).carriage = s.carriage := rfl
@[simp] theorem setErrors_feeder (n : Nat) : (setErrors n s).feeder = s.feeder := rfl
@[simp] theorem setErrors_exposure (n : Nat) : (setErrors n s).exposure = s.exposure := rfl
@[simp] theorem setErrors_lamp (n : Nat) : (setErrors n s).lamp = s.lamp := rfl
@[simp] theorem setErrors_supply (n : Nat) : (setErrors n s).supply = s.supply := rfl
@[simp] theorem setErrors_converter (n : Nat) : (setErrors n s).converter = s.converter := rfl
@[simp] theorem setErrors_control (n : Nat) : (setErrors n s).control = s.control := rfl
@[simp] theorem setErrors_lidOpen (n : Nat) : (setErrors n s).lidOpen = s.lidOpen := rfl
@[simp] theorem setErrors_originalPresent (n : Nat) : (setErrors n s).originalPresent = s.originalPresent := rfl
@[simp] theorem setErrors_hostData (n : Nat) : (setErrors n s).hostData = s.hostData := rfl
@[simp] theorem setErrors_clock (n : Nat) : (setErrors n s).clock = s.clock := rfl
@[simp] theorem setErrors_pending (n : Nat) : (setErrors n s).pending = s.pending := rfl
@[simp] theorem setErrors_backA (n : Nat) : (setErrors n s).backA = s.backA := rfl
@[simp] theorem setErrors_backB (n : Nat) : (setErrors n s).backB = s.backB := rfl

/-! ### `enterBack` -/

@[simp] theorem enterBack_watch (bk : Back) (st : BackState) : (enterBack bk st s).watch = s.watch := by cases bk <;> rfl
@[simp] theorem enterBack_orders (bk : Back) (st : BackState) : (enterBack bk st s).orders = s.orders := by cases bk <;> rfl
@[simp] theorem enterBack_gate (bk : Back) (st : BackState) : (enterBack bk st s).gate = s.gate := by cases bk <;> rfl
@[simp] theorem enterBack_carriage (bk : Back) (st : BackState) : (enterBack bk st s).carriage = s.carriage := by cases bk <;> rfl
@[simp] theorem enterBack_feeder (bk : Back) (st : BackState) : (enterBack bk st s).feeder = s.feeder := by cases bk <;> rfl
@[simp] theorem enterBack_exposure (bk : Back) (st : BackState) : (enterBack bk st s).exposure = s.exposure := by cases bk <;> rfl
@[simp] theorem enterBack_lamp (bk : Back) (st : BackState) : (enterBack bk st s).lamp = s.lamp := by cases bk <;> rfl
@[simp] theorem enterBack_supply (bk : Back) (st : BackState) : (enterBack bk st s).supply = s.supply := by cases bk <;> rfl
@[simp] theorem enterBack_converter (bk : Back) (st : BackState) : (enterBack bk st s).converter = s.converter := by cases bk <;> rfl
@[simp] theorem enterBack_labels (bk : Back) (st : BackState) : (enterBack bk st s).labels = s.labels := by cases bk <;> rfl
@[simp] theorem enterBack_control (bk : Back) (st : BackState) : (enterBack bk st s).control = s.control := by cases bk <;> rfl
@[simp] theorem enterBack_lidOpen (bk : Back) (st : BackState) : (enterBack bk st s).lidOpen = s.lidOpen := by cases bk <;> rfl
@[simp] theorem enterBack_originalPresent (bk : Back) (st : BackState) : (enterBack bk st s).originalPresent = s.originalPresent := by cases bk <;> rfl
@[simp] theorem enterBack_hostData (bk : Back) (st : BackState) : (enterBack bk st s).hostData = s.hostData := by cases bk <;> rfl
@[simp] theorem enterBack_clock (bk : Back) (st : BackState) : (enterBack bk st s).clock = s.clock := by cases bk <;> rfl
@[simp] theorem enterBack_pending (bk : Back) (st : BackState) : (enterBack bk st s).pending = s.pending := by cases bk <;> rfl

/-! ### `setLive` -/

@[simp] theorem setLive_watch (bk : Back) (w : Option Which) : (setLive bk w s).watch = s.watch := by cases bk <;> rfl
@[simp] theorem setLive_orders (bk : Back) (w : Option Which) : (setLive bk w s).orders = s.orders := by cases bk <;> rfl
@[simp] theorem setLive_gate (bk : Back) (w : Option Which) : (setLive bk w s).gate = s.gate := by cases bk <;> rfl
@[simp] theorem setLive_carriage (bk : Back) (w : Option Which) : (setLive bk w s).carriage = s.carriage := by cases bk <;> rfl
@[simp] theorem setLive_feeder (bk : Back) (w : Option Which) : (setLive bk w s).feeder = s.feeder := by cases bk <;> rfl
@[simp] theorem setLive_exposure (bk : Back) (w : Option Which) : (setLive bk w s).exposure = s.exposure := by cases bk <;> rfl
@[simp] theorem setLive_lamp (bk : Back) (w : Option Which) : (setLive bk w s).lamp = s.lamp := by cases bk <;> rfl
@[simp] theorem setLive_supply (bk : Back) (w : Option Which) : (setLive bk w s).supply = s.supply := by cases bk <;> rfl
@[simp] theorem setLive_converter (bk : Back) (w : Option Which) : (setLive bk w s).converter = s.converter := by cases bk <;> rfl
@[simp] theorem setLive_labels (bk : Back) (w : Option Which) : (setLive bk w s).labels = s.labels := by cases bk <;> rfl
@[simp] theorem setLive_control (bk : Back) (w : Option Which) : (setLive bk w s).control = s.control := by cases bk <;> rfl
@[simp] theorem setLive_lidOpen (bk : Back) (w : Option Which) : (setLive bk w s).lidOpen = s.lidOpen := by cases bk <;> rfl
@[simp] theorem setLive_originalPresent (bk : Back) (w : Option Which) : (setLive bk w s).originalPresent = s.originalPresent := by cases bk <;> rfl
@[simp] theorem setLive_hostData (bk : Back) (w : Option Which) : (setLive bk w s).hostData = s.hostData := by cases bk <;> rfl
@[simp] theorem setLive_clock (bk : Back) (w : Option Which) : (setLive bk w s).clock = s.clock := by cases bk <;> rfl
@[simp] theorem setLive_pending (bk : Back) (w : Option Which) : (setLive bk w s).pending = s.pending := by cases bk <;> rfl

/-! ### `setGateFrame` -/

@[simp] theorem setGateFrame_watch (bk : Back) (k : Nat) : (setGateFrame bk k s).watch = s.watch := by cases bk <;> rfl
@[simp] theorem setGateFrame_orders (bk : Back) (k : Nat) : (setGateFrame bk k s).orders = s.orders := by cases bk <;> rfl
@[simp] theorem setGateFrame_gate (bk : Back) (k : Nat) : (setGateFrame bk k s).gate = s.gate := by cases bk <;> rfl
@[simp] theorem setGateFrame_carriage (bk : Back) (k : Nat) : (setGateFrame bk k s).carriage = s.carriage := by cases bk <;> rfl
@[simp] theorem setGateFrame_feeder (bk : Back) (k : Nat) : (setGateFrame bk k s).feeder = s.feeder := by cases bk <;> rfl
@[simp] theorem setGateFrame_exposure (bk : Back) (k : Nat) : (setGateFrame bk k s).exposure = s.exposure := by cases bk <;> rfl
@[simp] theorem setGateFrame_lamp (bk : Back) (k : Nat) : (setGateFrame bk k s).lamp = s.lamp := by cases bk <;> rfl
@[simp] theorem setGateFrame_supply (bk : Back) (k : Nat) : (setGateFrame bk k s).supply = s.supply := by cases bk <;> rfl
@[simp] theorem setGateFrame_converter (bk : Back) (k : Nat) : (setGateFrame bk k s).converter = s.converter := by cases bk <;> rfl
@[simp] theorem setGateFrame_labels (bk : Back) (k : Nat) : (setGateFrame bk k s).labels = s.labels := by cases bk <;> rfl
@[simp] theorem setGateFrame_control (bk : Back) (k : Nat) : (setGateFrame bk k s).control = s.control := by cases bk <;> rfl
@[simp] theorem setGateFrame_lidOpen (bk : Back) (k : Nat) : (setGateFrame bk k s).lidOpen = s.lidOpen := by cases bk <;> rfl
@[simp] theorem setGateFrame_originalPresent (bk : Back) (k : Nat) : (setGateFrame bk k s).originalPresent = s.originalPresent := by cases bk <;> rfl
@[simp] theorem setGateFrame_hostData (bk : Back) (k : Nat) : (setGateFrame bk k s).hostData = s.hostData := by cases bk <;> rfl
@[simp] theorem setGateFrame_clock (bk : Back) (k : Nat) : (setGateFrame bk k s).clock = s.clock := by cases bk <;> rfl
@[simp] theorem setGateFrame_pending (bk : Back) (k : Nat) : (setGateFrame bk k s).pending = s.pending := by cases bk <;> rfl
@[simp] theorem setGateFrame_mem (bk : Back) (k : Nat) : (setGateFrame bk k s).mem = s.mem := by cases bk <;> rfl

/-! ### `setMotor` -/

@[simp] theorem setMotor_watch (bk : Back) (m : Motor) : (setMotor bk m s).watch = s.watch := by cases bk <;> rfl
@[simp] theorem setMotor_orders (bk : Back) (m : Motor) : (setMotor bk m s).orders = s.orders := by cases bk <;> rfl
@[simp] theorem setMotor_gate (bk : Back) (m : Motor) : (setMotor bk m s).gate = s.gate := by cases bk <;> rfl
@[simp] theorem setMotor_carriage (bk : Back) (m : Motor) : (setMotor bk m s).carriage = s.carriage := by cases bk <;> rfl
@[simp] theorem setMotor_feeder (bk : Back) (m : Motor) : (setMotor bk m s).feeder = s.feeder := by cases bk <;> rfl
@[simp] theorem setMotor_exposure (bk : Back) (m : Motor) : (setMotor bk m s).exposure = s.exposure := by cases bk <;> rfl
@[simp] theorem setMotor_lamp (bk : Back) (m : Motor) : (setMotor bk m s).lamp = s.lamp := by cases bk <;> rfl
@[simp] theorem setMotor_supply (bk : Back) (m : Motor) : (setMotor bk m s).supply = s.supply := by cases bk <;> rfl
@[simp] theorem setMotor_converter (bk : Back) (m : Motor) : (setMotor bk m s).converter = s.converter := by cases bk <;> rfl
@[simp] theorem setMotor_labels (bk : Back) (m : Motor) : (setMotor bk m s).labels = s.labels := by cases bk <;> rfl
@[simp] theorem setMotor_control (bk : Back) (m : Motor) : (setMotor bk m s).control = s.control := by cases bk <;> rfl
@[simp] theorem setMotor_lidOpen (bk : Back) (m : Motor) : (setMotor bk m s).lidOpen = s.lidOpen := by cases bk <;> rfl
@[simp] theorem setMotor_originalPresent (bk : Back) (m : Motor) : (setMotor bk m s).originalPresent = s.originalPresent := by cases bk <;> rfl
@[simp] theorem setMotor_hostData (bk : Back) (m : Motor) : (setMotor bk m s).hostData = s.hostData := by cases bk <;> rfl
@[simp] theorem setMotor_clock (bk : Back) (m : Motor) : (setMotor bk m s).clock = s.clock := by cases bk <;> rfl
@[simp] theorem setMotor_pending (bk : Back) (m : Motor) : (setMotor bk m s).pending = s.pending := by cases bk <;> rfl
@[simp] theorem setMotor_mem (bk : Back) (m : Motor) : (setMotor bk m s).mem = s.mem := by cases bk <;> rfl

/-! ### `setShutter` -/

@[simp] theorem setShutter_watch (bk : Back) (x : Shutter) : (setShutter bk x s).watch = s.watch := by cases bk <;> rfl
@[simp] theorem setShutter_orders (bk : Back) (x : Shutter) : (setShutter bk x s).orders = s.orders := by cases bk <;> rfl
@[simp] theorem setShutter_gate (bk : Back) (x : Shutter) : (setShutter bk x s).gate = s.gate := by cases bk <;> rfl
@[simp] theorem setShutter_carriage (bk : Back) (x : Shutter) : (setShutter bk x s).carriage = s.carriage := by cases bk <;> rfl
@[simp] theorem setShutter_feeder (bk : Back) (x : Shutter) : (setShutter bk x s).feeder = s.feeder := by cases bk <;> rfl
@[simp] theorem setShutter_exposure (bk : Back) (x : Shutter) : (setShutter bk x s).exposure = s.exposure := by cases bk <;> rfl
@[simp] theorem setShutter_lamp (bk : Back) (x : Shutter) : (setShutter bk x s).lamp = s.lamp := by cases bk <;> rfl
@[simp] theorem setShutter_supply (bk : Back) (x : Shutter) : (setShutter bk x s).supply = s.supply := by cases bk <;> rfl
@[simp] theorem setShutter_converter (bk : Back) (x : Shutter) : (setShutter bk x s).converter = s.converter := by cases bk <;> rfl
@[simp] theorem setShutter_labels (bk : Back) (x : Shutter) : (setShutter bk x s).labels = s.labels := by cases bk <;> rfl
@[simp] theorem setShutter_control (bk : Back) (x : Shutter) : (setShutter bk x s).control = s.control := by cases bk <;> rfl
@[simp] theorem setShutter_lidOpen (bk : Back) (x : Shutter) : (setShutter bk x s).lidOpen = s.lidOpen := by cases bk <;> rfl
@[simp] theorem setShutter_originalPresent (bk : Back) (x : Shutter) : (setShutter bk x s).originalPresent = s.originalPresent := by cases bk <;> rfl
@[simp] theorem setShutter_hostData (bk : Back) (x : Shutter) : (setShutter bk x s).hostData = s.hostData := by cases bk <;> rfl
@[simp] theorem setShutter_clock (bk : Back) (x : Shutter) : (setShutter bk x s).clock = s.clock := by cases bk <;> rfl
@[simp] theorem setShutter_pending (bk : Back) (x : Shutter) : (setShutter bk x s).pending = s.pending := by cases bk <;> rfl
@[simp] theorem setShutter_mem (bk : Back) (x : Shutter) : (setShutter bk x s).mem = s.mem := by cases bk <;> rfl

/-! ### `recordSheetHand` -/

@[simp] theorem recordSheetHand_watch (sh : Sheet) (h : SheetHand) : (recordSheetHand sh h s).watch = s.watch := by
  obtain ⟨bk, w⟩ := sh
  cases bk <;> cases w <;> rfl
@[simp] theorem recordSheetHand_orders (sh : Sheet) (h : SheetHand) : (recordSheetHand sh h s).orders = s.orders := by
  obtain ⟨bk, w⟩ := sh
  cases bk <;> cases w <;> rfl
@[simp] theorem recordSheetHand_gate (sh : Sheet) (h : SheetHand) : (recordSheetHand sh h s).gate = s.gate := by
  obtain ⟨bk, w⟩ := sh
  cases bk <;> cases w <;> rfl
@[simp] theorem recordSheetHand_carriage (sh : Sheet) (h : SheetHand) : (recordSheetHand sh h s).carriage = s.carriage := by
  obtain ⟨bk, w⟩ := sh
  cases bk <;> cases w <;> rfl
@[simp] theorem recordSheetHand_feeder (sh : Sheet) (h : SheetHand) : (recordSheetHand sh h s).feeder = s.feeder := by
  obtain ⟨bk, w⟩ := sh
  cases bk <;> cases w <;> rfl
@[simp] theorem recordSheetHand_exposure (sh : Sheet) (h : SheetHand) : (recordSheetHand sh h s).exposure = s.exposure := by
  obtain ⟨bk, w⟩ := sh
  cases bk <;> cases w <;> rfl
@[simp] theorem recordSheetHand_lamp (sh : Sheet) (h : SheetHand) : (recordSheetHand sh h s).lamp = s.lamp := by
  obtain ⟨bk, w⟩ := sh
  cases bk <;> cases w <;> rfl
@[simp] theorem recordSheetHand_supply (sh : Sheet) (h : SheetHand) : (recordSheetHand sh h s).supply = s.supply := by
  obtain ⟨bk, w⟩ := sh
  cases bk <;> cases w <;> rfl
@[simp] theorem recordSheetHand_converter (sh : Sheet) (h : SheetHand) : (recordSheetHand sh h s).converter = s.converter := by
  obtain ⟨bk, w⟩ := sh
  cases bk <;> cases w <;> rfl
@[simp] theorem recordSheetHand_labels (sh : Sheet) (h : SheetHand) : (recordSheetHand sh h s).labels = s.labels := by
  obtain ⟨bk, w⟩ := sh
  cases bk <;> cases w <;> rfl
@[simp] theorem recordSheetHand_control (sh : Sheet) (h : SheetHand) : (recordSheetHand sh h s).control = s.control := by
  obtain ⟨bk, w⟩ := sh
  cases bk <;> cases w <;> rfl
@[simp] theorem recordSheetHand_lidOpen (sh : Sheet) (h : SheetHand) : (recordSheetHand sh h s).lidOpen = s.lidOpen := by
  obtain ⟨bk, w⟩ := sh
  cases bk <;> cases w <;> rfl
@[simp] theorem recordSheetHand_originalPresent (sh : Sheet) (h : SheetHand) : (recordSheetHand sh h s).originalPresent = s.originalPresent := by
  obtain ⟨bk, w⟩ := sh
  cases bk <;> cases w <;> rfl
@[simp] theorem recordSheetHand_hostData (sh : Sheet) (h : SheetHand) : (recordSheetHand sh h s).hostData = s.hostData := by
  obtain ⟨bk, w⟩ := sh
  cases bk <;> cases w <;> rfl
@[simp] theorem recordSheetHand_clock (sh : Sheet) (h : SheetHand) : (recordSheetHand sh h s).clock = s.clock := by
  obtain ⟨bk, w⟩ := sh
  cases bk <;> cases w <;> rfl
@[simp] theorem recordSheetHand_pending (sh : Sheet) (h : SheetHand) : (recordSheetHand sh h s).pending = s.pending := by
  obtain ⟨bk, w⟩ := sh
  cases bk <;> cases w <;> rfl
@[simp] theorem recordSheetHand_mem (sh : Sheet) (h : SheetHand) : (recordSheetHand sh h s).mem = s.mem := by
  obtain ⟨bk, w⟩ := sh
  cases bk <;> cases w <;> rfl

/-! ### `recordHand` -/

@[simp] theorem recordHand_watch (n : Slot) (h : SlotHand) : (recordHand n h s).watch = s.watch := rfl
@[simp] theorem recordHand_gate (n : Slot) (h : SlotHand) : (recordHand n h s).gate = s.gate := rfl
@[simp] theorem recordHand_carriage (n : Slot) (h : SlotHand) : (recordHand n h s).carriage = s.carriage := rfl
@[simp] theorem recordHand_feeder (n : Slot) (h : SlotHand) : (recordHand n h s).feeder = s.feeder := rfl
@[simp] theorem recordHand_exposure (n : Slot) (h : SlotHand) : (recordHand n h s).exposure = s.exposure := rfl
@[simp] theorem recordHand_lamp (n : Slot) (h : SlotHand) : (recordHand n h s).lamp = s.lamp := rfl
@[simp] theorem recordHand_supply (n : Slot) (h : SlotHand) : (recordHand n h s).supply = s.supply := rfl
@[simp] theorem recordHand_converter (n : Slot) (h : SlotHand) : (recordHand n h s).converter = s.converter := rfl
@[simp] theorem recordHand_labels (n : Slot) (h : SlotHand) : (recordHand n h s).labels = s.labels := rfl
@[simp] theorem recordHand_control (n : Slot) (h : SlotHand) : (recordHand n h s).control = s.control := rfl
@[simp] theorem recordHand_lidOpen (n : Slot) (h : SlotHand) : (recordHand n h s).lidOpen = s.lidOpen := rfl
@[simp] theorem recordHand_originalPresent (n : Slot) (h : SlotHand) : (recordHand n h s).originalPresent = s.originalPresent := rfl
@[simp] theorem recordHand_hostData (n : Slot) (h : SlotHand) : (recordHand n h s).hostData = s.hostData := rfl
@[simp] theorem recordHand_clock (n : Slot) (h : SlotHand) : (recordHand n h s).clock = s.clock := rfl
@[simp] theorem recordHand_pending (n : Slot) (h : SlotHand) : (recordHand n h s).pending = s.pending := rfl
@[simp] theorem recordHand_backA (n : Slot) (h : SlotHand) : (recordHand n h s).backA = s.backA := rfl
@[simp] theorem recordHand_backB (n : Slot) (h : SlotHand) : (recordHand n h s).backB = s.backB := rfl
@[simp] theorem recordHand_mem (n : Slot) (h : SlotHand) : (recordHand n h s).mem = s.mem := rfl

/-! ### `setRunList` -/

@[simp] theorem setRunList_watch (l : List OrderEntry) : (setRunList l s).watch = s.watch := rfl
@[simp] theorem setRunList_gate (l : List OrderEntry) : (setRunList l s).gate = s.gate := rfl
@[simp] theorem setRunList_carriage (l : List OrderEntry) : (setRunList l s).carriage = s.carriage := rfl
@[simp] theorem setRunList_feeder (l : List OrderEntry) : (setRunList l s).feeder = s.feeder := rfl
@[simp] theorem setRunList_exposure (l : List OrderEntry) : (setRunList l s).exposure = s.exposure := rfl
@[simp] theorem setRunList_lamp (l : List OrderEntry) : (setRunList l s).lamp = s.lamp := rfl
@[simp] theorem setRunList_supply (l : List OrderEntry) : (setRunList l s).supply = s.supply := rfl
@[simp] theorem setRunList_converter (l : List OrderEntry) : (setRunList l s).converter = s.converter := rfl
@[simp] theorem setRunList_labels (l : List OrderEntry) : (setRunList l s).labels = s.labels := rfl
@[simp] theorem setRunList_control (l : List OrderEntry) : (setRunList l s).control = s.control := rfl
@[simp] theorem setRunList_lidOpen (l : List OrderEntry) : (setRunList l s).lidOpen = s.lidOpen := rfl
@[simp] theorem setRunList_originalPresent (l : List OrderEntry) : (setRunList l s).originalPresent = s.originalPresent := rfl
@[simp] theorem setRunList_hostData (l : List OrderEntry) : (setRunList l s).hostData = s.hostData := rfl
@[simp] theorem setRunList_clock (l : List OrderEntry) : (setRunList l s).clock = s.clock := rfl
@[simp] theorem setRunList_pending (l : List OrderEntry) : (setRunList l s).pending = s.pending := rfl
@[simp] theorem setRunList_backA (l : List OrderEntry) : (setRunList l s).backA = s.backA := rfl
@[simp] theorem setRunList_backB (l : List OrderEntry) : (setRunList l s).backB = s.backB := rfl
@[simp] theorem setRunList_mem (l : List OrderEntry) : (setRunList l s).mem = s.mem := rfl

/-! ### `setIntake` -/

@[simp] theorem setIntake_watch (l : List Slot) : (setIntake l s).watch = s.watch := rfl
@[simp] theorem setIntake_gate (l : List Slot) : (setIntake l s).gate = s.gate := rfl
@[simp] theorem setIntake_carriage (l : List Slot) : (setIntake l s).carriage = s.carriage := rfl
@[simp] theorem setIntake_feeder (l : List Slot) : (setIntake l s).feeder = s.feeder := rfl
@[simp] theorem setIntake_exposure (l : List Slot) : (setIntake l s).exposure = s.exposure := rfl
@[simp] theorem setIntake_lamp (l : List Slot) : (setIntake l s).lamp = s.lamp := rfl
@[simp] theorem setIntake_supply (l : List Slot) : (setIntake l s).supply = s.supply := rfl
@[simp] theorem setIntake_converter (l : List Slot) : (setIntake l s).converter = s.converter := rfl
@[simp] theorem setIntake_labels (l : List Slot) : (setIntake l s).labels = s.labels := rfl
@[simp] theorem setIntake_control (l : List Slot) : (setIntake l s).control = s.control := rfl
@[simp] theorem setIntake_lidOpen (l : List Slot) : (setIntake l s).lidOpen = s.lidOpen := rfl
@[simp] theorem setIntake_originalPresent (l : List Slot) : (setIntake l s).originalPresent = s.originalPresent := rfl
@[simp] theorem setIntake_hostData (l : List Slot) : (setIntake l s).hostData = s.hostData := rfl
@[simp] theorem setIntake_clock (l : List Slot) : (setIntake l s).clock = s.clock := rfl
@[simp] theorem setIntake_pending (l : List Slot) : (setIntake l s).pending = s.pending := rfl
@[simp] theorem setIntake_backA (l : List Slot) : (setIntake l s).backA = s.backA := rfl
@[simp] theorem setIntake_backB (l : List Slot) : (setIntake l s).backB = s.backB := rfl
@[simp] theorem setIntake_mem (l : List Slot) : (setIntake l s).mem = s.mem := rfl

/-! ### `setChoice` -/

@[simp] theorem setChoice_watch (c : Option ShotChoice) : (setChoice c s).watch = s.watch := rfl
@[simp] theorem setChoice_gate (c : Option ShotChoice) : (setChoice c s).gate = s.gate := rfl
@[simp] theorem setChoice_carriage (c : Option ShotChoice) : (setChoice c s).carriage = s.carriage := rfl
@[simp] theorem setChoice_feeder (c : Option ShotChoice) : (setChoice c s).feeder = s.feeder := rfl
@[simp] theorem setChoice_exposure (c : Option ShotChoice) : (setChoice c s).exposure = s.exposure := rfl
@[simp] theorem setChoice_lamp (c : Option ShotChoice) : (setChoice c s).lamp = s.lamp := rfl
@[simp] theorem setChoice_supply (c : Option ShotChoice) : (setChoice c s).supply = s.supply := rfl
@[simp] theorem setChoice_converter (c : Option ShotChoice) : (setChoice c s).converter = s.converter := rfl
@[simp] theorem setChoice_labels (c : Option ShotChoice) : (setChoice c s).labels = s.labels := rfl
@[simp] theorem setChoice_control (c : Option ShotChoice) : (setChoice c s).control = s.control := rfl
@[simp] theorem setChoice_lidOpen (c : Option ShotChoice) : (setChoice c s).lidOpen = s.lidOpen := rfl
@[simp] theorem setChoice_originalPresent (c : Option ShotChoice) : (setChoice c s).originalPresent = s.originalPresent := rfl
@[simp] theorem setChoice_hostData (c : Option ShotChoice) : (setChoice c s).hostData = s.hostData := rfl
@[simp] theorem setChoice_clock (c : Option ShotChoice) : (setChoice c s).clock = s.clock := rfl
@[simp] theorem setChoice_pending (c : Option ShotChoice) : (setChoice c s).pending = s.pending := rfl
@[simp] theorem setChoice_backA (c : Option ShotChoice) : (setChoice c s).backA = s.backA := rfl
@[simp] theorem setChoice_backB (c : Option ShotChoice) : (setChoice c s).backB = s.backB := rfl
@[simp] theorem setChoice_mem (c : Option ShotChoice) : (setChoice c s).mem = s.mem := rfl

/-! ### `setPhase` -/

@[simp] theorem setPhase_watch (p : GatePhase) : (setPhase p s).watch = s.watch := rfl
@[simp] theorem setPhase_orders (p : GatePhase) : (setPhase p s).orders = s.orders := rfl
@[simp] theorem setPhase_carriage (p : GatePhase) : (setPhase p s).carriage = s.carriage := rfl
@[simp] theorem setPhase_feeder (p : GatePhase) : (setPhase p s).feeder = s.feeder := rfl
@[simp] theorem setPhase_exposure (p : GatePhase) : (setPhase p s).exposure = s.exposure := rfl
@[simp] theorem setPhase_lamp (p : GatePhase) : (setPhase p s).lamp = s.lamp := rfl
@[simp] theorem setPhase_supply (p : GatePhase) : (setPhase p s).supply = s.supply := rfl
@[simp] theorem setPhase_converter (p : GatePhase) : (setPhase p s).converter = s.converter := rfl
@[simp] theorem setPhase_labels (p : GatePhase) : (setPhase p s).labels = s.labels := rfl
@[simp] theorem setPhase_control (p : GatePhase) : (setPhase p s).control = s.control := rfl
@[simp] theorem setPhase_lidOpen (p : GatePhase) : (setPhase p s).lidOpen = s.lidOpen := rfl
@[simp] theorem setPhase_originalPresent (p : GatePhase) : (setPhase p s).originalPresent = s.originalPresent := rfl
@[simp] theorem setPhase_hostData (p : GatePhase) : (setPhase p s).hostData = s.hostData := rfl
@[simp] theorem setPhase_clock (p : GatePhase) : (setPhase p s).clock = s.clock := rfl
@[simp] theorem setPhase_pending (p : GatePhase) : (setPhase p s).pending = s.pending := rfl
@[simp] theorem setPhase_backA (p : GatePhase) : (setPhase p s).backA = s.backA := rfl
@[simp] theorem setPhase_backB (p : GatePhase) : (setPhase p s).backB = s.backB := rfl
@[simp] theorem setPhase_mem (p : GatePhase) : (setPhase p s).mem = s.mem := rfl

/-! ### `setShot` -/

@[simp] theorem setShot_watch (r : ShotRecord) : (setShot r s).watch = s.watch := rfl
@[simp] theorem setShot_orders (r : ShotRecord) : (setShot r s).orders = s.orders := rfl
@[simp] theorem setShot_carriage (r : ShotRecord) : (setShot r s).carriage = s.carriage := rfl
@[simp] theorem setShot_feeder (r : ShotRecord) : (setShot r s).feeder = s.feeder := rfl
@[simp] theorem setShot_exposure (r : ShotRecord) : (setShot r s).exposure = s.exposure := rfl
@[simp] theorem setShot_lamp (r : ShotRecord) : (setShot r s).lamp = s.lamp := rfl
@[simp] theorem setShot_supply (r : ShotRecord) : (setShot r s).supply = s.supply := rfl
@[simp] theorem setShot_converter (r : ShotRecord) : (setShot r s).converter = s.converter := rfl
@[simp] theorem setShot_labels (r : ShotRecord) : (setShot r s).labels = s.labels := rfl
@[simp] theorem setShot_control (r : ShotRecord) : (setShot r s).control = s.control := rfl
@[simp] theorem setShot_lidOpen (r : ShotRecord) : (setShot r s).lidOpen = s.lidOpen := rfl
@[simp] theorem setShot_originalPresent (r : ShotRecord) : (setShot r s).originalPresent = s.originalPresent := rfl
@[simp] theorem setShot_hostData (r : ShotRecord) : (setShot r s).hostData = s.hostData := rfl
@[simp] theorem setShot_clock (r : ShotRecord) : (setShot r s).clock = s.clock := rfl
@[simp] theorem setShot_pending (r : ShotRecord) : (setShot r s).pending = s.pending := rfl
@[simp] theorem setShot_backA (r : ShotRecord) : (setShot r s).backA = s.backA := rfl
@[simp] theorem setShot_backB (r : ShotRecord) : (setShot r s).backB = s.backB := rfl
@[simp] theorem setShot_mem (r : ShotRecord) : (setShot r s).mem = s.mem := rfl

/-! ### `setSettle` -/

@[simp] theorem setSettle_watch (t : Timer) : (setSettle t s).watch = s.watch := rfl
@[simp] theorem setSettle_orders (t : Timer) : (setSettle t s).orders = s.orders := rfl
@[simp] theorem setSettle_carriage (t : Timer) : (setSettle t s).carriage = s.carriage := rfl
@[simp] theorem setSettle_feeder (t : Timer) : (setSettle t s).feeder = s.feeder := rfl
@[simp] theorem setSettle_exposure (t : Timer) : (setSettle t s).exposure = s.exposure := rfl
@[simp] theorem setSettle_lamp (t : Timer) : (setSettle t s).lamp = s.lamp := rfl
@[simp] theorem setSettle_supply (t : Timer) : (setSettle t s).supply = s.supply := rfl
@[simp] theorem setSettle_converter (t : Timer) : (setSettle t s).converter = s.converter := rfl
@[simp] theorem setSettle_labels (t : Timer) : (setSettle t s).labels = s.labels := rfl
@[simp] theorem setSettle_control (t : Timer) : (setSettle t s).control = s.control := rfl
@[simp] theorem setSettle_lidOpen (t : Timer) : (setSettle t s).lidOpen = s.lidOpen := rfl
@[simp] theorem setSettle_originalPresent (t : Timer) : (setSettle t s).originalPresent = s.originalPresent := rfl
@[simp] theorem setSettle_hostData (t : Timer) : (setSettle t s).hostData = s.hostData := rfl
@[simp] theorem setSettle_clock (t : Timer) : (setSettle t s).clock = s.clock := rfl
@[simp] theorem setSettle_pending (t : Timer) : (setSettle t s).pending = s.pending := rfl
@[simp] theorem setSettle_backA (t : Timer) : (setSettle t s).backA = s.backA := rfl
@[simp] theorem setSettle_backB (t : Timer) : (setSettle t s).backB = s.backB := rfl
@[simp] theorem setSettle_mem (t : Timer) : (setSettle t s).mem = s.mem := rfl

/-! ### `emptyHolder` -/

@[simp] theorem emptyHolder_watch : (emptyHolder s).watch = s.watch := rfl
@[simp] theorem emptyHolder_orders : (emptyHolder s).orders = s.orders := rfl
@[simp] theorem emptyHolder_gate : (emptyHolder s).gate = s.gate := rfl
@[simp] theorem emptyHolder_carriage : (emptyHolder s).carriage = s.carriage := rfl
@[simp] theorem emptyHolder_feeder : (emptyHolder s).feeder = s.feeder := rfl
@[simp] theorem emptyHolder_lamp : (emptyHolder s).lamp = s.lamp := rfl
@[simp] theorem emptyHolder_supply : (emptyHolder s).supply = s.supply := rfl
@[simp] theorem emptyHolder_converter : (emptyHolder s).converter = s.converter := rfl
@[simp] theorem emptyHolder_labels : (emptyHolder s).labels = s.labels := rfl
@[simp] theorem emptyHolder_control : (emptyHolder s).control = s.control := rfl
@[simp] theorem emptyHolder_lidOpen : (emptyHolder s).lidOpen = s.lidOpen := rfl
@[simp] theorem emptyHolder_originalPresent : (emptyHolder s).originalPresent = s.originalPresent := rfl
@[simp] theorem emptyHolder_hostData : (emptyHolder s).hostData = s.hostData := rfl
@[simp] theorem emptyHolder_clock : (emptyHolder s).clock = s.clock := rfl
@[simp] theorem emptyHolder_pending : (emptyHolder s).pending = s.pending := rfl
@[simp] theorem emptyHolder_backA : (emptyHolder s).backA = s.backA := rfl
@[simp] theorem emptyHolder_backB : (emptyHolder s).backB = s.backB := rfl
@[simp] theorem emptyHolder_mem : (emptyHolder s).mem = s.mem := rfl

/-! ### `endScan` -/

@[simp] theorem endScan_watch : (endScan s).watch = s.watch := rfl
@[simp] theorem endScan_orders : (endScan s).orders = s.orders := rfl
@[simp] theorem endScan_gate : (endScan s).gate = s.gate := rfl
@[simp] theorem endScan_carriage : (endScan s).carriage = s.carriage := rfl
@[simp] theorem endScan_feeder : (endScan s).feeder = s.feeder := rfl
@[simp] theorem endScan_lamp : (endScan s).lamp = s.lamp := rfl
@[simp] theorem endScan_supply : (endScan s).supply = s.supply := rfl
@[simp] theorem endScan_converter : (endScan s).converter = s.converter := rfl
@[simp] theorem endScan_labels : (endScan s).labels = s.labels := rfl
@[simp] theorem endScan_control : (endScan s).control = s.control := rfl
@[simp] theorem endScan_lidOpen : (endScan s).lidOpen = s.lidOpen := rfl
@[simp] theorem endScan_originalPresent : (endScan s).originalPresent = s.originalPresent := rfl
@[simp] theorem endScan_hostData : (endScan s).hostData = s.hostData := rfl
@[simp] theorem endScan_clock : (endScan s).clock = s.clock := rfl
@[simp] theorem endScan_pending : (endScan s).pending = s.pending := rfl
@[simp] theorem endScan_backA : (endScan s).backA = s.backA := rfl
@[simp] theorem endScan_backB : (endScan s).backB = s.backB := rfl
@[simp] theorem endScan_mem : (endScan s).mem = s.mem := rfl

/-! ### `endPulse` -/

@[simp] theorem endPulse_watch : (endPulse s).watch = s.watch := rfl
@[simp] theorem endPulse_orders : (endPulse s).orders = s.orders := rfl
@[simp] theorem endPulse_gate : (endPulse s).gate = s.gate := rfl
@[simp] theorem endPulse_carriage : (endPulse s).carriage = s.carriage := rfl
@[simp] theorem endPulse_feeder : (endPulse s).feeder = s.feeder := rfl
@[simp] theorem endPulse_exposure : (endPulse s).exposure = s.exposure := rfl
@[simp] theorem endPulse_supply : (endPulse s).supply = s.supply := rfl
@[simp] theorem endPulse_converter : (endPulse s).converter = s.converter := rfl
@[simp] theorem endPulse_labels : (endPulse s).labels = s.labels := rfl
@[simp] theorem endPulse_control : (endPulse s).control = s.control := rfl
@[simp] theorem endPulse_lidOpen : (endPulse s).lidOpen = s.lidOpen := rfl
@[simp] theorem endPulse_originalPresent : (endPulse s).originalPresent = s.originalPresent := rfl
@[simp] theorem endPulse_hostData : (endPulse s).hostData = s.hostData := rfl
@[simp] theorem endPulse_clock : (endPulse s).clock = s.clock := rfl
@[simp] theorem endPulse_pending : (endPulse s).pending = s.pending := rfl
@[simp] theorem endPulse_backA : (endPulse s).backA = s.backA := rfl
@[simp] theorem endPulse_backB : (endPulse s).backB = s.backB := rfl
@[simp] theorem endPulse_mem : (endPulse s).mem = s.mem := rfl

/-! ### `enterHeld` -/

@[simp] theorem enterHeld_watch (c : HoldCause) : (enterHeld c s).watch = s.watch := rfl
@[simp] theorem enterHeld_orders (c : HoldCause) : (enterHeld c s).orders = s.orders := rfl
@[simp] theorem enterHeld_gate (c : HoldCause) : (enterHeld c s).gate = s.gate := rfl
@[simp] theorem enterHeld_carriage (c : HoldCause) : (enterHeld c s).carriage = s.carriage := rfl
@[simp] theorem enterHeld_feeder (c : HoldCause) : (enterHeld c s).feeder = s.feeder := rfl
@[simp] theorem enterHeld_exposure (c : HoldCause) : (enterHeld c s).exposure = s.exposure := rfl
@[simp] theorem enterHeld_lamp (c : HoldCause) : (enterHeld c s).lamp = s.lamp := rfl
@[simp] theorem enterHeld_supply (c : HoldCause) : (enterHeld c s).supply = s.supply := rfl
@[simp] theorem enterHeld_converter (c : HoldCause) : (enterHeld c s).converter = s.converter := rfl
@[simp] theorem enterHeld_labels (c : HoldCause) : (enterHeld c s).labels = s.labels := rfl
@[simp] theorem enterHeld_lidOpen (c : HoldCause) : (enterHeld c s).lidOpen = s.lidOpen := rfl
@[simp] theorem enterHeld_originalPresent (c : HoldCause) : (enterHeld c s).originalPresent = s.originalPresent := rfl
@[simp] theorem enterHeld_hostData (c : HoldCause) : (enterHeld c s).hostData = s.hostData := rfl
@[simp] theorem enterHeld_clock (c : HoldCause) : (enterHeld c s).clock = s.clock := rfl
@[simp] theorem enterHeld_pending (c : HoldCause) : (enterHeld c s).pending = s.pending := rfl
@[simp] theorem enterHeld_backA (c : HoldCause) : (enterHeld c s).backA = s.backA := rfl
@[simp] theorem enterHeld_backB (c : HoldCause) : (enterHeld c s).backB = s.backB := rfl

/-! ### `clearGate` -/

@[simp] theorem clearGate_watch : (clearGate s).watch = s.watch := rfl
@[simp] theorem clearGate_carriage : (clearGate s).carriage = s.carriage := rfl
@[simp] theorem clearGate_feeder : (clearGate s).feeder = s.feeder := rfl
@[simp] theorem clearGate_lamp : (clearGate s).lamp = s.lamp := rfl
@[simp] theorem clearGate_supply : (clearGate s).supply = s.supply := rfl
@[simp] theorem clearGate_converter : (clearGate s).converter = s.converter := rfl
@[simp] theorem clearGate_labels : (clearGate s).labels = s.labels := rfl
@[simp] theorem clearGate_control : (clearGate s).control = s.control := rfl
@[simp] theorem clearGate_lidOpen : (clearGate s).lidOpen = s.lidOpen := rfl
@[simp] theorem clearGate_originalPresent : (clearGate s).originalPresent = s.originalPresent := rfl
@[simp] theorem clearGate_hostData : (clearGate s).hostData = s.hostData := rfl
@[simp] theorem clearGate_clock : (clearGate s).clock = s.clock := rfl
@[simp] theorem clearGate_pending : (clearGate s).pending = s.pending := rfl
@[simp] theorem clearGate_backA : (clearGate s).backA = s.backA := rfl
@[simp] theorem clearGate_backB : (clearGate s).backB = s.backB := rfl
@[simp] theorem clearGate_mem : (clearGate s).mem = s.mem := rfl

/-! ### The fields that are written -/

@[simp] theorem raise_stand (f : Flag) : (raise f s).control.stand = s.control.stand := rfl
@[simp] theorem raise_cause (f : Flag) : (raise f s).control.cause = s.control.cause := rfl
@[simp] theorem raise_enables (f : Flag) : (raise f s).control.enables = s.control.enables := rfl
@[simp] theorem raise_startUp (f : Flag) : (raise f s).control.startUp = s.control.startUp := rfl
@[simp] theorem raise_resetting (f : Flag) : (raise f s).control.resetting = s.control.resetting := rfl
@[simp] theorem raise_resetCause (f : Flag) : (raise f s).control.resetCause = s.control.resetCause := rfl
@[simp] theorem back_setBack_same (bk : Back) (u : BackUnit) : (setBack bk u s).back bk = u := by cases bk <;> rfl
@[simp] theorem back_setBack_other (bk : Back) (u : BackUnit) : (setBack bk u s).back (otherBack bk) = s.back (otherBack bk) := by cases bk <;> rfl
@[simp] theorem back_setByte (a n : Nat) (bk : Back) : (setByte a n s).back bk = s.back bk := by cases bk <;> rfl
@[simp] theorem back_setWord (a n : Nat) (bk : Back) : (setWord a n s).back bk = s.back bk := by cases bk <;> rfl
@[simp] theorem back_setLong (a n : Nat) (bk : Back) : (setLong a n s).back bk = s.back bk := by cases bk <;> rfl
@[simp] theorem back_raise (f : Flag) (bk : Back) : (raise f s).back bk = s.back bk := by cases bk <;> rfl
@[simp] theorem back_report (a n : Nat) (bk : Back) : (report a n s).back bk = s.back bk := by cases bk <;> rfl
@[simp] theorem back_setPhase (p : GatePhase) (bk : Back) : (setPhase p s).back bk = s.back bk := by cases bk <;> rfl
@[simp] theorem back_setShot (r : ShotRecord) (bk : Back) : (setShot r s).back bk = s.back bk := by cases bk <;> rfl
@[simp] theorem back_emptyHolder (bk : Back) : (emptyHolder s).back bk = s.back bk := by cases bk <;> rfl
@[simp] theorem back_endPulse (bk : Back) : (endPulse s).back bk = s.back bk := by cases bk <;> rfl
@[simp] theorem setStand_stand (st : StandState) (c : HoldCause) : (setStand st c s).control.stand = st := rfl
@[simp] theorem setStand_cause (st : StandState) (c : HoldCause) : (setStand st c s).control.cause = c := rfl
@[simp] theorem setStand_notice (st : StandState) (c : HoldCause) : (setStand st c s).control.notice = s.control.notice := rfl
@[simp] theorem setResetCause_resetCause (c : ResetCause) : (setResetCause c s).control.resetCause = c := rfl
@[simp] theorem enterCarriage_state (c : CarriageState) : (enterCarriage c s).carriage.state = c := rfl
@[simp] theorem setPosition_position (p : Nat) : (setPosition p s).feeder.position = p := rfl
@[simp] theorem setFaultCount_faultCount (n : Nat) : (setFaultCount n s).lamp.faultCount = n := rfl
@[simp] theorem setQueue_queue (q : List LabelEntry) : (setQueue q s).labels.queue = q := rfl
@[simp] theorem setErrors_errors (n : Nat) : (setErrors n s).labels.errors = n := rfl
@[simp] theorem enterBack_state (bk : Back) (st : BackState) : ((enterBack bk st s).back bk).state = st := by cases bk <;> rfl
@[simp] theorem enterBack_other (bk : Back) (st : BackState) : (enterBack bk st s).back (otherBack bk) = s.back (otherBack bk) := by cases bk <;> rfl
@[simp] theorem setPhase_phase (p : GatePhase) : (setPhase p s).gate.phase = p := rfl
@[simp] theorem setShot_shot (r : ShotRecord) : (setShot r s).gate.shot = some r := rfl
@[simp] theorem endPulse_output : (endPulse s).lamp.output = .off := rfl
@[simp] theorem endPulse_mode : (endPulse s).lamp.mode = .idle := rfl
@[simp] theorem setRunList_runList (l : List OrderEntry) : (setRunList l s).orders.runList = l := rfl
@[simp] theorem setIntake_intake (l : List Slot) : (setIntake l s).orders.intake = l := rfl
@[simp] theorem setRunList_recorded (l : List OrderEntry) : (setRunList l s).orders.recorded = s.orders.recorded := rfl
@[simp] theorem setIntake_recorded (l : List Slot) : (setIntake l s).orders.recorded = s.orders.recorded := rfl
@[simp] theorem recordedHand_recordHand (n : Slot) (h : SlotHand) : recordedHand (recordHand n h s) n = h := by
  simp [recordedHand, recordHand]

/-- Recording a hand leaves the hands of the other slots. -/
theorem recordedHand_recordHand_other (n m : Slot) (h : SlotHand) (hm : m ≠ n) :
    recordedHand (recordHand n h s) m = recordedHand s m := by
  have : n.val ≠ m.val := fun e => hm (Fin.ext e.symm)
  simp [recordedHand, recordHand, Vector.getElem_set_ne, this]

/-- A flag that is raised is set, and its seen mark is clear (R190). -/
theorem flag_raised (f : Flag) : flagSet (raise f s) f = true ∧ flagSeen (raise f s) f = false := by
  cases f <;> simp [flagSet, flagSeen, raise, Flag.mask, Flag.bit]

end Sys2Proof.Laws
end

