-- ==== Sys2Proof/Certificates/Slice0/Obligations.lean ====
section
/-! DEFINITION. The statements for the provers. Each says what the manual's rules give a command, an operation or the whole
machine; `Answers` is the form of a completion: the command answers a next state, and the state is as said. -/

namespace Sys2Proof.Claims

open Sys2Proof Sys2Proof.Machine

/-! ### The words the statements are made of -/

/-- The command answers a next state with the property. -/
abbrev Answers (c : Instr) (s : State) (P : State → Prop) : Prop := ∃ t, exec c s = .next t ∧ P t

/-- Every byte outside a set of addresses reads as before. -/
abbrev KeepsBytes (s t : State) (written : Nat → Prop) : Prop :=
  ∀ a, ¬ written a → Memory.read t.mem a = Memory.read s.mem a

/-- The address lies in `n` bytes from `lo`. -/
abbrev within (lo n a : Nat) : Prop := lo ≤ a ∧ a < lo + n

/-- The flag is set with its seen mark clear, and every other flag and seen mark is as before (R190). -/
abbrev RaisesOnly (f : Flag) (s t : State) : Prop :=
  flagSet t f = true ∧ flagSeen t f = false
    ∧ ∀ g, g ≠ f → flagSet t g = flagSet s g ∧ flagSeen t g = flagSeen s g

/-- NOTICE, the seen marks and the enables are as before. -/
abbrev KeepsNotice (s t : State) : Prop :=
  t.control.notice = s.control.notice ∧ t.control.seen = s.control.seen ∧ t.control.enables = s.control.enables

/-- Only the named parts of the stand control may differ: stand state, cause, NOTICE with its seen marks. -/
abbrev KeepsStartUp (s t : State) : Prop :=
  t.control.startUp = s.control.startUp ∧ t.control.resetting = s.control.resetting
    ∧ t.control.resetCause = s.control.resetCause ∧ t.control.enables = s.control.enables

/-- A byte of the stand report. -/
abbrev reportByte (s : State) (offset : Nat) : Nat := byteAt s (Config.report + offset)

/-- The code of a back in the records: A 1, B 2. -/
abbrev backCode : Back → Nat
  | .a => 1
  | .b => 2

/-- The account's spent rises by an amount, held at 16,777,215; the saturated mark is 1 when it would pass that, and as before when it stays
below (R176). -/
abbrev SpentRises (s t : State) (i x : Nat) : Prop :=
  spent t i = min 16777215 (spent s i + x) ∧ (16777215 < spent s i + x → saturatedMark t i = 1)
    ∧ (spent s i + x < 16777215 → saturatedMark t i = saturatedMark s i)

/-- The order of slot n has completed in a step that charged an amount x before (R42 steps 1 and 2, R180): a RUSH order with a frame EXPOSED
is charged the surcharge too, its whole remaining commitment is gone, and its account's committed has fallen by it. -/
abbrev CompletionAmounts (s t : State) (n : Slot) (rush : Bool) (x : Nat) : Prop :=
  remaining t n = 0 ∧ committed t (accountIndex s n) = committed s (accountIndex s n) - remaining s n
    ∧ ∀ y, y = (if rush = true ∧ 1 ≤ framesExposed s n then rushSurcharge s else 0) → charged s n + (x + y) ≤ 16777215 →
        charged t n = charged s n + (x + y) ∧ SpentRises s t (accountIndex s n) (x + y)

/-- The other back's unit is as before. -/
abbrev KeepsOther (bk : Back) (s t : State) : Prop := t.back (otherBack bk) = s.back (otherBack bk)

end Sys2Proof.Claims

open Sys2Proof Sys2Proof.Machine Sys2Proof.Safety Sys2Proof.Claims

/-! ### The machine and the queue -/

/-- A step takes the command at the front of the queue and answers what `exec` answers with the queue's rest. The queue of commands is
the model's (log 1). -/
def Obligations.StepRunsTheFrontCommand : Prop :=
  ∀ (s : State) (c : Instr) (rest : List Instr), s.pending = c :: rest → step s = exec c { s with pending := rest }

/-! ### The host port (R1, R4, R6, R14 to R16) -/

/-- A host write that no rule drops stores its word, marks a watched word, and changes nothing else (R1, R6); one that the guard drops
keeps the word, records the even address, and sets GUARD_HIT (R14); before the zeroing has ended a host write changes nothing (R18). A write
to IDENT, of a STAND value that is not recognised, or to STAND while a stand reset is taken or start-up is in progress changes nothing (R1,
R194). With the register select, address bits 1 and 2 choose the register whatever the other bits are, a read returns that register and a
write acts on it (R1). -/
def Obligations.HostWriteStoresOrIsDropped : Prop :=
  ((∀ (addr : Addr) (v : Word) (s : State), MemoryOk s → isLive s = true → guarded s (evenAddr addr) = false →
      Answers (.hostMemoryWrite addr v) s fun t =>
        wordAt t (evenAddr addr) = v.toNat ∧ KeepsBytes s t (within (evenAddr addr) 2)
          ∧ t = { s with mem := t.mem, watch := t.watch } ∧ t.watch.settleHeld = s.watch.settleHeld
          ∧ s.watch.slotOrder <+: t.watch.slotOrder
          ∧ (s.watch.slotOrder.Nodup → t.watch.slotOrder.Nodup)
          ∧ (∀ n : Slot, n ∈ t.watch.slotOrder ↔ n ∈ s.watch.slotOrder ∨ evenAddr addr = slotBase n)
          ∧ (∀ sh : Sheet, sh ∈ t.watch.sheetMarks ↔ sh ∈ s.watch.sheetMarks ∨ evenAddr addr = sheetBase sh)
          ∧ (∀ i : Account, i ∈ t.watch.settleMarks ↔ i ∈ s.watch.settleMarks ∨ evenAddr addr = accountBase i.val + 0x0C))
   ∧ ((∀ (addr : Addr) (v : Word) (s : State), MemoryOk s → isLive s = true → guarded s (evenAddr addr) = true →
      Answers (.hostMemoryWrite addr v) s fun t =>
        wordAt t 0x5D12 = evenAddr addr ∧ KeepsBytes s t (within 0x5D12 2) ∧ RaisesOnly .guardHit s t
          ∧ t = { s with mem := t.mem, control := t.control } ∧ KeepsStartUp s t
          ∧ t.control.stand = s.control.stand ∧ t.control.cause = s.control.cause)
    ∧ ∀ (addr : Addr) (v : Word) (s : State), isLive s = false → exec (.hostMemoryWrite addr v) s = .next s))
  ∧ (∀ (reg : Register) (v : Word) (s : State),
     reg = .ident ∨ reg = .stand ∧ (v ≠ 0x0001 ∧ v ≠ 0x0002 ∧ v ≠ 0xC303 ∨ atWork s = false) →
     exec (.ignoredRegisterWrite reg v) s = .next s)
  ∧ (∀ (a : Addr) (v : Word) (s : State),
     (a.toNat / 2 % 4 = 0 → registerAt a = .ident) ∧ (a.toNat / 2 % 4 = 1 → registerAt a = .notice)
       ∧ (a.toNat / 2 % 4 = 2 → registerAt a = .noticeEn) ∧ (a.toNat / 2 % 4 = 3 → registerAt a = .stand)
       ∧ hostReadRegisterAt s a = hostReadRegister s (registerAt a)
       ∧ exec (registerWrite (registerAt a) v) s = .next (hostWriteRegisterAt a v s))

/-- The guard follows the map of common memory, the recorded hands and the run list (R4, R14, R15, R16). -/
def Obligations.GuardFollowsTheMap : Prop :=
  ∀ s : State,
    (∀ (n : Slot) (off : Nat), off < 0x400 → off % 2 = 0 →
      (guarded s (slotBase n + off) = true
        ↔ 0x200 ≤ off ∨ 2 ≤ off ∧ (recordedHand s n = .taken ∨ recordedHand s n = .withdraw)))
    ∧ (∀ (sh : Sheet) (off : Nat), off < 0x400 → off % 2 = 0 →
      (guarded s (sheetBase sh + off) = true
        ↔ 6 ≤ off ∨ 2 ≤ off ∧ (sheetHand s sh = .live ∨ sheetHand s sh = .retired)))
    ∧ (∀ (i : Account) (off : Nat), off < 0x20 → off % 2 = 0 →
      (guarded s (accountBase i.val + off) = true ↔ off = 6 ∨ 0x10 ≤ off))
    ∧ ∀ a : Nat, 0x5800 ≤ a → a < 0x8000 → a % 2 = 0 →
      (guarded s a = true
        ↔ s.orders.runList ≠ [] ∧ (a < 0x5940 ∨ 0x5A00 ≤ a ∧ a < 0x5C40)
          ∨ 0x5C40 ≤ a ∧ a < 0x5C60 ∨ 0x5D00 ≤ a ∧ a < 0x5E00)

/-! ### NOTICE, NOTICE_EN and STAND (R190 to R194) -/

/-- The clear protocol of R190: a read returns the flags and each seen mark takes its flag's value; a setting clears the seen mark
whether or not the flag was set; a write clears exactly the flags written 0 whose seen mark is set, with their seen marks, and
ignores bits 11 to 15. -/
def Obligations.NoticeProtocol : Prop :=
  (∀ s : State, isLive s = true →
    Answers .noticeRead s fun t =>
      (∀ f, t.hostData.getLsbD f.bit = flagSet s f) ∧ (∀ j, 11 ≤ j → t.hostData.getLsbD j = false)
        ∧ (∀ f, flagSet t f = flagSet s f ∧ flagSeen t f = flagSet s f)
        ∧ t = { s with hostData := t.hostData, control := { s.control with seen := t.control.seen } })
  ∧ (∀ (s : State) (f : Flag), RaisesOnly f s (raise f s))
  ∧ (∀ (v : Word) (s : State), isLive s = true →
    Answers (.noticeWrite v) s fun t =>
      (∀ f, flagSet t f = (flagSet s f && (v.getLsbD f.bit || !flagSeen s f))
        ∧ flagSeen t f = (flagSeen s f && v.getLsbD f.bit))
        ∧ t = { s with control := { s.control with notice := t.control.notice, seen := t.control.seen } })

namespace Sys2Proof.Claims

/-- NOTICE and NOTICE_EN are 0 and INT is not asserted, and no host write of either register changes that (R192). -/
abbrev NoticeHeldAtZero (s : State) : Prop :=
  s.control.notice = 0 ∧ s.control.enables = 0 ∧ intAsserted s = false
    ∧ ∀ v, exec (.noticeEnWrite v) s = .next s ∧ exec (.noticeWrite v) s = .next s

end Sys2Proof.Claims

/-- NOTICE_EN stores bits 0 to 10 and reads them back, touches neither flags nor seen marks, and INT is asserted exactly when some
flag and its enable are both set; both registers are 0 while a reset holds the part and during the zeroing, and a stand reset keeps
them (R192). -/
def Obligations.EnablesDriveInt : Prop :=
  (∀ (v : Word) (s : State), isLive s = true →
    Answers (.noticeEnWrite v) s fun t =>
      (∀ j, j < 16 → (hostReadRegister t .noticeEn).getLsbD j = (decide (j < 11) && v.getLsbD j))
        ∧ (intAsserted t = true ↔ ∃ f, flagSet s f = true ∧ v.getLsbD f.bit = true)
        ∧ t = { s with control := { s.control with enables := t.control.enables } })
  ∧ (∀ (s : State), intAsserted s = true ↔ ∃ f : Flag, flagSet s f = true ∧ s.control.enables.getLsbD f.bit = true)
  ∧ (∀ (s : State) (f : Flag), intAsserted s = true → intAsserted (raise f s) = true)
  ∧ (∀ (s : State) (c : Instr), c = .powerOnReset ∨ c = .lineReset →
      ∃ t u, exec c s = .next t ∧ exec .resetRelease t = .next u ∧ NoticeHeldAtZero t ∧ NoticeHeldAtZero u)
  ∧ ∀ (s : State), Answers .standReset s fun t =>
      t.control.enables = s.control.enables ∧ (∀ f, flagSet s f = true → flagSet t f = true)
        ∧ (intAsserted s = true → intAsserted t = true)

namespace Sys2Proof.Claims

/-- The distance between two tray positions. -/
abbrev distance (p q : Nat) : Nat := max p q - min p q

/-- No work at the gate, and the carriage not at FAULT. -/
abbrev QuietGate (s : State) : Prop := s.gate.shot = none ∧ s.gate.rested = false ∧ s.carriage.state ≠ .fault

/-- A change of the stand state and cause that reaches STAND and the stand report, and nothing else of the part. -/
abbrev StandBecomes (st : StandState) (c : HoldCause) (s t : State) : Prop :=
  t.control.stand = st ∧ t.control.cause = c ∧ reportByte t 0x00 = st.code ∧ reportByte t 0x01 = c.code
    ∧ KeepsBytes s t (within 0x5D00 2) ∧ t = { s with mem := t.mem, control := t.control } ∧ KeepsStartUp s t

/-- A RUN is accepted in HELD with the lid closed and no drive or lamp on, and the sequencer rests with work r. -/
abbrev RestsHeld (s : State) (r : ShotRecord) : Prop :=
  atWork s = true ∧ s.control.stand = .held ∧ s.lidOpen = false ∧ s.lamp.mode = .idle ∧ s.feeder.drive = .stopped
    ∧ s.gate.shot = some r ∧ s.gate.rested = true ∧ recordedHand s r.slot ≠ .withdraw ∧ r.shot < 24

/-- The stand runs again with no hold cause. -/
abbrev RunsAgain (s t : State) : Prop :=
  t.control.stand = .running ∧ t.control.cause = .none ∧ reportByte t 0x00 = 1 ∧ reportByte t 0x01 = 0
    ∧ KeepsNotice s t ∧ KeepsStartUp s t

/-- The stand runs again and the sequencer no longer rests, and nothing else of the part changes. -/
abbrev OnlyResumes (s t : State) (p : GatePhase) : Prop :=
  RunsAgain s t ∧ t.gate = { s.gate with phase := p, rested := false } ∧ KeepsBytes s t (within 0x5D00 2)
    ∧ t = { s with mem := t.mem, control := t.control, gate := t.gate }

/-- The carriage is commanded to a line, under the 3 s shift timer of the sequencer (R55). -/
abbrev ShiftBegins (s t : State) (line : Back) : Prop :=
  t.carriage = { s.carriage with state := .shifting, target := line, endA := false, endB := false }
    ∧ t.gate.phase = .shiftMoving ∧ t.gate.shiftTimer = some 60000 ∧ reportByte t 0x03 = 3

/-- The shot is returned (R56): its order is WAITING_RUN again, and the gate is idle. -/
abbrev Returned (s t : State) (r : ShotRecord) : Prop :=
  t.gate.phase = .idle ∧ t.gate.shot = none ∧ t.gate.rested = false ∧ t.orders.choice = none ∧ t.exposure.holder = none
    ∧ byteAt t (outcome r.slot + 1) = 1
    ∧ t.orders.runList
        = s.orders.runList.map fun e => if e.slot = r.slot then { e with sub := .waitingRun } else e

/-- The chosen back can still take the shot (R56). That the LIVE sheet is the same when it is the same one of the back's two is the
model's choice (log 36). -/
abbrev CanTake (s : State) (r : ShotRecord) : Prop :=
  ((s.back r.back).state = .ready ∨ (s.back r.back).state = .stale) ∧ (s.back r.back).live = some r.which
    ∧ r.planned ≤ capacity s ⟨r.back, r.which⟩ - framesUsed s ⟨r.back, r.which⟩

end Sys2Proof.Claims

/-- RUN by stand state with no work at the gate (R68): RUNNING from STOPPED, HOLD_PENDING and HELD; HELD with LID and STAND_HELD
when the lid is open in STOPPED or HELD; ignored in RUNNING and while the part is not at work. A RUN that leaves the stand RUNNING homes
a carriage at FAULT: LINE_A at once when its end switch is closed, and otherwise HOMING with the 3 s timer (R70, R91, R92). Under a RUN in
HELD the sequencer goes on from the place it rests at (R70): the metering wait and the original-present test go on from there; after a feed
timeout FEEDING starts again with a new timer (R52); after METERING and at the carriage wait the carriage is read again, to be shifted or,
in homing, waited for (R55); after SHIFTING a back that cannot take the shot returns it (R56); before a frame's passage the settle wait
begins anew, or the back is waited for or wound on (R58). That both end switches read open once a shift starts is the model's choice (log 7),
and so are what is the same LIVE sheet (log 36) and the settle wait measured on the model's clock (log 35). -/
def Obligations.RunActsByStandState : Prop :=
  (∀ s : State, MemoryOk s →
     (atWork s = true → QuietGate s → s.control.stand ≠ .running → s.lidOpen = false ∨ s.control.stand = .holdPending →
       Answers .run s fun t => StandBecomes .running .none s t ∧ KeepsNotice s t)
     ∧ (atWork s = true → s.lidOpen = true → s.control.stand = .stopped ∨ s.control.stand = .held →
       Answers .run s fun t => StandBecomes .held .lid s t ∧ RaisesOnly .standHeld s t)
     ∧ (atWork s = false ∨ s.control.stand = .running → exec .run s = .next s))
  ∧ (∀ s : State, MemoryOk s → atWork s = true → s.control.stand = .stopped ∨ s.control.stand = .held → s.lidOpen = false →
     s.gate.rested = false → s.lamp.mode = .idle → s.carriage.state = .fault →
     Answers .run s fun t =>
       t.control.stand = .running ∧ t.control.cause = .none
         ∧ t.carriage.state = (if s.carriage.endA then .lineA else .homing)
         ∧ t.carriage.homingTimer = (if s.carriage.endA then none else some 60000)
         ∧ reportByte t 0x00 = 1 ∧ reportByte t 0x01 = 0 ∧ reportByte t 0x03 = t.carriage.state.code
         ∧ KeepsBytes s t (fun a => within 0x5D00 2 a ∨ a = 0x5D03)
         ∧ t = { s with mem := t.mem, control := t.control, carriage := t.carriage }
         ∧ KeepsNotice s t ∧ KeepsStartUp s t)
  ∧ (∀ (s : State) (r : ShotRecord), MemoryOk s → RestsHeld s r → s.carriage.state ≠ .fault →
     (∀ p, s.gate.phase = p → p = .meterWait ∨ p = .feedArrived → Answers .run s fun t => OnlyResumes s t p)
     ∧ (s.gate.phase = .feedTimedOut → s.feeder.position = trayPosition s r.slot r.shot →
       Answers .run s fun t =>
         RunsAgain s t ∧ t.gate = { s.gate with phase := .feedArrived, moveTimer := none, rested := false }
           ∧ KeepsBytes s t (within 0x5D00 2) ∧ t = { s with mem := t.mem, control := t.control, gate := t.gate })
     ∧ (s.gate.phase = .feedTimedOut → s.feeder.position ≠ trayPosition s r.slot r.shot → s.feeder.position ≠ 0 →
       Answers .run s fun t =>
         RunsAgain s t ∧ t.gate.phase = .feedMoving ∧ t.gate.rested = false ∧ t.gate.shot = some r
           ∧ t.gate.moveTimer
               = some (20 * (200 + 50 * distance s.feeder.position (trayPosition s r.slot r.shot)))
           ∧ t.feeder = { s.feeder with
               drive := .moving, target := some (trayPosition s r.slot r.shot), homingTimer := none }
           ∧ KeepsBytes s t (within 0x5D00 2)
           ∧ t = { s with mem := t.mem, control := t.control, gate := t.gate, feeder := t.feeder })
     ∧ (s.gate.phase = .meterEnd ∨ s.gate.phase = .shiftWait →
       (s.carriage.state = lineOf (otherBack r.back) →
         Answers .run s fun t =>
           RunsAgain s t ∧ ShiftBegins s t r.back ∧ t.gate.rested = false ∧ t.gate.shot = some r
             ∧ KeepsBytes s t (fun a => within 0x5D00 2 a ∨ a = 0x5D03)
             ∧ t = { s with mem := t.mem, control := t.control, gate := t.gate, carriage := t.carriage })
       ∧ (s.carriage.state = .homing → Answers .run s fun t => OnlyResumes s t .shiftWait))
     ∧ (s.gate.phase = .shiftEnd → ¬ CanTake s r →
       Answers .run s fun t =>
         RunsAgain s t ∧ Returned s t r ∧ KeepsBytes s t (fun a => within 0x5D00 2 a ∨ a = outcome r.slot + 1)
           ∧ t = { s with mem := t.mem, control := t.control, gate := t.gate, orders := t.orders, exposure := t.exposure })
     ∧ (∀ f : SetFrame, s.gate.phase = .frameWait → nextFrame r = some f →
       ((s.back r.back).state = .ready → (s.back r.back).gateFrame = f.frame →
         Answers .run s fun t =>
           RunsAgain s t ∧ t.gate = { s.gate with
               rested := false, settleTimer := some ((s.back r.back).readyAt + 20 * settleDelay s - s.clock) }
             ∧ KeepsBytes s t (within 0x5D00 2) ∧ t = { s with mem := t.mem, control := t.control, gate := t.gate })
       ∧ ((s.back r.back).state = .winding → Answers .run s fun t => OnlyResumes s t .frameWait)
       ∧ ((s.back r.back).state = .stale ∨ (s.back r.back).state = .ready ∧ (s.back r.back).gateFrame < f.frame →
           ∀ w, (s.back r.back).live = some w → (s.back r.back).gateFrame ≠ capacity s ⟨r.back, w⟩ →
         Answers .run s fun t =>
           RunsAgain s t ∧ (t.back r.back).state = .winding ∧ (t.back r.back).gateFrame = (s.back r.back).gateFrame
             ∧ (t.back r.back).motor.perforations = 0 ∧ t.gate = { s.gate with rested := false } ∧ KeepsOther r.back s t
             ∧ KeepsBytes s t (fun a => within 0x5D00 2 a ∨ a = 0x5D00 + backOffset r.back)
             ∧ t = { s with mem := t.mem, control := t.control, gate := t.gate, backA := t.backA, backB := t.backB })))
  ∧ (∀ (s : State) (r : ShotRecord), MemoryOk s → RestsHeld s r → s.carriage.state = .fault → s.carriage.endA = false →
     s.gate.phase = .shiftWait →
     Answers .run s fun t =>
       RunsAgain s t ∧ t.carriage.state = .homing ∧ t.carriage.homingTimer = some 60000 ∧ reportByte t 0x03 = 0
         ∧ t.gate = { s.gate with rested := false } ∧ KeepsBytes s t (fun a => within 0x5D00 2 a ∨ a = 0x5D03)
         ∧ t = { s with mem := t.mem, control := t.control, gate := t.gate, carriage := t.carriage })

/-- HOLD (R68, R66): HOLD_PENDING away from a frame boundary; HELD with HOST and STAND_HELD at once at a boundary; ignored in every
state but RUNNING. -/
def Obligations.HoldTakesEffectAtABoundary : Prop :=
  ∀ s : State, MemoryOk s →
    (atWork s = true → s.control.stand = .running → s.gate.phase.boundary = false →
      Answers .hold s fun t => StandBecomes .holdPending .none s t ∧ KeepsNotice s t)
    ∧ (atWork s = true → s.control.stand = .running → s.gate.phase.boundary = true → s.gate.shot = none →
      Answers .hold s fun t => StandBecomes .held .host s t ∧ RaisesOnly .standHeld s t)
    ∧ (∀ r, atWork s = true → s.control.stand = .running → s.gate.phase.boundary = true → s.gate.shot = some r →
      recordedHand s r.slot ≠ .withdraw →
      Answers .hold s fun t =>
        t.control.stand = .held ∧ t.control.cause = .host ∧ RaisesOnly .standHeld s t ∧ t.gate.rested = true
          ∧ t.gate.shot = some r ∧ t.exposure.holder = none ∧ KeepsBytes s t (within 0x5D00 2)
          ∧ t = { s with mem := t.mem, control := t.control, gate := t.gate, exposure := t.exposure })
    ∧ (atWork s = false ∨ s.control.stand ≠ .running → exec .hold s = .next s)

/-! ### The stand reset (R19, R45, R46, R72, R95, R149, R168, R195, R196) -/

namespace Sys2Proof.Claims

/-- The back state a stand reset leaves (R95). -/
abbrev backAfterReset (u : BackUnit) : BackState :=
  if u.state = .loading ∨ u.state = .winding ∨ u.state = .rewinding then .jammed
  else if u.state = .shutterOpen ∨ u.state = .ready ∧ u.shutter.command = .open then .stale
  else u.state

/-- The back's shutter is open or commanded open, so a stand reset commands it closed (R95). -/
abbrev shutterInPassage (u : BackUnit) : Prop :=
  u.state = .shutterOpen ∨ u.state = .ready ∧ u.shutter.command = .open

/-- Every frame of the work's set lies on its sheet. -/
abbrev FramesOnSheet (r : ShotRecord) : Prop := ∀ g ∈ r.frames, 1 ≤ g.frame ∧ g.frame ≤ 40

end Sys2Proof.Claims

/-- The stand-reset key stops the stand and gives every block its reset state; NOTICE keeps every set flag, and the enables and the commands
that wait are kept. A closing back's shutter is commanded closed under its timer, and every other back has no command and no timer (R95);
the converter has no request waiting and goes on with the conversion it has begun (R114, R135); the frame in its passage is SPOILED with
RESET and every other RESERVED frame of the set is UNUSED (R72, R112); and every QUEUED and WAITING label is SKIPPED with both counts 0
(R168). That the queue of commands is kept is the model's (log 1), and that the line then holds the INQUIRE alone is too (log 17). -/
def Obligations.StandResetTakesEveryBlock : Prop :=
  ∀ s : State, MemoryOk s → atWork s = true →
    Answers .standReset s fun t =>
      t.control.stand = .stopped ∧ t.control.cause = .none ∧ t.control.resetCause = .none ∧ t.control.resetting = true
        ∧ t.control.enables = s.control.enables ∧ (∀ f, flagSet s f = true → flagSet t f = true) ∧ ident t = 0x9340
        ∧ t.watch.slotOrder = [] ∧ t.watch.sheetMarks = [] ∧ t.watch.settleMarks = []
        ∧ t.watch.settleHeld = s.watch.settleMarks
        ∧ t.orders.runList = [] ∧ t.orders.choice = none
        ∧ t.gate.phase = .idle ∧ t.gate.shot = none ∧ t.gate.rested = false
        ∧ t.lamp.mode = .idle ∧ t.lamp.output = .off ∧ t.lamp.active = none ∧ t.lamp.counter = 0
        ∧ t.lamp.lowCount = 0 ∧ t.lamp.faultCount = 0 ∧ t.supply = { sag := false, below := 0, above := 0 }
        ∧ t.exposure.scan = .idle ∧ t.exposure.holder = none
        ∧ (∀ bk, (t.back bk).state = backAfterReset (s.back bk) ∧ (t.back bk).gateFrame = (s.back bk).gateFrame
            ∧ (t.back bk).live = (s.back bk).live ∧ (t.back bk).motor.direction = .stopped
            ∧ (t.back bk).motor.start = .stopped ∧ (t.back bk).motor.perforations = 0
            ∧ (t.back bk).motor.stallTimer = none ∧ (t.back bk).motor.rewindTimer = none
            ∧ (t.back bk).levels = (s.back bk).levels ∧ (t.back bk).readyAt = (s.back bk).readyAt
            ∧ (t.back bk).handFirst = (s.back bk).handFirst ∧ (t.back bk).handSecond = (s.back bk).handSecond
            ∧ (shutterInPassage (s.back bk) →
                (t.back bk).shutter.command = .close ∧ (t.back bk).shutter.timer = some 1600)
            ∧ (¬ shutterInPassage (s.back bk) →
                (t.back bk).shutter.command = .none ∧ (t.back bk).shutter.timer = none)
            ∧ ((s.back bk).state = .rewinding → (t.back bk).origin = .none))
        ∧ (∀ r, s.gate.shot = some r → r.shot < 24 → FramesOnSheet r →
            (∀ f, s.gate.phase = .passage → nextFrame r = some f →
              frameCode t ⟨r.back, r.which⟩ f.frame = 3
                ∧ byteAt t (frameRecord ⟨r.back, r.which⟩ f.frame + 1) / 16 % 8 = 5
                ∧ ∀ g ∈ r.frames, g.frame ≠ f.frame → frameCode s ⟨r.back, r.which⟩ g.frame = 1 →
                    frameCode t ⟨r.back, r.which⟩ g.frame = 4)
            ∧ (s.gate.phase ≠ .passage → ∀ g ∈ r.frames, frameCode s ⟨r.back, r.which⟩ g.frame = 1 →
                frameCode t ⟨r.back, r.which⟩ g.frame = 4))
        ∧ (∀ sh k, 1 ≤ k → k ≤ 40 → labelCode s sh k = 1 → labelCode t sh k = 5)
        ∧ (∀ x ∈ s.labels.queue, labelCode t x.sheet x.frame = 5)
        ∧ reportByte t 0x0A = 0 ∧ waitingCount t = 0
        ∧ t.converter = { s.converter with supply := false, lamp := false }
        ∧ t.carriage.state
            = (if s.carriage.state = .shifting ∨ s.carriage.state = .homing then .fault else s.carriage.state)
        ∧ t.feeder.drive = .stopped ∧ t.feeder.position = s.feeder.position
        ∧ t.labels.queue = [] ∧ t.labels.printer = .unknown ∧ t.labels.resend = false ∧ t.labels.replyTimer = none
        ∧ t.labels.receiver = .idle ∧ t.labels.held = none ∧ t.labels.errors = 0
        ∧ t.labels.transmitter = [.inquire] ∧ t.labels.inquiryTimer = some 20000
        ∧ t.lidOpen = s.lidOpen ∧ t.clock = s.clock ∧ t.pending = s.pending

namespace Sys2Proof.Claims

/-- The accounts, frames and shots that the part works with are in range, as takes and reservations leave them. -/
abbrev RecordsInRange (s : State) : Prop :=
  (∀ e ∈ s.orders.runList, e.kind = .copy → accountIndex s e.slot ≤ 63)
    ∧ (∀ x ∈ s.labels.queue, 1 ≤ x.frame ∧ x.frame ≤ 40)
    ∧ ∀ r, s.gate.shot = some r → r.shot < 24 ∧ FramesOnSheet r

/-- What the end of an order INTERRUPTED writes: its hand, its order state and sub-state, the codes of its shots, its remaining
commitment, and its account's committed. -/
abbrev InterruptWrites (s : State) (e : OrderEntry) (a : Nat) : Prop :=
  within (slotBase e.slot) 2 a ∨ within (outcome e.slot) 2 a
    ∨ e.kind = .copy ∧ ((∃ i, i < 24 ∧ a = shotOutcome e.slot i) ∨ within (outcome e.slot + 0x18) 4 a
        ∨ within (accountBase (accountIndex s e.slot) + 0x14) 4 a)

/-- What a stand reset writes of common memory: the ends of the run list's orders, the spoiled counts of the shot in its passage, the
first two bytes of frame records, the spoiled and unused counts of sheets, and the stand report but for the live sheets, the feeder
position, the stand sequence counter and the guard address. -/
abbrev StandResetWrites (s : State) (a : Nat) : Prop :=
  (∃ e ∈ s.orders.runList, InterruptWrites s e a)
    ∨ (∃ r, s.gate.shot = some r ∧ (within (outcome r.slot + 8) 2 a ∨ a = shotOutcome r.slot r.shot + 6))
    ∨ (∃ (sh : Sheet) (k : Nat), 1 ≤ k ∧ k ≤ 40 ∧ within (frameRecord sh k) 2 a)
    ∨ (∃ sh : Sheet, within (sheetBase sh + 9) 2 a)
    ∨ within 0x5D00 6 a ∨ within 0x5D09 3 a ∨ within 0x5D10 2 a ∨ within 0x5D14 3 a

end Sys2Proof.Claims

/-- A stand reset ends every order of the run list INTERRUPTED with DONE in its hand, sets ORDER_DONE for them, leaves every other
slot's recorded hand, and rebuilds the intake queue from the recorded FILED slots in slot order (R45, R46). Of a COPY order every shot
PENDING, the one at the gate among them, is written INTERRUPTED, its remaining commitment is 0 and its charged stands, and every account's
committed falls by the remaining commitments of its orders (R45, R186); no account's spent changes. Nothing of common memory is written but
the ends of those orders, the spoiled counts of a shot in its passage, frame states, counts and the stand report (R19, R72). -/
def Obligations.StandResetInterruptsEveryOrder : Prop :=
  ∀ s : State, MemoryOk s → atWork s = true → (s.orders.runList.map OrderEntry.slot).Nodup →
    Answers .standReset s fun t =>
      (∀ e ∈ s.orders.runList,
        recordedHand t e.slot = .done ∧ handFound t e.slot = 3 ∧ byteAt t (outcome e.slot) = 4
          ∧ byteAt t (outcome e.slot + 1) = 0)
        ∧ (s.orders.runList ≠ [] → flagSet t .orderDone = true ∧ flagSeen t .orderDone = false)
        ∧ (∀ n : Slot, (∀ e ∈ s.orders.runList, e.slot ≠ n) → recordedHand t n = recordedHand s n)
        ∧ t.orders.intake = (List.finRange 16).filter (fun n => decide (recordedHand t n = .filed))
        ∧ (RecordsInRange s →
            (∀ e ∈ s.orders.runList, e.kind = .copy →
              (∀ i, i < 24 → shotCode t e.slot i
                  = if i < shotCount s e.slot ∧ shotCode s e.slot i = 0 then 6 else shotCode s e.slot i)
                ∧ remaining t e.slot = 0 ∧ charged t e.slot = charged s e.slot)
            ∧ (∀ i : Account, spent t i.val = spent s i.val
                ∧ committed t i.val = committed s i.val
                    - ((s.orders.runList.filter fun e =>
                          decide (e.kind = .copy) && decide (accountIndex s e.slot = i.val)).map
                        fun e => remaining s e.slot).sum)
            ∧ KeepsBytes s t (StandResetWrites s))

/-- When no back waits for its close switch any more, the stand reset ends: every slot is marked in slot order, every sheet, and
every account whose mark was set or whose settle words are not 0; the reset cause is STAND (R19, R195, R196). -/
def Obligations.StandResetEndRemarks : Prop :=
  ∀ s : State, MemoryOk s → s.control.resetting = true → s.backA.shutter.timer = none → s.backB.shutter.timer = none →
    Answers .standResetEnd s fun t =>
      t.watch.slotOrder.map Fin.val = List.range 16 ∧ (∀ sh : Sheet, sh ∈ t.watch.sheetMarks)
        ∧ (∀ i : Account, i ∈ t.watch.settleMarks ↔ i ∈ s.watch.settleHeld ∨ i ∈ s.watch.settleMarks
            ∨ wordAt s (0x500C + 0x20 * i.val) ≠ 0 ∨ wordAt s (0x500E + 0x20 * i.val) ≠ 0)
        ∧ t.control.resetting = false ∧ t.control.resetCause = .stand ∧ reportByte t 0x02 = 3
        ∧ KeepsBytes s t (fun a => a = 0x5D02) ∧ KeepsNotice s t
        ∧ t = { s with
            mem := t.mem, watch := t.watch
            control := { s.control with resetting := false, resetCause := .stand } }

/-! ### Power-on and line resets (R18, R96, R188, R197 to R199) -/

namespace Sys2Proof.Claims

/-- The part is held in a reset: nothing is driven, nothing is lit, INT is not asserted, and the host reads IDENT alone. -/
abbrev HeldInReset (c : ResetCause) (s t : State) : Prop :=
  t.control.startUp = .held c ∧ ident t = 0x1340 ∧ intAsserted t = false
    ∧ hostReadRegister t .notice = 0 ∧ hostReadRegister t .noticeEn = 0 ∧ hostReadRegister t .stand = 0
    ∧ (∀ a, hostReadWord t a = 0) ∧ t.lamp.output = .off ∧ t.feeder.drive = .stopped
    ∧ t.carriage.state ≠ .homing ∧ t.carriage.state ≠ .shifting
    ∧ (∀ bk, (t.back bk).motor.direction = .stopped ∧ (t.back bk).shutter.command = .none)
    ∧ t.labels.transmitter = [] ∧ t.orders.runList = [] ∧ t.orders.intake = [] ∧ t.orders.choice = none
    ∧ t.converter = { converting := none, supply := false, lamp := false, sinceSupply := 0 }
    ∧ (∀ n, recordedHand t n = .empty) ∧ (∀ sh, sheetHand t sh = .clear) ∧ t.gate.shot = none
    ∧ t.pending = s.pending

/-- The start-up of a part whose feeder still homes with no move behind it. -/
abbrev FeederHomesAtStartUp (s : State) : Prop :=
  s.control.startUp = .homing ∧ s.feeder.drive = .homing ∧ s.feeder.target = none ∧ s.gate.phase = .idle
    ∧ s.labels.transmitter = []

/-- Start-up has ended, or goes on while the carriage still homes. -/
abbrev StartUpAfterFeeder (s t : State) : Prop :=
  t.control.startUp = (if s.carriage.state = .homing then .homing else .ended)
    ∧ ident t = (if s.carriage.state = .homing then 0x1340 else 0x9340)
    ∧ t.labels.transmitter = (if s.carriage.state = .homing then [] else [.inquire])

end Sys2Proof.Claims

/-- A power-on reset and a line reset hold the part from any state (R197), the reset that is held releases into the zeroing (R198), and a
release at any other time changes nothing. The feeder's homing at start-up ends in position 1 at the home switch, and leaves the position at
its timeout (R94); either stops the drive and ends start-up unless the carriage still homes (R198). That a release at another time changes
nothing is the model's reading (log 4). -/
def Obligations.ResetsHoldThePart : Prop :=
  (∀ s : State, Answers .powerOnReset s fun t => HeldInReset .powerOn s t)
  ∧ (∀ s : State, Answers .lineReset s fun t => HeldInReset .line s t)
  ∧ (∀ (s : State) (c : ResetCause), s.control.startUp = .held c →
    Answers .resetRelease s fun t => t = { s with control := { s.control with startUp := .zeroing c } })
  ∧ (∀ s : State, (∀ c, s.control.startUp ≠ .held c) → exec .resetRelease s = .next s)
  ∧ (∀ s : State, MemoryOk s → FeederHomesAtStartUp s →
    Answers .feederHomeSwitch s fun t =>
      t.feeder.position = 1 ∧ reportByte t 0x08 = 1 ∧ t.feeder.drive = .stopped ∧ t.feeder.homingTimer = none
        ∧ StartUpAfterFeeder s t ∧ KeepsNotice s t ∧ KeepsBytes s t (fun a => a = 0x5D08 ∨ a = 0x5D09)
        ∧ t = { s with mem := t.mem, feeder := t.feeder, labels := t.labels, control := t.control })
  ∧ (∀ s : State, MemoryOk s → FeederHomesAtStartUp s → s.feeder.homingTimer ≠ none →
    Answers .feederHomingTimeout s fun t =>
      t.feeder.position = s.feeder.position ∧ t.feeder.drive = .stopped ∧ t.feeder.homingTimer = none
        ∧ StartUpAfterFeeder s t ∧ KeepsNotice s t ∧ KeepsBytes s t (fun a => a = 0x5D09)
        ∧ t = { s with mem := t.mem, feeder := t.feeder, labels := t.labels, control := t.control })

/-- The zeroing's end (R18, R96, R198): every byte outside the stand report is 0, the reset cause is written, the backs take their states
from their switches, every recorded hand is EMPTY or CLEAR, and both homings start; start-up ends at once when both homes are already
closed. That the first levels come as operands of the command is the model's choice (log 7). -/
def Obligations.ZeroingEndStartsThePart : Prop :=
  ∀ (s : State) (c : ResetCause) (x : InputLevels), s.control.startUp = .zeroing c →
    Answers (.zeroingEnd x) s fun t =>
      (∀ a, ¬ within 0x5D00 0x100 a → Memory.read t.mem a = 0) ∧ MemoryOk t
        ∧ t.control.resetCause = c ∧ reportByte t 0x02 = c.code
        ∧ t.control.notice = 0 ∧ t.control.seen = 0 ∧ t.control.enables = 0
        ∧ t.control.stand = .stopped ∧ t.control.cause = .none
        ∧ (t.back .a).state = (if x.backA.doorOpen then .doorOpen else if x.backA.cassette then .orphanFilm else .empty)
        ∧ (t.back .b).state = (if x.backB.doorOpen then .doorOpen else if x.backB.cassette then .orphanFilm else .empty)
        ∧ reportByte t 0x04 = (t.back .a).state.code ∧ reportByte t 0x05 = (t.back .b).state.code
        ∧ (t.back .a).levels = x.backA ∧ (t.back .b).levels = x.backB ∧ t.lidOpen = x.lidOpen
        ∧ (∀ bk, (t.back bk).gateFrame = 0 ∧ (t.back bk).live = none ∧ (t.back bk).motor.direction = .stopped)
        ∧ (∀ n, recordedHand t n = .empty) ∧ (∀ sh, sheetHand t sh = .clear)
        ∧ t.orders.runList = [] ∧ t.orders.intake = [] ∧ t.watch.slotOrder = [] ∧ t.watch.sheetMarks = []
        ∧ t.watch.settleMarks = [] ∧ t.gate.phase = .idle ∧ t.gate.shot = none ∧ t.lamp.output = .off
        ∧ t.carriage.state = (if x.endA then .lineA else .homing) ∧ reportByte t 0x03 = t.carriage.state.code
        ∧ t.carriage.homingTimer = (if x.endA then none else some 60000)
        ∧ t.feeder.position = (if x.home then 1 else 0) ∧ reportByte t 0x08 = t.feeder.position
        ∧ t.feeder.drive = (if x.home then .stopped else .homing)
        ∧ t.feeder.homingTimer = (if x.home then none else some 84000)
        ∧ t.control.startUp = (if x.endA && x.home then .ended else .homing)
        ∧ t.labels.printer = .unknown ∧ t.labels.transmitter = (if x.endA && x.home then [.inquire] else [])
        ∧ t.converter = { converting := none, supply := false, lamp := false, sinceSupply := 0 }
        ∧ t.pending = s.pending

/-! ### Hands, settles and takes (R7 to R13, R20, R23 to R28, R38 to R40, R97 to R99, R181, R182) -/

namespace Sys2Proof.Claims

/-- Slot n's mark is at the head of the pending slot order, and the part takes marks. -/
abbrev SlotMarkDue (s : State) (n : Slot) : Prop := atWork s = true ∧ s.watch.slotOrder.head? = some n

/-- The pairs of recorded hand and found value that the table of R9 lists, and the repeated writes. -/
abbrev slotPairListed (r : SlotHand) (found : Nat) : Prop :=
  found = r.code ∨ (r = .empty ∨ r = .done) ∧ found = 1 ∨ r = .filed ∧ found = 0 ∨ r = .taken ∧ found = 4
    ∨ r = .done ∧ (found = 0 ∨ found = 4)

/-- The hands of the other slots are as before. -/
abbrev KeepsOtherHands (n : Slot) (s t : State) : Prop := ∀ m : Slot, m ≠ n → recordedHand t m = recordedHand s m

/-- Only the mark of slot n and the Order Engine's hand and intake queue may differ. -/
abbrev OnlyHands (n : Slot) (s t : State) : Prop :=
  n ∉ t.watch.slotOrder ∧ (∀ m, m ≠ n → (m ∈ t.watch.slotOrder ↔ m ∈ s.watch.slotOrder))
    ∧ t.orders.runList = s.orders.runList ∧ t.orders.choice = s.orders.choice ∧ KeepsOtherHands n s t

end Sys2Proof.Claims

/-- A slot mark acts on the recorded hand and the value found as the table of R9 gives, but for a withdrawal over TAKEN; a pair
that is not listed is written back with HAND_FAULT (R9, R20). -/
def Obligations.SlotHandsFollowTheTable : Prop :=
  ∀ (s : State) (n : Slot), MemoryOk s → SlotMarkDue s n → ¬ (recordedHand s n = .taken ∧ handFound s n = 4) →
    Answers .slotMarkTake s fun t =>
      OnlyHands n s t
        ∧ (handFound s n = (recordedHand s n).code →
          t = { s with watch := t.watch })
        ∧ (recordedHand s n = .empty ∨ recordedHand s n = .done → handFound s n = 1 →
          recordedHand t n = .filed ∧ t.orders.intake = s.orders.intake ++ [n]
            ∧ t = { s with watch := t.watch, orders := t.orders })
        ∧ (recordedHand s n = .filed → handFound s n = 0 →
          recordedHand t n = .empty ∧ n ∉ t.orders.intake
            ∧ (∀ m, m ≠ n → (m ∈ t.orders.intake ↔ m ∈ s.orders.intake))
            ∧ t = { s with watch := t.watch, orders := t.orders })
        ∧ (recordedHand s n = .done → handFound s n = 0 →
          recordedHand t n = .empty ∧ t.orders.intake = s.orders.intake
            ∧ t = { s with watch := t.watch, orders := t.orders })
        ∧ (recordedHand s n = .done → handFound s n = 4 →
          handFound t n = 3 ∧ t.orders = s.orders ∧ KeepsBytes s t (within (slotBase n) 2)
            ∧ t = { s with watch := t.watch, mem := t.mem })
        ∧ (¬ slotPairListed (recordedHand s n) (handFound s n) →
          handFound t n = (recordedHand s n).code ∧ t.orders = s.orders ∧ RaisesOnly .handFault s t
            ∧ KeepsBytes s t (within (slotBase n) 2) ∧ KeepsStartUp s t
            ∧ t = { s with watch := t.watch, mem := t.mem, control := t.control })

namespace Sys2Proof.Claims

/-- A withdrawal of slot n's order is due to be accepted. -/
abbrev WithdrawalDue (s : State) (n : Slot) (e : OrderEntry) : Prop :=
  SlotMarkDue s n ∧ recordedHand s n = .taken ∧ handFound s n = 4 ∧ findOrder s n = some e

/-- The frames whose WAITING labels belong to the order of slot n. -/
abbrev waitingOf (s : State) (n : Slot) : List (Sheet × Nat) :=
  allFrames.filter fun x => decide (labelCode s x.1 x.2 = 1) && decide (frameSlot s x.1 x.2 = n)

/-- The label queue without the entries of slot n, but for the label at the printer (R167). -/
abbrev queueWithout (s : State) (n : Slot) : List LabelEntry :=
  s.labels.queue.filter fun x =>
    decide (x.slot ≠ n) || decide (s.labels.printer = .printing ∧ s.labels.queue.head? = some x)

/-- The labels of the order of slot n that a withdrawal skips. -/
abbrev skippedLabels (s : State) (n : Slot) : Nat :=
  (waitingOf s n).length + (s.labels.queue.length - (queueWithout s n).length)

/-- The order's outstanding labels but for the label at the printer are SKIPPED, and its queue entries are gone (R39, R167). -/
abbrev LabelsSkipped (s t : State) (n : Slot) : Prop :=
  (∀ x ∈ waitingOf s n, labelCode t x.1 x.2 = 5)
    ∧ (∀ x ∈ s.labels.queue, x ∉ queueWithout s n → labelCode t x.sheet x.frame = 5)
    ∧ (waitingCount s = 0 → t.labels.queue = queueWithout s n)

/-- Every queue entry of slot n is of a frame of that slot (R155). -/
abbrev EntriesNamed (s : State) (n : Slot) : Prop :=
  ∀ x ∈ s.labels.queue, 1 ≤ x.frame ∧ x.frame ≤ 40 ∧ (x.slot = n → frameSlot s x.sheet x.frame = n)

/-- Every PENDING shot of the order but an excepted one is WITHDRAWN (R39). -/
abbrev PendingWithdrawn (s t : State) (n : Slot) (except : Option Nat) : Prop :=
  ∀ i, i < 24 → except ≠ some i →
    shotCode t n i = if i < shotCount s n ∧ shotCode s n i = 0 then 5 else shotCode s n i

/-- The order of slot n, entry e, ends WITHDRAWN when no label of it stays outstanding, with its whole commitment released, and is
FINISHING otherwise (R39, R42). -/
abbrev EndsWithdrawn (s t : State) (n : Slot) (e : OrderEntry) : Prop :=
  (e.outstanding ≤ skippedLabels s n →
    recordedHand t n = .done ∧ handFound t n = 3 ∧ byteAt t (outcome n) = 3 ∧ byteAt t (outcome n + 1) = 0
      ∧ t.orders.runList = s.orders.runList.filter (fun x => decide (x.slot ≠ n)) ∧ RaisesOnly .orderDone s t
      ∧ remaining t n = 0
      ∧ (e.rush = false ∨ framesExposed s n = 0 →
          charged t n = charged s n
            ∧ committed t (accountIndex s n) = committed s (accountIndex s n) - remaining s n)
      ∧ CompletionAmounts s t n e.rush 0)
  ∧ (skippedLabels s n < e.outstanding →
      recordedHand t n = .withdraw ∧ byteAt t (outcome n + 1) = 4 ∧ KeepsNotice s t
        ∧ t.orders.runList = s.orders.runList.map fun x => if x.slot = n then
            { x with withdrawn := true, sub := .finishing, outstanding := x.outstanding - skippedLabels s n } else x)

end Sys2Proof.Claims

/-- An accepted withdrawal (R38, R40): away from a frame boundary a COPY order at the gate, and any started stand task, only record
WITHDRAW; a stand task that has not started ends WITHDRAWN at once, with DONE in the hand and ORDER_DONE. A COPY order that is not at the
gate, or whose shot stands at a frame boundary, is withdrawn at once (R39, R167): the shot at the gate ends PARTIAL with shots done raised
when a frame of it is EXPOSED and WITHDRAWN otherwise, its RESERVED frames are UNUSED and the gate is idle; every other PENDING shot is
WITHDRAWN; the order's labels but the one at the printer are SKIPPED; and the order completes WITHDRAWN with its whole commitment gone, a RUSH
order with a frame EXPOSED paying the surcharge (R42, R180), or is FINISHING while the label at the printer is outstanding. -/
def Obligations.WithdrawalWaitsOrEndsTheTask : Prop :=
  ∀ (s : State) (n : Slot) (e : OrderEntry), MemoryOk s → WithdrawalDue s n e →
    (e.kind = .copy ∧ e.sub = .atGate ∧ s.gate.phase.boundary = false ∨ e.kind ≠ .copy ∧ e.started = true →
      Answers .slotMarkTake s fun t =>
        recordedHand t n = .withdraw ∧ KeepsOtherHands n s t ∧ t.orders.intake = s.orders.intake
          ∧ t.orders.runList = s.orders.runList ∧ t = { s with watch := t.watch, orders := t.orders })
    ∧ (e.kind ≠ .copy ∧ e.started = false →
      Answers .slotMarkTake s fun t =>
        recordedHand t n = .done ∧ handFound t n = 3 ∧ byteAt t (outcome n) = 3 ∧ byteAt t (outcome n + 1) = 0
          ∧ KeepsOtherHands n s t ∧ t.orders.intake = s.orders.intake
          ∧ t.orders.runList = s.orders.runList.filter (fun x => decide (x.slot ≠ n)) ∧ RaisesOnly .orderDone s t
          ∧ KeepsBytes s t (fun a => within (slotBase n) 2 a ∨ within (outcome n) 2 a ∨ within 0x5D10 2 a)
          ∧ t = { s with watch := t.watch, orders := t.orders, mem := t.mem, control := t.control })
    ∧ (e.kind = .copy → e.sub ≠ .atGate → accountIndex s n ≤ 63 → EntriesNamed s n →
      Answers .slotMarkTake s fun t =>
        PendingWithdrawn s t n none ∧ LabelsSkipped s t n ∧ EndsWithdrawn s t n e ∧ KeepsOtherHands n s t
          ∧ t.orders.intake = s.orders.intake ∧ t.gate = s.gate
          ∧ (e.rush = false ∨ framesExposed s n = 0 →
            KeepsBytes s t (fun a => within (slotBase n) 2 a ∨ within (outcome n) 0x200 a
              ∨ within (accountBase (accountIndex s n) + 0x14) 4 a
              ∨ (∃ (sh : Sheet) (k : Nat), 1 ≤ k ∧ k ≤ 40 ∧ a = frameRecord sh k)
              ∨ within 0x5D0A 2 a ∨ within 0x5D10 2 a))
          ∧ KeepsBytes s t (fun a => within (slotBase n) 2 a ∨ within (outcome n) 0x200 a
              ∨ within (accountBase (accountIndex s n) + 6) 2 a ∨ within (accountBase (accountIndex s n) + 0x10) 8 a
              ∨ (∃ (sh : Sheet) (k : Nat), 1 ≤ k ∧ k ≤ 40 ∧ a = frameRecord sh k)
              ∨ within 0x5D0A 2 a ∨ within 0x5D10 2 a)
          ∧ t = { s with watch := t.watch, orders := t.orders, mem := t.mem, control := t.control, labels := t.labels })
    ∧ (∀ r : ShotRecord, e.kind = .copy → e.sub = .atGate → s.gate.phase.boundary = true → s.gate.shot = some r →
        r.slot = n → r.calibrate = false → r.shot < 24 → FramesOnSheet r → accountIndex s n ≤ 63 →
        s.control.stand = .running ∨ s.control.stand = .held → EntriesNamed s n →
        wordAt s (outcome n + 4) < 65535 →
      Answers .slotMarkTake s fun t =>
        t.gate.phase = .idle ∧ t.gate.shot = none ∧ t.gate.rested = false ∧ t.orders.choice = none
          ∧ t.exposure.holder = none
          ∧ shotCode t n r.shot = (if r.tally = [] then 5 else 2)
          ∧ wordAt t (outcome n + 4) = wordAt s (outcome n + 4) + (if r.tally = [] then 0 else 1)
          ∧ (∀ g ∈ r.frames, frameCode s ⟨r.back, r.which⟩ g.frame = 1 → frameCode t ⟨r.back, r.which⟩ g.frame = 4)
          ∧ PendingWithdrawn s t n (some r.shot) ∧ LabelsSkipped s t n ∧ EndsWithdrawn s t n e ∧ KeepsOtherHands n s t
          ∧ t.orders.intake = s.orders.intake
          ∧ t = { s with watch := t.watch, orders := t.orders, mem := t.mem, control := t.control, labels := t.labels
                         gate := t.gate, exposure := t.exposure })

namespace Sys2Proof.Claims

/-- A sheet's mark is set, the part takes marks, and the sheet's back is not looking for a sheet. -/
abbrev SheetMarkDue (s : State) (sh : Sheet) : Prop :=
  atWork s = true ∧ sh ∈ s.watch.sheetMarks ∧ (s.back sh.back).state ≠ .awaitingSheet

/-- The pairs of the table of R11, and the repeated writes. -/
abbrev sheetPairListed (r : SheetHand) (found : Nat) : Prop :=
  found = r.code ∨ r = .clear ∧ found = 1 ∨ (r = .prepared ∨ r = .retired) ∧ found = 0

/-- The recorded hands of the other sheets are as before. -/
abbrev KeepsOtherSheets (sh : Sheet) (s t : State) : Prop := ∀ x : Sheet, x ≠ sh → sheetHand t x = sheetHand s x

/-- Everything of both Back Units but the recorded hands of their sheets is as before. -/
abbrev KeepsBacks (s t : State) : Prop :=
  ∀ bk, t.back bk = { s.back bk with handFirst := (t.back bk).handFirst, handSecond := (t.back bk).handSecond }

end Sys2Proof.Claims

/-- A sheet mark acts on the recorded sheet hand and the value found as R11 and R12 give: an accepted CLEAR over RETIRED zeroes the
header from 06H up and the frame records and keeps words 02H and 04H, and one with an outstanding label is refused. -/
def Obligations.SheetHandsFollowTheTable : Prop :=
  ∀ (s : State) (sh : Sheet), MemoryOk s → SheetMarkDue s sh →
    Answers (.sheetMarkTake sh) s fun t =>
      sh ∉ t.watch.sheetMarks ∧ KeepsOtherSheets sh s t ∧ KeepsBacks s t
        ∧ t = { s with watch := t.watch, backA := t.backA, backB := t.backB, mem := t.mem, control := t.control }
        ∧ (sheetHandFound s sh = (sheetHand s sh).code → t = { s with watch := t.watch })
        ∧ (sheetHand s sh = .clear → sheetHandFound s sh = 1 →
          sheetHand t sh = .prepared ∧ t.mem = s.mem ∧ t.control = s.control)
        ∧ (sheetHand s sh = .prepared → sheetHandFound s sh = 0 →
          sheetHand t sh = .clear ∧ t.mem = s.mem ∧ t.control = s.control)
        ∧ (sheetHand s sh = .retired → sheetHandFound s sh = 0 → sheetOutstanding s sh = false →
          sheetHand t sh = .clear ∧ t.control = s.control
            ∧ ∀ a, Memory.read t.mem a
                = if within (sheetBase sh + 6) 0x2BA a then 0 else Memory.read s.mem a)
        ∧ (¬ sheetPairListed (sheetHand s sh) (sheetHandFound s sh)
            ∨ sheetHand s sh = .retired ∧ sheetHandFound s sh = 0 ∧ sheetOutstanding s sh = true →
          sheetHand t sh = sheetHand s sh ∧ sheetHandFound t sh = (sheetHand s sh).code ∧ RaisesOnly .handFault s t
            ∧ KeepsBytes s t (within (sheetBase sh) 2))

namespace Sys2Proof.Claims

/-- A sheet's mark with PREPARED newly found, on a back that looks for a sheet and has no other candidate. -/
abbrev PreparedArrives (s : State) (sh : Sheet) : Prop :=
  atWork s = true ∧ sh ∈ s.watch.sheetMarks ∧ (s.back sh.back).state = .awaitingSheet
    ∧ sheetHand s sh = .clear ∧ sheetHandFound s sh = 1
    ∧ ∀ x : Sheet, x.back = sh.back → x ≠ sh → sheetHand s x ≠ .prepared

end Sys2Proof.Claims

/-- A back in AWAITING_SHEET takes an accepted PREPARED at once (R79, R98, R99): a sheet of a valid profile goes LIVE with its
capacity clamped to 12..40 and the back enters LOADING with its motor started, or deferred under a lit lamp or an open shutter;
any other is written CLEAR with HAND_FAULT, and its words 02H and 04H are kept. -/
def Obligations.PreparedSheetIsPromotedOrRefused : Prop :=
  ∀ (s : State) (sh : Sheet), MemoryOk s → PreparedArrives s sh →
    (sheetProfile s sh ≤ 7 ∧ byteAt s (profileBase (sheetProfile s sh)) ≠ 0 →
      Answers (.sheetMarkTake sh) s fun t =>
        sheetHand t sh = .live ∧ sheetHandFound t sh = 2 ∧ capacity t sh = max 12 (min 40 (capacity s sh))
          ∧ (t.back sh.back).live = some sh.which ∧ (t.back sh.back).state = .loading
          ∧ reportByte t (backOffset sh.back) = 3
          ∧ reportByte t (liveOffset sh.back) = (match sh.which with | .first => 1 | .second => 2)
          ∧ (t.back sh.back).motor.perforations = 0 ∧ (t.back sh.back).motor.target = targetSpeed s
          ∧ (t.back sh.back).motor.creep = creepSpeed s ∧ (t.back sh.back).motor.ramp = rampStep s
          ∧ (if s.lamp.output = .off ∧ s.backA.shutter.outstanding = false ∧ s.backB.shutter.outstanding = false then
              (t.back sh.back).motor.direction = .forward ∧ (t.back sh.back).motor.speed = creepSpeed s
                ∧ (t.back sh.back).motor.stallTimer = some 8000
            else
              (t.back sh.back).motor.direction = .stopped ∧ (t.back sh.back).motor.start = .forward
                ∧ (t.back sh.back).motor.stallTimer = none)
          ∧ KeepsOther sh.back s t ∧ KeepsNotice s t ∧ rollSerial t sh = rollSerial s sh
          ∧ framesUsed t sh = framesUsed s sh)
    ∧ (7 < sheetProfile s sh ∨ byteAt s (profileBase (sheetProfile s sh)) = 0 →
      Answers (.sheetMarkTake sh) s fun t =>
        sheetHand t sh = .clear ∧ sheetHandFound t sh = 0 ∧ RaisesOnly .handFault s t
          ∧ (t.back sh.back).state = .awaitingSheet ∧ (t.back sh.back).live = (s.back sh.back).live
          ∧ KeepsOther sh.back s t ∧ KeepsBytes s t (within (sheetBase sh) 2)
          ∧ t = { s with watch := t.watch, backA := t.backA, backB := t.backB, mem := t.mem, control := t.control })

/-- A settle step (R181) zeroes both settle words, writes last settled with the smaller of the settle and spent, lowers spent by
it, and writes the saturated mark 0; it changes nothing else of the account or of the part (R182). -/
def Obligations.SettleMovesTheSmallerAmount : Prop :=
  ∀ (s : State) (i : Account), MemoryOk s → atWork s = true → i ∈ s.watch.settleMarks →
    Answers (.settle i) s fun t =>
      wordAt t (accountBase i.val + 0x0C) = 0 ∧ wordAt t (accountBase i.val + 0x0E) = 0
        ∧ lastSettled t i.val = min (settleValue s i.val) (spent s i.val)
        ∧ spent t i.val = spent s i.val - min (settleValue s i.val) (spent s i.val)
        ∧ saturatedMark t i.val = 0 ∧ i ∉ t.watch.settleMarks
        ∧ (∀ j, j ≠ i → (j ∈ t.watch.settleMarks ↔ j ∈ s.watch.settleMarks))
        ∧ KeepsBytes s t (fun a => within (accountBase i.val + 0x06) 2 a ∨ within (accountBase i.val + 0x0C) 8 a
            ∨ within (accountBase i.val + 0x1C) 4 a)
        ∧ t = { s with mem := t.mem, watch := { s.watch with settleMarks := t.watch.settleMarks } }

namespace Sys2Proof.Claims

/-- The entry of the intake queue that R23 chooses: the oldest RUSH entry, and with no RUSH entry the head. -/
abbrev Chosen (s : State) (n : Slot) : Prop :=
  (∃ pre post, s.orders.intake = pre ++ n :: post ∧ isRush s n = true ∧ ∀ m ∈ pre, isRush s m = false)
    ∨ (∀ m ∈ s.orders.intake, isRush s m = false) ∧ s.orders.intake.head? = some n

/-- A take of slot n is due: the take condition holds, n is chosen, and no mark of n is pending (R23, R10). -/
abbrev TakeDue (s : State) (n : Slot) : Prop :=
  atWork s = true ∧ activeOrders s < 4 ∧ Chosen s n ∧ n ∉ s.watch.slotOrder ∧ recordedHand s n = .filed

/-- The entry that R23 chooses has its mark pending, and every slot of the intake queue is FILED (R9, R10). -/
abbrev MarkedTakeDue (s : State) (n : Slot) : Prop :=
  atWork s = true ∧ activeOrders s < 4 ∧ Chosen s n ∧ n ∈ s.watch.slotOrder ∧ ∀ m ∈ s.orders.intake, recordedHand s m = .filed

/-- The order of slot n stands in the run list, WAITING_RUN, behind the last order of its own priority (R29). -/
abbrev EntersRunList (s t : State) (n : Slot) (k : OrderKind) : Prop :=
  ∃ e : OrderEntry, e.slot = n ∧ e.kind = k ∧ e.rush = isRush s n ∧ e.sub = .waitingRun
    ∧ e.started = false ∧ e.withdrawn = false ∧ e.outstanding = 0
    ∧ t.orders.runList
        = if isRush s n = true then
            s.orders.runList.filter (fun x => x.rush) ++ e :: s.orders.runList.filter (fun x => !x.rush)
          else s.orders.runList ++ [e]

/-- The planned commitment of R27 and R173. -/
abbrev planned (s : State) (n : Slot) : Nat :=
  ((List.range (shotCount s n)).map fun i =>
      bracketCount s n i * copyCount s n i * (framePrice s (orderProfile s n) + labelPrice s)).sum
    + (if isRush s n = true then rushSurcharge s else 0)

end Sys2Proof.Claims

/-- A refused order (R26): its outcome area is 0 but for REFUSED and the refusal code, its hand reads DONE, ORDER_DONE is set, it
leaves the intake queue, and neither the run list nor any account changes. An accepted COPY order (R27, R28, R29): its planned and remaining
commitment are the sum over its shots with the surcharge of a RUSH order, its account's committed rises by it, its hand reads TAKEN, every
shot is PENDING, and it stands in the run list behind the last order of its own priority; no flag is set. An accepted CALIBRATE or REWIND
order (R25, R28, R173) has a planned commitment of 0, no amount moves, and it stands in the run list likewise. A pending mark of the chosen
slot is handled first, as a slot mark is (R10): with EMPTY found the slot is retracted and the choice is made again, and the take goes on
otherwise. -/
def Obligations.TakeRefusesOrCommitsTheOrder : Prop :=
  (∀ (s : State) (n : Slot) (c : RefusalCode), MemoryOk s → TakeDue s n → checkOrder s n = .inl c →
    Answers .take s fun t =>
      recordedHand t n = .done ∧ handFound t n = 3 ∧ byteAt t (outcome n) = 5 ∧ byteAt t (outcome n + 2) = c.code
        ∧ (∀ a, within (outcome n) 0x200 a → a ≠ outcome n → a ≠ outcome n + 2 → Memory.read t.mem a = 0)
        ∧ KeepsBytes s t (fun a => within (slotBase n) 2 a ∨ within (outcome n) 0x200 a)
        ∧ n ∉ t.orders.intake ∧ (∀ m, m ≠ n → (m ∈ t.orders.intake ↔ m ∈ s.orders.intake))
        ∧ t.orders.runList = s.orders.runList ∧ KeepsOtherHands n s t ∧ RaisesOnly .orderDone s t ∧ KeepsStartUp s t
        ∧ t = { s with mem := t.mem, orders := t.orders, control := t.control })
  ∧ (∀ (s : State) (n : Slot), MemoryOk s → TakeDue s n → checkOrder s n = .inr .copy →
    Answers .take s fun t =>
      recordedHand t n = .taken ∧ handFound t n = 2 ∧ byteAt t (outcome n) = 0 ∧ byteAt t (outcome n + 1) = 1
        ∧ plannedCommitment t n = planned s n ∧ remaining t n = planned s n ∧ charged t n = 0
        ∧ committed t (accountIndex s n) = committed s (accountIndex s n) + planned s n
        ∧ (∀ i, i < 24 → shotCode t n i = 0 ∧ byteAt t (shotOutcome n i + 0x0E)
            = if i < shotCount s n ∧ trimOutside s n i = true then 8 else 0)
        ∧ KeepsBytes s t (fun a => within (slotBase n) 2 a ∨ within (outcome n) 0x200 a
            ∨ within (accountBase (accountIndex s n) + 0x14) 4 a)
        ∧ n ∉ t.orders.intake ∧ KeepsOtherHands n s t
        ∧ EntersRunList s t n .copy
        ∧ t = { s with mem := t.mem, orders := t.orders })
  ∧ (∀ (s : State) (n : Slot) (k : OrderKind), MemoryOk s → TakeDue s n → checkOrder s n = .inr k → k ≠ .copy →
    Answers .take s fun t =>
      recordedHand t n = .taken ∧ handFound t n = 2 ∧ byteAt t (outcome n) = 0 ∧ byteAt t (outcome n + 1) = 1
        ∧ plannedCommitment t n = 0 ∧ remaining t n = 0 ∧ charged t n = 0
        ∧ (∀ a, within (outcome n) 0x200 a → a ≠ outcome n + 1 → Memory.read t.mem a = 0)
        ∧ KeepsBytes s t (fun a => within (slotBase n) 2 a ∨ within (outcome n) 0x200 a)
        ∧ n ∉ t.orders.intake ∧ (∀ m, m ≠ n → (m ∈ t.orders.intake ↔ m ∈ s.orders.intake)) ∧ KeepsOtherHands n s t
        ∧ EntersRunList s t n k
        ∧ t = { s with mem := t.mem, orders := t.orders })
  ∧ ∀ (s : State) (n : Slot), MemoryOk s → MarkedTakeDue s n →
    ∃ u, exec .slotMarkTake { s with watch := { s.watch with slotOrder := [n] } } = .next u
      ∧ exec .take s
          = exec .take { u with watch :=
              { s.watch with slotOrder := s.watch.slotOrder.filter fun m => decide (m ≠ n) } }
      ∧ (handFound s n = 0 → recordedHand u n = .empty ∧ n ∉ u.orders.intake)
      ∧ (handFound s n ≠ 0 → recordedHand u n = .filed ∧ u.orders = s.orders)

namespace Sys2Proof.Claims

/-- Some entry among the first shot count entries fails a check. -/
abbrev someShot (s : State) (n : Slot) (bad : Nat → Prop) : Prop := ∃ i, i < shotCount s n ∧ bad i

/-- The check of a COPY order with this code fails (R24, R27). -/
abbrev Fails (s : State) (n : Slot) : RefusalCode → Prop
  | .badKind => kindByte s n ≠ 1 ∧ kindByte s n ≠ 2 ∧ kindByte s n ≠ 3
  | .badAccount => 63 < accountIndex s n
      ∨ accountState s (accountIndex s n) ≠ 1 ∧ accountState s (accountIndex s n) ≠ 2
  | .accountClosed => accountState s (accountIndex s n) = 2
  | .badProfile => 7 < orderProfile s n ∨ byteAt s (profileBase (orderProfile s n)) = 0
  | .badShots => shotCount s n = 0 ∨ 24 < shotCount s n
  | .badPosition => someShot s n fun i => trayPosition s n i = 0 ∨ 80 < trayPosition s n i
  | .badBracket => someShot s n fun i =>
      bracketCount s n i ≠ 1 ∧ bracketCount s n i ≠ 3 ∧ bracketCount s n i ≠ 5 ∨ 4 < stepCode s n i
  | .badCopies => someShot s n fun i => copyCount s n i = 0 ∨ 3 < copyCount s n i
  | .badStyle => 3 < styleIndex s n ∨ byteAt s (styleBase (styleIndex s n)) = 0
  | .badBack => 2 < backChoice s n
  | .notCalibrated => wordAt s 0x5C40 = 0
  | .overCeiling =>
      ceiling s (accountIndex s n) ≠ 0
          ∧ ceiling s (accountIndex s n)
              < spent s (accountIndex s n) + committed s (accountIndex s n) + planned s n
        ∨ 16777215 < committed s (accountIndex s n) + planned s n

end Sys2Proof.Claims

/-- A COPY order is accepted exactly when every check of R24 passes, and the ceiling check is that of R27; one that is refused is refused
with the first check of the table that fails. An order of another kind byte is refused BAD_KIND; a CALIBRATE order is refused BAD_POSITION
when the tray position of entry 0 is 0 or above 80 and accepted otherwise; a REWIND order is refused BAD_BACK when its back choice is
neither A nor B and accepted otherwise (R25). -/
def Obligations.ChecksAreMadeInTheirOrder : Prop :=
  (∀ (s : State) (n : Slot), checkOrder s n = .inr .copy ↔
    kindByte s n = 1 ∧ accountIndex s n ≤ 63 ∧ accountState s (accountIndex s n) = 1 ∧ orderProfile s n ≤ 7
      ∧ byteAt s (profileBase (orderProfile s n)) ≠ 0 ∧ 1 ≤ shotCount s n ∧ shotCount s n ≤ 24
      ∧ (∀ i, i < shotCount s n →
          1 ≤ trayPosition s n i ∧ trayPosition s n i ≤ 80
            ∧ (bracketCount s n i = 1 ∨ bracketCount s n i = 3 ∨ bracketCount s n i = 5) ∧ stepCode s n i ≤ 4
            ∧ 1 ≤ copyCount s n i ∧ copyCount s n i ≤ 3)
      ∧ styleIndex s n ≤ 3 ∧ byteAt s (styleBase (styleIndex s n)) ≠ 0 ∧ backChoice s n ≤ 2
      ∧ wordAt s 0x5C40 ≠ 0
      ∧ (ceiling s (accountIndex s n) ≠ 0 →
          spent s (accountIndex s n) + committed s (accountIndex s n) + planned s n ≤ ceiling s (accountIndex s n))
      ∧ committed s (accountIndex s n) + planned s n ≤ 16777215)
  ∧ (∀ (s : State) (n : Slot) (c : RefusalCode), kindByte s n = 1 →
      (checkOrder s n = .inl c ↔ Fails s n c ∧ ∀ d : RefusalCode, d.code < c.code → ¬ Fails s n d))
  ∧ ∀ (s : State) (n : Slot),
    (kindByte s n ≠ 1 → kindByte s n ≠ 2 → kindByte s n ≠ 3 → checkOrder s n = .inl .badKind)
    ∧ (kindByte s n = 2 → checkOrder s n
        = if trayPosition s n 0 = 0 ∨ 80 < trayPosition s n 0 then .inl .badPosition else .inr .calibrate)
    ∧ (kindByte s n = 3 → checkOrder s n
        = if backChoice s n = 1 ∨ backChoice s n = 2 then .inr .rewind else .inl .badBack)

/-! ### Shot choices and feeding (R31 to R36, R43, R50 to R52, R88, R93) -/

namespace Sys2Proof.Claims

/-- A shot choice is due, and the run list holds one order, with no withdrawal accepted. -/
abbrev ChoiceOverOne (s : State) (e : OrderEntry) : Prop :=
  mayChoose s = true ∧ s.gate.rested = false ∧ s.orders.runList = [e] ∧ recordedHand s e.slot ≠ .withdraw

/-- The order is a COPY order waiting to run with shot i next, of f planned frames. -/
abbrev NextIs (s : State) (e : OrderEntry) (i f : Nat) : Prop :=
  e.kind = .copy ∧ e.sub = .waitingRun ∧ nextShot s e.slot = some i ∧ f = bracketCount s e.slot i * copyCount s e.slot i

/-- A matching back of the order (R33): it is allowed, and its LIVE sheet has the order's profile. -/
abbrev Matches (s : State) (n : Slot) (bk : Back) (w : Which) : Prop :=
  (backChoice s n = 0 ∨ backChoice s n = backCode bk) ∧ (s.back bk).live = some w
    ∧ sheetProfile s ⟨bk, w⟩ = orderProfile s n

/-- A matching back with room for f frames (R33). -/
abbrev HasRoomFor (s : State) (n : Slot) (f : Nat) (bk : Back) (w : Which) : Prop :=
  Matches s n bk w ∧ f ≤ capacity s ⟨bk, w⟩ - framesUsed s ⟨bk, w⟩

/-- The back satisfies case 1 of the fit rule: it has room and is READY or STALE (R33). -/
abbrev BackServes (s : State) (n : Slot) (f : Nat) (bk : Back) (w : Which) : Prop :=
  HasRoomFor s n f bk w ∧ ((s.back bk).state = .ready ∨ (s.back bk).state = .stale)

/-- The back that R34 chooses: the only one that can serve, of two the one in line, and back A when neither is. -/
abbrev ChosenBack (s : State) (n : Slot) (f : Nat) (bk : Back) : Prop :=
  (∀ w, ¬ BackServes s n f (otherBack bk) w) ∨ inLine s bk = true ∨ bk = .a ∧ inLine s .b = false

/-- The shot is passed over (R33 case 2): some matching back has room, and none of those is READY or STALE. -/
abbrev PassedOver (s : State) (n : Slot) (f : Nat) : Prop :=
  (∃ bk w, HasRoomFor s n f bk w) ∧ ∀ bk w, ¬ BackServes s n f bk w

/-- The choice goes past the order: it is not to be examined, or its next shot is passed over. -/
abbrev GoesPast (s : State) (x : OrderEntry) : Prop :=
  x.kind ≠ .copy ∨ x.sub ≠ .waitingRun ∨ recordedHand s x.slot = .withdraw ∨ nextShot s x.slot = none
    ∨ ∃ i f, NextIs s x i f ∧ PassedOver s x.slot f

/-- The tray goes to a position (R50, R93, R94): there already, it has arrived; from a known position the feeder moves; from position 0 it
homes first, and with its home switch closed the position is 1 at once. The move timer is that of the distance. -/
abbrev TrayGoesTo (s t : State) (q : Nat) : Prop :=
  if s.feeder.position = q then t.gate.phase = .feedArrived ∧ t.feeder = s.feeder
  else if s.feeder.position = 0 ∧ s.feeder.home = true then
    t.feeder.position = 1 ∧ reportByte t 0x08 = 1 ∧ t.feeder.homingTimer = none
      ∧ (if q = 1 then t.gate.phase = .feedArrived ∧ t.gate.moveTimer = none ∧ t.feeder.drive = .stopped
        else t.gate.phase = .feedMoving ∧ t.gate.moveTimer = some (20 * (200 + 50 * q)) ∧ t.feeder.drive = .moving
          ∧ t.feeder.target = some q)
  else
    t.gate.phase = .feedMoving ∧ t.gate.moveTimer = some (20 * (200 + 50 * distance s.feeder.position q))
      ∧ t.feeder = { s.feeder with
          drive := if s.feeder.position = 0 then .homing else .moving
          target := some q
          homingTimer := if s.feeder.position = 0 then some 84000 else none }

/-- A CALIBRATE task waits to start, and every order before it in the run list is a COPY order, has started, or is withdrawn. -/
abbrev CalibrateIsFirst (s : State) (pre post : List OrderEntry) (e : OrderEntry) : Prop :=
  mayChoose s = true ∧ s.gate.rested = false ∧ (s.orders.runList.map OrderEntry.slot).Nodup
    ∧ s.orders.runList = pre ++ e :: post ∧ e.kind = .calibrate ∧ e.started = false ∧ recordedHand s e.slot ≠ .withdraw
    ∧ ∀ x ∈ pre, x.kind = .copy ∨ x.started = true ∨ recordedHand s x.slot = .withdraw

/-- A shot choice is due over a run list in which no stand task waits to start. -/
abbrev ChoiceOverMany (s : State) : Prop :=
  mayChoose s = true ∧ s.gate.rested = false ∧ (s.orders.runList.map OrderEntry.slot).Nodup
    ∧ ∀ x ∈ s.orders.runList, x.kind = .copy ∨ x.started = true

end Sys2Proof.Claims

/-- A choice goes through the run list in its order (R33): past the orders that are not examined or whose next shots are passed over it
serves the first order whose next shot a back can take, on the back that R34 chooses among EITHER or the named one. The choice is recorded,
the order is AT_GATE, the sequencer holds the shot, and with the tray elsewhere the feeder moves to it under a timer of 200 ms + 50 ms ×
distance (R50); the other orders stand as they are. With every order gone past, the choice starts nothing. A CALIBRATE task that has not
started goes before every COPY order (R32, R43): its order is AT_GATE and started, the sequencer holds its work, and the tray goes to the
position of its shot entry 0. That a choice may come at any moment at which its conditions hold is the model's reading (log 9). -/
def Obligations.ShotIsServedAndFed : Prop :=
  (∀ (s : State) (pre post : List OrderEntry) (e : OrderEntry) (i f : Nat) (bk : Back) (w : Which), MemoryOk s →
    ChoiceOverMany s → s.orders.runList = pre ++ e :: post → (∀ x ∈ pre, GoesPast s x) → NextIs s e i f →
    recordedHand s e.slot ≠ .withdraw → BackServes s e.slot f bk w → ChosenBack s e.slot f bk → s.lamp.mode = .idle →
    s.feeder.position ≠ 0 → s.feeder.drive = .stopped →
    Answers .shotChoice s fun t =>
      t.orders.choice = some { slot := e.slot, shot := i, back := bk, frames := f }
        ∧ t.orders.runList = pre ++ { e with sub := .atGate } :: post ∧ byteAt t (outcome e.slot + 1) = 2
        ∧ (∃ r, t.gate.shot = some r ∧ r.slot = e.slot ∧ r.shot = i ∧ r.calibrate = false ∧ r.back = bk ∧ r.which = w
            ∧ r.planned = f ∧ r.frames = [] ∧ r.tally = [] ∧ r.reshoots = 0 ∧ r.result = .none)
        ∧ (if s.feeder.position = trayPosition s e.slot i then t.gate.phase = .feedArrived ∧ t.feeder = s.feeder
          else
            t.gate.phase = .feedMoving ∧ t.feeder.drive = .moving
              ∧ t.feeder.target = some (trayPosition s e.slot i) ∧ t.feeder.position = s.feeder.position
              ∧ t.gate.moveTimer
                  = some (20 * (200 + 50 * distance s.feeder.position (trayPosition s e.slot i))))
        ∧ KeepsBytes s t (fun a => a = outcome e.slot + 1)
        ∧ t = { s with mem := t.mem, orders := t.orders, gate := t.gate, feeder := t.feeder })
  ∧ (∀ s : State, ChoiceOverMany s → (∀ x ∈ s.orders.runList, GoesPast s x) → exec .shotChoice s = .next s)
  ∧ ∀ (s : State) (pre post : List OrderEntry) (e : OrderEntry), MemoryOk s → CalibrateIsFirst s pre post e →
    s.lamp.mode = .idle → s.feeder.drive = .stopped →
    Answers .shotChoice s fun t =>
      t.orders = { s.orders with runList := pre ++ { e with sub := .atGate, started := true } :: post }
        ∧ byteAt t (outcome e.slot + 1) = 2
        ∧ (∃ r, t.gate.shot = some r ∧ r.slot = e.slot ∧ r.shot = 0 ∧ r.calibrate = true ∧ r.frames = [])
        ∧ TrayGoesTo s t (trayPosition s e.slot 0) ∧ t.gate.rested = false
        ∧ KeepsBytes s t (fun a => a = outcome e.slot + 1 ∨ a = 0x5D08 ∧ s.feeder.position = 0)
        ∧ t = { s with mem := t.mem, orders := t.orders, gate := t.gate, feeder := t.feeder }

/-- A shot with no matching back, or with room on no matching roll that could hold it, waits for a roll (R33 case 4, R36): its order
is WAITING_ROLL, the roll wanted fields name its profile and frames, and ROLL_WANTED is set; the gate stays idle. -/
def Obligations.ShotWaitsForARoll : Prop :=
  ∀ (s : State) (e : OrderEntry) (i f : Nat), MemoryOk s → ChoiceOverOne s e → NextIs s e i f → 1 ≤ f → f ≤ 15 →
    (∀ bk : Back, backChoice s e.slot = 0 ∨ backChoice s e.slot = backCode bk →
      ∀ w, (s.back bk).live = some w → sheetProfile s ⟨bk, w⟩ ≠ orderProfile s e.slot
        ∨ f ≤ capacity s ⟨bk, w⟩ ∧ capacity s ⟨bk, w⟩ < framesUsed s ⟨bk, w⟩ + f) →
    Answers .shotChoice s fun t =>
      t.orders.runList = [{ e with sub := .waitingRoll }] ∧ byteAt t (outcome e.slot + 1) = 3
        ∧ reportByte t 0x10 = orderProfile s e.slot ∧ reportByte t 0x11 = f ∧ RaisesOnly .rollWanted s t
        ∧ t.gate = s.gate ∧ t.orders.choice = s.orders.choice
        ∧ KeepsBytes s t (fun a => a = outcome e.slot + 1 ∨ within 0x5D10 2 a)
        ∧ t = { s with mem := t.mem, orders := t.orders, control := t.control }

namespace Sys2Proof.Claims

/-- The shot exceeds the roll (R33 case 3): some back matches, and f is above the capacity of every matching back. -/
abbrev Exceeds (s : State) (n : Slot) (f : Nat) : Prop :=
  (∃ bk w, Matches s n bk w) ∧ ∀ bk w, Matches s n bk w → capacity s ⟨bk, w⟩ < f

/-- What f frame positions of the order cost (R27). -/
abbrev framesCost (s : State) (n : Slot) (f : Nat) : Nat := f * (framePrice s (orderProfile s n) + labelPrice s)

/-- Shot i of slot n is written EXCEEDS_ROLL: every other field of its outcome is 0 but TRIM_CLAMPED, and shots done rises by one
(R35). -/
abbrev ExceedsWritten (s t : State) (n : Slot) (i : Nat) : Prop :=
  shotCode t n i = 4 ∧ (∀ a, within (shotOutcome n i + 1) 13 a → Memory.read t.mem a = 0)
    ∧ byteAt t (shotOutcome n i + 0x0E) = byteAt s (shotOutcome n i + 0x0E) / 8 % 2 * 8
    ∧ byteAt t (shotOutcome n i + 0x0F) = 0
    ∧ wordAt t (outcome n + 4) = wordAt s (outcome n + 4) + 1

/-- The released amount leaves the order's remaining commitment and its account's committed (R177). -/
abbrev Released (s t : State) (n : Slot) (x : Nat) : Prop :=
  remaining t n = remaining s n - x ∧ committed t (accountIndex s n) = committed s (accountIndex s n) - x

/-- The order's account exists, its amounts hold x, and its counts have room. -/
abbrev Holds (s : State) (n : Slot) (x : Nat) : Prop :=
  accountIndex s n ≤ 63 ∧ x ≤ remaining s n ∧ x ≤ committed s (accountIndex s n) ∧ wordAt s (outcome n + 4) < 65535

/-- The order of slot n has another PENDING shot than shot i. -/
abbrev AnotherPending (s : State) (n : Slot) (i : Nat) : Prop :=
  ∃ j, j < shotCount s n ∧ j < 24 ∧ j ≠ i ∧ shotCode s n j = 0

/-- A waiting order that a sheet going LIVE calls back (R37). -/
abbrev calledBack (s : State) (sh : Sheet) (x : OrderEntry) : Bool :=
  decide (x.sub = .waitingRoll) && decide (orderProfile s x.slot = sheetProfile s sh)
    && (decide (backChoice s x.slot = 0) || decide (backChoice s x.slot = backCode sh.back))

end Sys2Proof.Claims

/-- A shot larger than every matching roll is written EXCEEDS_ROLL at a choice, its commitment is released, and the order's next PENDING shot
is tested at once: it is served when a back can take it, and with no shot left the order is FINISHING while labels are outstanding and
completes otherwise (R33, R35). A short roll that cuts a capacity below a waiting order's next shot has the same effect, and one that does
not leaves the order waiting; a sheet that goes LIVE returns the waiting orders that it can serve to WAITING_RUN (R37). -/
def Obligations.ShotsExceedTheRollAndOrdersReturn : Prop :=
  (∀ (s : State) (e : OrderEntry) (i f : Nat), MemoryOk s → ChoiceOverOne s e → NextIs s e i f → Exceeds s e.slot f →
    e.rush = false → Holds s e.slot (framesCost s e.slot f) →
    (¬ AnotherPending s e.slot i → e.outstanding = 0 →
      Answers .shotChoice s fun t =>
        ExceedsWritten s t e.slot i ∧ recordedHand t e.slot = .done ∧ handFound t e.slot = 3
          ∧ byteAt t (outcome e.slot) = (if e.withdrawn = true then 3 else 2) ∧ byteAt t (outcome e.slot + 1) = 0
          ∧ remaining t e.slot = 0 ∧ charged t e.slot = charged s e.slot
          ∧ committed t (accountIndex s e.slot) = committed s (accountIndex s e.slot) - remaining s e.slot
          ∧ t.orders.runList = [] ∧ RaisesOnly .orderDone s t ∧ t.gate = s.gate
          ∧ t = { s with mem := t.mem, orders := t.orders, control := t.control })
    ∧ (¬ AnotherPending s e.slot i → 1 ≤ e.outstanding →
      Answers .shotChoice s fun t =>
        ExceedsWritten s t e.slot i ∧ Released s t e.slot (framesCost s e.slot f)
          ∧ t.orders.runList = [{ e with sub := .finishing }] ∧ byteAt t (outcome e.slot + 1) = 4
          ∧ KeepsBytes s t (fun a => within (shotOutcome e.slot i) 16 a ∨ a = outcome e.slot + 1
              ∨ within (outcome e.slot + 4) 2 a ∨ within (outcome e.slot + 0x18) 4 a
              ∨ within (accountBase (accountIndex s e.slot) + 0x14) 4 a ∨ within 0x5D10 2 a)
          ∧ t = { s with mem := t.mem, orders := t.orders })
    ∧ (∀ j g bk w, i < j → j < 24 → j < shotCount s e.slot → shotCode s e.slot j = 0 →
        (∀ m, i < m → m < j → shotCode s e.slot m ≠ 0) → g = bracketCount s e.slot j * copyCount s e.slot j →
        BackServes s e.slot g bk w → ChosenBack s e.slot g bk → s.lamp.mode = .idle → s.feeder.position ≠ 0 →
        s.feeder.drive = .stopped →
      Answers .shotChoice s fun t =>
        ExceedsWritten s t e.slot i ∧ Released s t e.slot (framesCost s e.slot f)
          ∧ t.orders.choice = some { slot := e.slot, shot := j, back := bk, frames := g }
          ∧ t.orders.runList = [{ e with sub := .atGate }] ∧ byteAt t (outcome e.slot + 1) = 2 ∧ KeepsNotice s t))
  ∧ (∀ (s : State) (bk : Back) (w : Which) (k : Nat) (e : OrderEntry) (i : Nat), MemoryOk s →
      (s.back bk).state = .winding → (s.back bk).motor.stallTimer ≠ none → (s.back bk).live = some w →
      (s.back bk).gateFrame = k → k ≤ 40 → capacity s ⟨bk, w⟩ ≤ k + 2 → s.gate.shot = none →
      s.orders.runList = [e] → e.sub = .waitingRoll → e.rush = false → e.outstanding = 0 →
      Matches s e.slot bk w → (∀ v, ¬ Matches s e.slot (otherBack bk) v) → nextShot s e.slot = some i →
      Holds s e.slot (framesCost s e.slot (bracketCount s e.slot i * copyCount s e.slot i)) →
      (bracketCount s e.slot i * copyCount s e.slot i ≤ k →
        Answers (.stallTimeout bk) s fun t =>
          t.orders = s.orders ∧ capacity t ⟨bk, w⟩ = k
            ∧ (∀ n a, within (slotBase n) 0x400 a → Memory.read t.mem a = Memory.read s.mem a) ∧ KeepsNotice s t)
      ∧ (k < bracketCount s e.slot i * copyCount s e.slot i → AnotherPending s e.slot i →
        Answers (.stallTimeout bk) s fun t =>
          ExceedsWritten s t e.slot i
            ∧ Released s t e.slot (framesCost s e.slot (bracketCount s e.slot i * copyCount s e.slot i))
            ∧ capacity t ⟨bk, w⟩ = k ∧ t.orders.runList = [{ e with sub := .waitingRun }]
            ∧ byteAt t (outcome e.slot + 1) = 1 ∧ reportByte t 0x10 = 0 ∧ reportByte t 0x11 = 0 ∧ KeepsNotice s t))
  ∧ (∀ (s : State) (sh : Sheet), MemoryOk s → PreparedArrives s sh → sheetProfile s sh ≤ 7 →
      byteAt s (profileBase (sheetProfile s sh)) ≠ 0 → (s.orders.runList.map OrderEntry.slot).Nodup →
    Answers (.sheetMarkTake sh) s fun t =>
      t.orders = { s.orders with
          runList := s.orders.runList.map fun x => if calledBack s sh x then { x with sub := .waitingRun } else x }
        ∧ (∀ x ∈ s.orders.runList, calledBack s sh x = true → byteAt t (outcome x.slot + 1) = 1)
        ∧ ((∀ x ∈ s.orders.runList, x.sub = .waitingRoll → calledBack s sh x = true) →
            reportByte t 0x10 = 0 ∧ reportByte t 0x11 = 0))

/-- A REWIND task at a choice (R32, R88): a back in READY, ROLL_END, STALE, JAMMED or ORPHAN_FILM with its door closed enters
REWINDING with its gate frame and the state it left as its origin, and with its door open, as after a door opening, it is JAMMED again with
BACK_FAULT and the task ends FAILED_JAM (R44, R88); a WINDING or LOADING back is passed over; any other ends the task NO_FILM. -/
def Obligations.RewindTaskActsOnItsBack : Prop :=
  ∀ (s : State) (e : OrderEntry) (bk : Back), MemoryOk s → ChoiceOverOne s e → e.kind = .rewind → e.started = false →
    backChoice s e.slot = backCode bk →
    ((s.back bk).state ∈ [BackState.ready, .rollEnd, .stale, .jammed, .orphanFilm] →
        (s.back bk).levels.doorOpen = false →
      Answers .shotChoice s fun t =>
        (t.back bk).state = .rewinding ∧ (t.back bk).origin = .left (s.back bk).state
          ∧ (t.back bk).gateFrame = (s.back bk).gateFrame ∧ (t.back bk).live = (s.back bk).live
          ∧ t.orders.runList = [{ e with sub := .atGate, started := true }] ∧ byteAt t (outcome e.slot + 1) = 2
          ∧ reportByte t (backOffset bk) = 9 ∧ KeepsOther bk s t
          ∧ KeepsBytes s t (fun a => a = outcome e.slot + 1 ∨ a = 0x5D00 + backOffset bk)
          ∧ t = { s with mem := t.mem, orders := t.orders, backA := t.backA, backB := t.backB })
    ∧ ((s.back bk).state ∈ [BackState.ready, .rollEnd, .stale, .jammed, .orphanFilm] →
        (s.back bk).levels.doorOpen = true → (s.back bk).live = none →
      Answers .shotChoice s fun t =>
        (t.back bk).state = .jammed ∧ (t.back bk).motor.direction = .stopped ∧ (t.back bk).motor.start = .stopped
          ∧ (t.back bk).gateFrame = (s.back bk).gateFrame ∧ (t.back bk).live = none ∧ (t.back bk).origin = .none
          ∧ (t.back bk).levels = (s.back bk).levels ∧ flagSet t .backFault = true ∧ flagSeen t .backFault = false
          ∧ recordedHand t e.slot = .done ∧ handFound t e.slot = 3 ∧ byteAt t (outcome e.slot) = 9
          ∧ byteAt t (outcome e.slot + 1) = 0 ∧ t.orders.runList = [] ∧ flagSet t .orderDone = true
          ∧ reportByte t (backOffset bk) = 11 ∧ KeepsOther bk s t ∧ KeepsStartUp s t
          ∧ t.control.stand = s.control.stand ∧ t.control.cause = s.control.cause
          ∧ KeepsBytes s t (fun a => within (slotBase e.slot) 2 a ∨ within (outcome e.slot) 2 a
              ∨ a = 0x5D00 + backOffset bk ∨ within 0x5D10 2 a)
          ∧ t = { s with mem := t.mem, orders := t.orders, control := t.control, backA := t.backA, backB := t.backB })
    ∧ ((s.back bk).state ∈ [BackState.winding, .loading] → exec .shotChoice s = .next s)
    ∧ ((s.back bk).state ∈ [BackState.empty, .doorOpen, .awaitingSheet, .shutterOpen, .rewinding, .filmOut] →
      Answers .shotChoice s fun t =>
        recordedHand t e.slot = .done ∧ handFound t e.slot = 3 ∧ byteAt t (outcome e.slot) = 8
          ∧ byteAt t (outcome e.slot + 1) = 0 ∧ t.orders.runList = [] ∧ RaisesOnly .orderDone s t
          ∧ t = { s with mem := t.mem, orders := t.orders, control := t.control })

/-- A position pulse (R93) moves the position by one toward the target, writes it into the stand report, and stops the drive exactly
at the target; a sequencer that waits for the feeder then has its arrival. When the move timer expires (R52, R69) the feeder stops with its
position kept, and a running stand is held with FEEDER, with the shot record kept and nothing written to its outcome. From position 0 the
tray of a served shot, and of a shot resumed after a feed timeout, homes first (R50, R94); when the home switch closes the position is 1 and
the move goes on to its target, or ends there. -/
def Obligations.FeederCountsToItsTarget : Prop :=
  (∀ (s : State) (p q : Nat), MemoryOk s → s.feeder.drive = .moving → s.feeder.target = some q → s.feeder.position = p →
    1 ≤ p → p ≤ 80 → 1 ≤ q → q ≤ 80 → p ≠ q → s.lamp.mode = .idle → s.gate.phase = .feedMoving →
    s.control.stand = .running → (∀ r, s.gate.shot = some r → recordedHand s r.slot ≠ .withdraw) →
    Answers .feederPositionPulse s fun t =>
      t.feeder.position = (if p < q then p + 1 else p - 1) ∧ reportByte t 0x08 = t.feeder.position
        ∧ (t.feeder.drive = .stopped ↔ t.feeder.position = q)
        ∧ (t.feeder.position = q → t.gate.phase = .feedArrived ∧ t.gate.moveTimer = none)
        ∧ (t.feeder.position ≠ q → t.feeder.drive = .moving ∧ t.feeder.target = some q ∧ t.gate = s.gate)
        ∧ KeepsBytes s t (fun a => a = 0x5D08)
        ∧ t = { s with mem := t.mem, feeder := t.feeder, gate := t.gate })
  ∧ (∀ (s : State) (r : ShotRecord), MemoryOk s → s.gate.phase = .feedMoving → s.gate.moveTimer ≠ none → s.gate.shot = some r →
     recordedHand s r.slot ≠ .withdraw → s.control.stand = .running ∨ s.control.stand = .holdPending →
     Answers .feederMoveTimeout s fun t =>
       t.control.stand = .held ∧ t.control.cause = .feeder ∧ reportByte t 0x00 = 3 ∧ reportByte t 0x01 = 5
         ∧ RaisesOnly .standHeld s t ∧ t.feeder.drive = .stopped ∧ t.feeder.position = s.feeder.position
         ∧ t.gate.phase = .feedTimedOut ∧ t.gate.rested = true ∧ t.gate.shot = some r ∧ t.gate.moveTimer = none
         ∧ KeepsBytes s t (within 0x5D00 2)
         ∧ t = { s with mem := t.mem, control := t.control, feeder := t.feeder, gate := t.gate, exposure := t.exposure })
  ∧ (∀ (s : State) (pre post : List OrderEntry) (e : OrderEntry) (i f : Nat) (bk : Back) (w : Which), MemoryOk s →
    ChoiceOverMany s → s.orders.runList = pre ++ e :: post → (∀ x ∈ pre, GoesPast s x) → NextIs s e i f →
    recordedHand s e.slot ≠ .withdraw → BackServes s e.slot f bk w → ChosenBack s e.slot f bk → s.lamp.mode = .idle →
    s.feeder.position = 0 → s.feeder.drive = .stopped →
    Answers .shotChoice s fun t =>
      t.orders.choice = some { slot := e.slot, shot := i, back := bk, frames := f }
        ∧ t.orders.runList = pre ++ { e with sub := .atGate } :: post ∧ byteAt t (outcome e.slot + 1) = 2
        ∧ TrayGoesTo s t (trayPosition s e.slot i)
        ∧ KeepsBytes s t (fun a => a = outcome e.slot + 1 ∨ a = 0x5D08)
        ∧ t = { s with mem := t.mem, orders := t.orders, gate := t.gate, feeder := t.feeder })
  ∧ (∀ (s : State) (r : ShotRecord), MemoryOk s → RestsHeld s r → s.carriage.state ≠ .fault → s.gate.phase = .feedTimedOut →
     s.feeder.position = 0 →
     Answers .run s fun t =>
       RunsAgain s t ∧ TrayGoesTo s t (trayPosition s r.slot r.shot) ∧ t.gate.rested = false ∧ t.gate.shot = some r
         ∧ KeepsBytes s t (fun a => within 0x5D00 2 a ∨ a = 0x5D08)
         ∧ t = { s with mem := t.mem, control := t.control, gate := t.gate, feeder := t.feeder })
  ∧ (∀ (s : State) (q : Nat), MemoryOk s → s.control.startUp = .ended → s.feeder.drive = .homing → s.feeder.target = some q →
    s.lamp.mode = .idle → s.gate.phase = .feedMoving → s.control.stand = .running →
    (∀ r, s.gate.shot = some r → recordedHand s r.slot ≠ .withdraw) →
    Answers .feederHomeSwitch s fun t =>
      t.feeder.position = 1 ∧ reportByte t 0x08 = 1 ∧ t.feeder.home = true ∧ t.feeder.homingTimer = none
        ∧ (q = 1 → t.feeder.drive = .stopped ∧ t.gate.phase = .feedArrived ∧ t.gate.moveTimer = none)
        ∧ (q ≠ 1 → t.feeder.drive = .moving ∧ t.feeder.target = some q ∧ t.gate = s.gate)
        ∧ KeepsBytes s t (fun a => a = 0x5D08) ∧ t = { s with mem := t.mem, feeder := t.feeder, gate := t.gate })

namespace Sys2Proof.Claims

/-- The sequencer waits for the original-present test of this work, in a running stand. -/
abbrev TestDue (s : State) (r : ShotRecord) : Prop :=
  isLive s = true ∧ s.gate.phase = .feedArrived ∧ s.gate.shot = some r ∧ s.gate.rested = false
    ∧ s.control.stand = .running

end Sys2Proof.Claims

/-- The original-present test (R50, R43): an original for a shot, and none for a CALIBRATE task, begin METERING; an original under a
CALIBRATE task ends it NOT_CLEAR with DONE and ORDER_DONE, and the gate is idle. A shot whose tray position holds no original (R51): its
outcome is NO_ORIGINAL with every other field 0 but TRIM_CLAMPED, shots done rises by one, and f frame positions are released from the order
and from its account; with a further shot PENDING the order is WAITING_RUN, and the gate is idle. -/
def Obligations.OriginalTestGoesOnOrEndsTheWork : Prop :=
  (∀ (s : State) (r : ShotRecord) (present : Bool), MemoryOk s → TestDue s r →
    (present ≠ r.calibrate →
      Answers (.originalPresentTest present) s fun t =>
        t.gate = { s.gate with phase := .meterWait } ∧ t.originalPresent = present
          ∧ t = { s with originalPresent := present, gate := t.gate })
    ∧ (present = true → r.calibrate = true →
      Answers (.originalPresentTest present) s fun t =>
        recordedHand t r.slot = .done ∧ handFound t r.slot = 3 ∧ byteAt t (outcome r.slot) = 6
          ∧ byteAt t (outcome r.slot + 1) = 0 ∧ t.gate.phase = .idle ∧ t.gate.shot = none ∧ t.orders.choice = none
          ∧ t.orders.runList = s.orders.runList.filter (fun x => decide (x.slot ≠ r.slot))
          ∧ RaisesOnly .orderDone s t ∧ t.control.stand = .running
          ∧ KeepsBytes s t
              (fun a => within (slotBase r.slot) 2 a ∨ within (outcome r.slot) 2 a ∨ within 0x5D10 2 a)))
  ∧ ∀ (s : State) (r : ShotRecord) (e : OrderEntry) (x : Nat), MemoryOk s → TestDue s r → r.calibrate = false → r.shot < 24 →
    findOrder s r.slot = some e → recordedHand s r.slot = .taken → accountIndex s r.slot ≤ 63 → shotCount s r.slot ≤ 24 →
    (∃ j, j < shotCount s r.slot ∧ j ≠ r.shot ∧ shotCode s r.slot j = 0) →
    x = bracketCount s r.slot r.shot * copyCount s r.slot r.shot * (framePrice s (orderProfile s r.slot) + labelPrice s) →
    x ≤ remaining s r.slot → x ≤ committed s (accountIndex s r.slot) → wordAt s (outcome r.slot + 4) < 24 →
    Answers (.originalPresentTest false) s fun t =>
      shotCode t r.slot r.shot = 3
        ∧ byteAt t (shotOutcome r.slot r.shot + 0x0E) = byteAt s (shotOutcome r.slot r.shot + 0x0E) / 8 % 2 * 8
        ∧ (∀ a, within (shotOutcome r.slot r.shot + 1) 13 a → Memory.read t.mem a = 0)
        ∧ wordAt t (outcome r.slot + 4) = wordAt s (outcome r.slot + 4) + 1
        ∧ remaining t r.slot = remaining s r.slot - x
        ∧ committed t (accountIndex s r.slot) = committed s (accountIndex s r.slot) - x
        ∧ byteAt t (outcome r.slot + 1) = 1 ∧ t.gate.phase = .idle ∧ t.gate.shot = none ∧ t.orders.choice = none
        ∧ KeepsNotice s t ∧ t.exposure.holder = none
        ∧ KeepsBytes s t (fun a => within (shotOutcome r.slot r.shot) 16 a ∨ a = outcome r.slot + 1
            ∨ within (outcome r.slot + 4) 2 a ∨ within (outcome r.slot + 0x18) 4 a
            ∨ within (accountBase (accountIndex s r.slot) + 0x14) 4 a ∨ within 0x5D10 2 a)

/-! ### Metering (R53, R54, R114 to R131, R137 to R139) -/

namespace Sys2Proof.Claims

/-- No conversion is in progress, and neither monitor's request waits. -/
abbrev ConverterFree (s : State) : Prop :=
  s.converter.converting = none ∧ s.converter.supply = false ∧ s.converter.lamp = false

/-- A conversion of the metering round is in progress, and neither monitor's request waits. -/
abbrev RoundAlone (s : State) : Prop :=
  s.converter.converting = some .metering ∧ s.converter.supply = false ∧ s.converter.lamp = false

/-- The supply monitor asks for a conversion at this tick: start-up has ended, and 1 ms has passed since it last asked (R114). -/
abbrev SupplyAsks (s : State) : Prop := started s = true ∧ 20 ≤ s.converter.sinceSupply + 1

/-- The lamp sense asks for a conversion at this tick: a whole millisecond of light of an EXPOSE pulse ends (R114, R146). -/
abbrev LampAsks (s : State) : Prop :=
  s.lamp.mode = .exposeOn
    ∧ ∃ p, s.lamp.active = some p ∧ 0 < s.lamp.counter ∧ (p.ticks + 1 - s.lamp.counter) % 20 = 0

/-- A free converter takes the supply request first, then the lamp request, then the next conversion of a metering round, and is idle
when none waits (R114); `supply` and `lamp` say which monitors' requests wait. -/
abbrev TakesFirst (supply lamp : Prop) (waiting : Nat) (c : Converter) : Prop :=
  (supply → c.converting = some .supply ∧ c.supply = false ∧ (c.lamp = true ↔ lamp))
    ∧ (¬ supply → lamp → c.converting = some .lamp ∧ c.supply = false ∧ c.lamp = false)
    ∧ (¬ supply → ¬ lamp → c.converting = (if 0 < waiting then some .metering else none) ∧ c.supply = false ∧ c.lamp = false)

/-- The conversion in progress has ended and the converter has taken the next request. -/
abbrev ConversionEnds (s t : State) : Prop :=
  TakesFirst (s.converter.supply = true) (s.converter.lamp = true) t.exposure.waiting t.converter
    ∧ t.converter.sinceSupply = s.converter.sinceSupply

/-- The supply monitor's conversion can end: it is in progress, or no request of it waits. -/
abbrev SupplyMayEnd (s : State) : Prop := s.converter.converting = some .supply ∨ s.converter.supply = false

/-- The lamp sense's conversion can end: it is in progress, or no request of it waits. -/
abbrev LampMayEnd (s : State) : Prop := s.converter.converting = some .lamp ∨ s.converter.lamp = false

end Sys2Proof.Claims

/-- The one converter (R114, R146). With no command waiting a tick brings the supply monitor's request every 1 ms from the end of start-up on
and the lamp sense's request at each millisecond of an EXPOSE pulse; a conversion in progress is never interrupted and a request waits for
its end; and whenever the converter is free, or becomes so by the end of a conversion, it takes the supply request first, then the lamp
request, then the next conversion of a metering round. The end of a conversion whose request still waits for another's changes nothing.
That a tick is what a step does with no command waiting is the model's choice (log 2), and so is that a conversion not asked for at a tick
is taken as it comes (log 21). -/
def Obligations.ConverterServesByPriority : Prop :=
  (∀ s : State, s.pending = [] → ∃ t, step s = .next t
    ∧ t.converter.sinceSupply
        = (if started s = true then (if 20 ≤ s.converter.sinceSupply + 1 then 0 else s.converter.sinceSupply + 1)
           else s.converter.sinceSupply)
    ∧ (s.converter.converting ≠ none → t.converter.converting = s.converter.converting
        ∧ (t.converter.supply = true ↔ s.converter.supply = true ∨ SupplyAsks s)
        ∧ (t.converter.lamp = true ↔ s.converter.lamp = true ∨ LampAsks s))
    ∧ (s.converter.converting = none →
        TakesFirst (s.converter.supply = true ∨ SupplyAsks s) (s.converter.lamp = true ∨ LampAsks s) s.exposure.waiting
          t.converter))
  ∧ (∀ (s : State) (code : AdcCode),
    (s.converter.converting = some .supply → started s = true →
        Answers (.supplySample code) s fun t => ConversionEnds s t)
      ∧ (s.converter.converting = some .lamp → Answers (.lampSenseSample code) s fun t => ConversionEnds s t)
      ∧ (s.converter.converting = some .metering → Answers (.meteringConversion code) s fun t => ConversionEnds s t)
      ∧ (s.converter.supply = true → s.converter.converting ≠ some .supply → exec (.supplySample code) s = .next s)
      ∧ (s.converter.lamp = true → s.converter.converting ≠ some .lamp → exec (.lampSenseSample code) s = .next s)
      ∧ (∀ q, 0 < s.exposure.waiting → s.converter.converting = some q → q ≠ .metering →
          exec (.meteringConversion code) s = .next s))

/-- A scan starts when the metering wait's conditions hold at once (R53, R116): every sum and both round counts are 0, the scan is DARK,
and its job is the work at the gate. A round is three conversions, red, green and blue in that order; each adds its code to its channel's
sum of the running phase, and the third raises that phase's round count (R114, R116, R117). That rounds and conversions come as commands
of their own, at no fixed time, is the model's choice (logs 3 and 21). -/
def Obligations.ScanStartsAndAddsUpItsRounds : Prop :=
  (∀ (s : State) (r : ShotRecord), s.gate.phase = .meterWait → s.gate.shot = some r → s.gate.rested = false →
     s.control.stand = .running → s.supply.sag = false → s.backA.motor.direction = .stopped →
     s.backB.motor.direction = .stopped → s.feeder.drive = .stopped → s.carriage.state ≠ .homing →
     s.carriage.state ≠ .shifting → s.exposure.scan = .idle →
     Answers .meteringScanStart s fun t =>
       t.exposure = { scan := .dark, job := if r.calibrate then .calibrate else .copy r.slot r.shot, dark := ⟨0, 0, 0⟩,
                      lit := ⟨0, 0, 0⟩, darkRounds := 0, litRounds := 0, waiting := 0, holder := s.exposure.holder }
         ∧ t = { s with exposure := t.exposure, gate := { s.gate with phase := .meterScan } })
  ∧ ((∀ s : State, s.exposure.scan = .dark → s.exposure.waiting = 0 → s.exposure.darkRounds < 4 →
     Answers .darkRound s fun t =>
       t = { s with exposure := { s.exposure with waiting := 3 }, converter := t.converter }
         ∧ (ConverterFree s → t.converter = { s.converter with converting := some .metering }))
   ∧ (∀ s : State, s.exposure.scan = .lit → s.lamp.mode = .meterOn → s.exposure.waiting = 0 → s.exposure.litRounds < 4 →
     Answers .litRound s fun t =>
       t = { s with exposure := { s.exposure with waiting := 3 }, converter := t.converter }
         ∧ (ConverterFree s → t.converter = { s.converter with converting := some .metering }))
   ∧ (∀ (s : State) (c1 c2 c3 : AdcCode), s.exposure.scan = .dark → s.exposure.waiting = 3 →
     RoundAlone s →
     ∃ t1 t2 t3, exec (.meteringConversion c1) s = .next t1 ∧ exec (.meteringConversion c2) t1 = .next t2
       ∧ exec (.meteringConversion c3) t2 = .next t3
       ∧ t1.exposure.darkRounds = s.exposure.darkRounds ∧ t2.exposure.darkRounds = s.exposure.darkRounds
       ∧ t3 = { s with exposure := { s.exposure with
           dark := ⟨s.exposure.dark.red + c1.toNat, s.exposure.dark.green + c2.toNat, s.exposure.dark.blue + c3.toNat⟩
           darkRounds := s.exposure.darkRounds + 1, waiting := 0 }
                       converter := { s.converter with converting := none } })
   ∧ (∀ (s : State) (c1 c2 c3 : AdcCode), s.exposure.scan = .lit → s.exposure.waiting = 3 →
     RoundAlone s →
     ∃ t1 t2 t3, exec (.meteringConversion c1) s = .next t1 ∧ exec (.meteringConversion c2) t1 = .next t2
       ∧ exec (.meteringConversion c3) t2 = .next t3
       ∧ t1.exposure.litRounds = s.exposure.litRounds ∧ t2.exposure.litRounds = s.exposure.litRounds
       ∧ t3 = { s with exposure := { s.exposure with
           lit := ⟨s.exposure.lit.red + c1.toNat, s.exposure.lit.green + c2.toNat, s.exposure.lit.blue + c3.toNat⟩
           litRounds := s.exposure.litRounds + 1, waiting := 0 }
                       converter := { s.converter with converting := none } }))

namespace Sys2Proof.Claims

/-- Four dark rounds have ended in the scan of the work at the gate. -/
abbrev MeterPulseDue (s : State) : Prop :=
  s.exposure.scan = .dark ∧ s.exposure.waiting = 0 ∧ s.exposure.darkRounds = 4

/-- Nothing on the stand moves. -/
abbrev NothingMoves (s : State) : Prop :=
  s.backA.motor.direction = .stopped ∧ s.backB.motor.direction = .stopped ∧ s.feeder.drive = .stopped
    ∧ s.carriage.state ≠ .homing ∧ s.carriage.state ≠ .shifting

end Sys2Proof.Claims

/-- The METER pulse (R117, R119, R137, R138): with nothing moving and the lid closed it is FULL for 400 ticks and the scan is LIT;
refused by a moving stand or an open lid, it leaves the lamp off, the scan is abandoned with its sums discarded, and the sequencer
is back at its metering wait. -/
def Obligations.MeterPulseStartsOrIsRefused : Prop :=
  ∀ s : State, MeterPulseDue s → s.lamp.mode = .idle →
    (NothingMoves s → s.lidOpen = false →
      Answers .meterPulseRequest s fun t =>
        t = { s with
          lamp := { s.lamp with mode := .meterOn, counter := 400, output := .full }
          exposure := { s.exposure with scan := .lit } })
    ∧ (∀ r, s.gate.phase = .meterScan → s.gate.shot = some r → recordedHand s r.slot ≠ .withdraw →
        s.control.stand = .running → ¬ NothingMoves s ∨ s.lidOpen = true →
      Answers .meterPulseRequest s fun t =>
        t.exposure = { s.exposure with
            scan := .idle, job := .none, dark := ⟨0, 0, 0⟩, lit := ⟨0, 0, 0⟩, darkRounds := 0, litRounds := 0, waiting := 0 }
          ∧ t = { s with exposure := t.exposure, gate := { s.gate with phase := .meterWait } })

/-- The level of a code (R120): with p the position of its leading one bit and m the four bits after it, the level is 12 × p plus the
table's value for m; it lies in 0..143 and, for the codes of one p, in 12p..12p + 11; and a doubling of the code raises it by exactly 12,
and it never falls as the code rises. Every reading is at least 1 (R118), so a level is taken of no code 0. -/
def Obligations.LevelsAreLogarithms : Prop :=
  (∀ c p : Nat, 1 ≤ c → c ≤ 4095 → 2 ^ p ≤ c → c < 2 ^ (p + 1) →
    p ≤ 11 ∧ 16 ≤ c * 16 / 2 ^ p ∧ c * 16 / 2 ^ p - 16 ≤ 15
      ∧ level c = 12 * p + [0, 1, 2, 3, 4, 5, 6, 6, 7, 8, 8, 9, 10, 10, 11, 11].getD (c * 16 / 2 ^ p - 16) 0
      ∧ 12 * p ≤ level c ∧ level c ≤ 12 * p + 11 ∧ level c ≤ 143)
  ∧ (∀ c, 1 ≤ c → c ≤ 2047 → level (2 * c) = level c + 12)
  ∧ (∀ c d, 1 ≤ c → c ≤ d → d ≤ 4095 → level c ≤ level d)
  ∧ (∀ lit dark : Nat, 1 ≤ reading lit dark ∧ (dark / 4 < lit / 4 → reading lit dark = lit / 4 - dark / 4))
  ∧ [1, 2, 3, 255, 256, 600, 820, 1000, 2048, 3900, 4095].map level = [0, 12, 19, 95, 96, 110, 116, 119, 132, 143, 143]

/-- Densities and the effective density (R123, R124): each density is the open level less the level, and 0 when that is not above 0; it is
at most 143 with the open level, and a reading of 1, whose level is 0, gives the open level; De is Dg under GREEN, the largest of the three
under DENSEST, and under every other rule the rounded mean that weights green twice; and De of densities up to 143 is at most 143. -/
def Obligations.EffectiveDensityFollowsTheRule : Prop :=
  (∀ o l : Rgb,
    (densities o l).red = (if l.red < o.red then o.red - l.red else 0)
      ∧ (densities o l).green = (if l.green < o.green then o.green - l.green else 0)
      ∧ (densities o l).blue = (if l.blue < o.blue then o.blue - l.blue else 0)
      ∧ (o.red ≤ 143 → (densities o l).red ≤ 143) ∧ (o.green ≤ 143 → (densities o l).green ≤ 143)
      ∧ (o.blue ≤ 143 → (densities o l).blue ≤ 143))
  ∧ (level 1 = 0 ∧ ∀ o : Rgb, densities o (Rgb.map level ⟨1, 1, 1⟩) = o)
  ∧ ∀ (rule : Nat) (d : Rgb),
    (rule = 1 → effectiveDensity rule d = d.green)
      ∧ (rule = 2 → d.red ≤ effectiveDensity rule d ∧ d.green ≤ effectiveDensity rule d ∧ d.blue ≤ effectiveDensity rule d
          ∧ (effectiveDensity rule d = d.red ∨ effectiveDensity rule d = d.green ∨ effectiveDensity rule d = d.blue))
      ∧ (rule ≠ 1 → rule ≠ 2 → effectiveDensity rule d = (d.red + 2 * d.green + d.blue + 2) / 4)
      ∧ (d.red ≤ 143 → d.green ≤ 143 → d.blue ≤ 143 → effectiveDensity rule d ≤ 143)

/-- What every bracket position gets (R127 to R130). The step codes 0 to 4 are 2, 3, 4, 6 and 12 twelfths, and a bracket count of 1, 3 or
5 has the positions 0, −1 to +1 or −2 to +2. E is E0 plus position × step, 24 with the low clamp below 24 and 191 with the high clamp above
191; QUARTER is used exactly when low light is permitted and E is at most 59, and E' is then E + 24. With q and j the quotient and the
remainder of E' by 12 and M the table's value for j, the lamp ticks are the whole part of (M × 2^q + 128) / 256, raised to 16 when below; they
lie in 16..61824 and double from one stop to the next. -/
def Obligations.BracketPositionsAreClampedAndTimed : Prop :=
  (∀ (e0 : Int) (step : Nat) (lowLight : Bool) (p : Int),
    (e0 + p * step < 24 → (planPosition e0 step lowLight p).exposure = 24)
      ∧ (191 < e0 + p * step → (planPosition e0 step lowLight p).exposure = 191)
      ∧ (24 ≤ e0 + p * step → e0 + p * step ≤ 191 →
          ((planPosition e0 step lowLight p).exposure : Int) = e0 + p * step)
      ∧ ((planPosition e0 step lowLight p).low = true ↔ e0 + p * step < 24)
      ∧ ((planPosition e0 step lowLight p).high = true ↔ 191 < e0 + p * step)
      ∧ ((planPosition e0 step lowLight p).intensity = .quarter
          ↔ lowLight = true ∧ (planPosition e0 step lowLight p).exposure ≤ 59)
      ∧ (planPosition e0 step lowLight p).ticks
          = lampTicks ((planPosition e0 step lowLight p).exposure
              + if (planPosition e0 step lowLight p).intensity = .quarter then 24 else 0)
      ∧ 16 ≤ (planPosition e0 step lowLight p).ticks ∧ (planPosition e0 step lowLight p).ticks ≤ 61824
      ∧ (planPosition e0 step lowLight p).position = p)
  ∧ (∀ q j m : Nat, [256, 271, 287, 304, 323, 342, 362, 384, 406, 431, 456, 483][j]? = some m →
      lampTicks (12 * q + j) = max 16 ((m * 2 ^ q + 128) / 256))
  ∧ (∀ e, 96 ≤ e → e ≤ 179 → lampTicks (e + 12) = 2 * lampTicks e)
  ∧ [0, 1, 2, 3, 4].map bracketStep = [2, 3, 4, 6, 12]
  ∧ bracketPositions 1 = [0] ∧ bracketPositions 3 = [-1, 0, 1] ∧ bracketPositions 5 = [-2, -1, 0, 1, 2]

namespace Sys2Proof.Claims

/-- The METER pulse of this work's scan is on. -/
abbrev MeterPulseRuns (s : State) (r : ShotRecord) : Prop :=
  s.lamp.mode = .meterOn ∧ s.exposure.scan = .lit ∧ s.gate.shot = some r ∧ s.control.stand = .running

/-- Dr, Dg and Db of the shot's scan from the open levels of the calibration record (R118, R120, R122, R123). -/
abbrev ScanDensities (s : State) (d : Rgb) : Prop :=
  d.red = wordAt s 0x5C42 - level (reading s.exposure.lit.red s.exposure.dark.red)
    ∧ d.green = wordAt s 0x5C44 - level (reading s.exposure.lit.green s.exposure.dark.green)
    ∧ d.blue = wordAt s 0x5C46 - level (reading s.exposure.lit.blue s.exposure.dark.blue)

/-- E0 is the sum of the base of the order's profile, the whole part of (De × S + 8) / 16, the filter factor and the trim, with the slope
above 32 taken as 32, a filter factor above 48 as 48, and the trim held within −24..+24 (R125, R126). -/
abbrev BaseExposure (s : State) (r : ShotRecord) (de : Nat) (e0 : Int) : Prop :=
  e0 = (byteAt s (profileBase (orderProfile s r.slot) + 3) : Int)
    + (((de * min 32 (byteAt s (profileBase (orderProfile s r.slot) + 4)) + 8) / 16 : Nat) : Int)
    + ((min 48 (byteAt s (profileBase (orderProfile s r.slot) + 5)) : Nat) : Int)
    + max (-24) (min 24 (trimWritten s r.slot r.shot))

/-- What each bracket position of the shot gets from E0, in ascending order of position (R127 to R130). -/
abbrev plansOf (s : State) (r : ShotRecord) (e0 : Int) : List PositionPlan :=
  (bracketPositions (bracketCount s r.slot r.shot)).map
    (planPosition e0 (bracketStep (stepCode s r.slot r.shot))
      (decide (byteAt s (profileBase (orderProfile s r.slot) + 6) ≠ 0)))

/-- The lamp after a METER pulse. -/
abbrev LampIsDark (t : State) : Prop := t.lamp.mode = .idle ∧ t.lamp.output = .off ∧ t.lamp.active = none ∧ t.lamp.counter = 0

/-- The results of a COPY scan stand in the shot outcome with its marks, and the scan has ended with the lamp off (R53, R131). -/
abbrev MeterBytesWritten (s t : State) (r : ShotRecord) (d : Rgb) (de : Nat) (e0 : Int) : Prop :=
  LampIsDark t ∧ t.exposure.scan = .idle
    ∧ byteAt t (shotOutcome r.slot r.shot + 8) = d.red ∧ byteAt t (shotOutcome r.slot r.shot + 9) = d.green
    ∧ byteAt t (shotOutcome r.slot r.shot + 10) = d.blue ∧ byteAt t (shotOutcome r.slot r.shot + 11) = de
    ∧ ((wordAt t (shotOutcome r.slot r.shot + 12) : Int) - e0) % 65536 = 0
    ∧ (byteAt t (shotOutcome r.slot r.shot + 14) % 2 = 1 ↔ ∃ p ∈ plansOf s r e0, p.low = true)
    ∧ (byteAt t (shotOutcome r.slot r.shot + 14) / 2 % 2 = 1 ↔ ∃ p ∈ plansOf s r e0, p.high = true)
    ∧ (byteAt t (shotOutcome r.slot r.shot + 14) / 4 % 2 = 1 ↔ ∃ p ∈ plansOf s r e0, p.intensity = .quarter)
    ∧ byteAt t (shotOutcome r.slot r.shot + 14) / 8 = byteAt s (shotOutcome r.slot r.shot + 14) / 8

/-- The results of a COPY scan stand in the shot outcome and in the shot record (R53, R131). -/
abbrev MeterResultWritten (s t : State) (r : ShotRecord) (d : Rgb) (de : Nat) (e0 : Int) : Prop :=
  MeterBytesWritten s t r d de e0 ∧ t.gate.shot = some { r with plans := plansOf s r e0 }

/-- The METER pulse of a COPY scan ends: the scan is that of shot r with no withdrawal accepted, d its densities, de its effective density
and e0 its base exposure. -/
abbrev MeteringEnds (s : State) (r : ShotRecord) (d : Rgb) (de : Nat) (e0 : Int) : Prop :=
  s.lamp.mode = .meterOn ∧ s.exposure.scan = .lit ∧ s.gate.shot = some r ∧ r.calibrate = false ∧ r.shot < 24
    ∧ s.gate.phase = .meterScan ∧ s.gate.rested = false ∧ recordedHand s r.slot ≠ .withdraw
    ∧ ScanDensities s d ∧ d.red ≤ 143 ∧ d.green ≤ 143 ∧ d.blue ≤ 143
    ∧ de = effectiveDensity (byteAt s (profileBase (orderProfile s r.slot) + 2)) d ∧ BaseExposure s r de e0
    ∧ orderProfile s r.slot ≤ 7

end Sys2Proof.Claims

/-- The end of a CALIBRATE scan (R118, R121, R43): with every open level 96 or more the record takes the three readings, the three levels
and the valid mark, CALIBRATED is set, and the task ends COMPLETE; otherwise the record is as it was and the task ends FAILED_DIM; either
way the levels stand in Dr, Dg and Db of shot outcome 0, the lamp is off and the gate is idle. That the computation lies inside the step
is the model's choice (log 31). -/
def Obligations.CalibrationQualifiesOrIsDim : Prop :=
  ∀ (s : State) (r : ShotRecord) (l c : Rgb), MemoryOk s → MeterPulseRuns s r → r.calibrate = true →
    c = ⟨reading s.exposure.lit.red s.exposure.dark.red, reading s.exposure.lit.green s.exposure.dark.green,
         reading s.exposure.lit.blue s.exposure.dark.blue⟩ →
    l = ⟨level c.red, level c.green, level c.blue⟩ → c.red ≤ 4095 → c.green ≤ 4095 → c.blue ≤ 4095 →
    Answers .meterPulseEnd s fun t =>
      LampIsDark t ∧ t.exposure.scan = .idle ∧ t.gate.phase = .idle ∧ t.gate.shot = none
        ∧ byteAt t (shotOutcome r.slot 0 + 8) = l.red ∧ byteAt t (shotOutcome r.slot 0 + 9) = l.green
        ∧ byteAt t (shotOutcome r.slot 0 + 10) = l.blue
        ∧ recordedHand t r.slot = .done ∧ handFound t r.slot = 3 ∧ flagSet t .orderDone = true
        ∧ (if 96 ≤ l.red ∧ 96 ≤ l.green ∧ 96 ≤ l.blue then
            byteAt t (outcome r.slot) = 1 ∧ flagSet t .calibrated = true ∧ wordAt t 0x5C40 = 1
              ∧ wordAt t 0x5C42 = l.red ∧ wordAt t 0x5C44 = l.green ∧ wordAt t 0x5C46 = l.blue
              ∧ wordAt t 0x5C48 = c.red ∧ wordAt t 0x5C4A = c.green ∧ wordAt t 0x5C4C = c.blue
          else
            byteAt t (outcome r.slot) = 7 ∧ flagSet t .calibrated = flagSet s .calibrated
              ∧ ∀ a, within 0x5C40 0x20 a → Memory.read t.mem a = Memory.read s.mem a)
        ∧ KeepsBytes s t (fun a => within (slotBase r.slot) 2 a ∨ within (outcome r.slot) 2 a
            ∨ within (shotOutcome r.slot 0 + 8) 3 a ∨ within 0x5C40 14 a ∨ within 0x5D10 2 a)

/-- The end of a COPY scan with its back at the other line (R53, R55, R118, R122 to R131): the lamp is off; Dr, Dg, Db, De and E0 stand in
the shot outcome as the profile, the trim and the calibration give them, with the marks CLAMP_LOW, CLAMP_HIGH and LOW_LIGHT when any
position of the set clamped low, clamped high or runs at QUARTER, and TRIM_CLAMPED kept; the shot holds a plan for every bracket position;
and the carriage is commanded to the back's line under the 3 s shift timer. In HOLD_PENDING the sequencer rests at the end of METERING, HELD
with HOST (R66, R68). That the computation lies inside the step is the model's choice (log 31). -/
def Obligations.MeteringEndsAndTheCarriageShifts : Prop :=
  ∀ (s : State) (r : ShotRecord) (d : Rgb) (de : Nat) (e0 : Int), MemoryOk s → MeteringEnds s r d de e0 →
    (s.control.stand = .running → s.carriage.state = lineOf (otherBack r.back) →
      Answers .meterPulseEnd s fun t =>
        MeterResultWritten s t r d de e0 ∧ t.gate.phase = .shiftMoving ∧ t.gate.shiftTimer = some 60000
          ∧ t.carriage.state = .shifting ∧ t.carriage.target = r.back ∧ reportByte t 0x03 = 3
          ∧ KeepsNotice s t ∧ t.orders = s.orders
          ∧ KeepsBytes s t (fun a => within (shotOutcome r.slot r.shot + 8) 7 a ∨ a = 0x5D03))
    ∧ (s.control.stand = .holdPending →
      Answers .meterPulseEnd s fun t =>
        MeterResultWritten s t r d de e0 ∧ t.gate.phase = .meterEnd ∧ t.gate.rested = true
          ∧ t.control.stand = .held ∧ t.control.cause = .host ∧ RaisesOnly .standHeld s t ∧ t.carriage = s.carriage
          ∧ KeepsBytes s t (fun a => within (shotOutcome r.slot r.shot + 8) 7 a ∨ within 0x5D00 2 a))

/-! ### The carriage (R55, R91, R92) -/

namespace Sys2Proof.Claims

/-- The start-up of a part whose carriage still homes, in a stand STOPPED with the gate idle. -/
abbrev CarriageHomesAtStartUp (s : State) : Prop :=
  s.control.startUp = .homing ∧ s.carriage.state = .homing ∧ s.control.stand = .stopped ∧ s.gate.phase = .idle
    ∧ s.gate.shot = none ∧ s.labels.transmitter = []

/-- Start-up has ended, or goes on while the feeder still homes (R198). -/
abbrev StartUpAfterCarriage (s t : State) : Prop :=
  t.control.startUp = (if s.feeder.drive = .homing then .homing else .ended)
    ∧ ident t = (if s.feeder.drive = .homing then 0x1340 else 0x9340)
    ∧ t.labels.transmitter = (if s.feeder.drive = .homing then [] else [.inquire])
    ∧ t.control.stand = .stopped ∧ t.control.cause = s.control.cause

/-- The sequencer waits at its carriage wait, in a running stand, for a homing to end (R55). -/
abbrev WaitsForHoming (s : State) (r : ShotRecord) : Prop :=
  s.control.startUp = .ended ∧ s.carriage.state = .homing ∧ s.gate.phase = .shiftWait ∧ s.gate.rested = false
    ∧ s.gate.shot = some r ∧ s.control.stand = .running ∧ r.calibrate = false ∧ recordedHand s r.slot ≠ .withdraw
    ∧ s.lamp.mode = .idle

end Sys2Proof.Claims

/-- A line's end switch ends a homing at line A and a shift at its own line (R91); the other line's switch moves nothing. In HOLD_PENDING the
stand is then HELD with HOST and the sequencer rests at the end of SHIFTING (R55, R66, R68). The shift timer and the homing timer (R55, R91,
R92): the carriage enters FAULT, and a running stand is held with CARRIAGE; a stopped stand is left as it is. A homing that ends at LINE_A
lets a sequencer in its carriage wait go on, and a shot for back B is then shifted to its line (R55, R92). At start-up the homing ends at
LINE_A or in FAULT without a hold, and start-up ends unless the feeder still homes (R198). That a shift which ends in HELD rests at the
carriage wait is the model's reading (log 28). -/
def Obligations.CarriageMovesEndAtTheirLines : Prop :=
  (∀ (s : State), MemoryOk s → s.control.startUp = .ended →
    (s.carriage.state = .homing → s.gate.phase ≠ .shiftWait →
      Answers (.carriageEndSwitch .a) s fun t =>
        t.carriage = { s.carriage with state := .lineA, homingTimer := none, endA := true } ∧ reportByte t 0x03 = 1
          ∧ KeepsBytes s t (fun a => a = 0x5D03) ∧ t = { s with mem := t.mem, carriage := t.carriage })
    ∧ (∀ line, s.carriage.state = .shifting → s.carriage.target = line → s.gate.phase = .shiftMoving →
        s.control.stand = .held → (∀ r, s.gate.shot = some r → recordedHand s r.slot ≠ .withdraw) →
      Answers (.carriageEndSwitch line) s fun t =>
        t.carriage.state = lineOf line ∧ inLine t line = true ∧ reportByte t 0x03 = (lineOf line).code
          ∧ t.gate.phase = .shiftWait ∧ t.gate.shiftTimer = none ∧ KeepsBytes s t (fun a => a = 0x5D03))
    ∧ (∀ line, s.carriage.state = .shifting → s.carriage.target ≠ line →
      Answers (.carriageEndSwitch line) s fun t =>
        t.carriage.state = .shifting ∧ t = { s with carriage := t.carriage } ∧ t.carriage.target = s.carriage.target)
    ∧ (∀ (line : Back) (r : ShotRecord), s.carriage.state = .shifting → s.carriage.target = line →
        s.gate.phase = .shiftMoving → s.control.stand = .holdPending → s.gate.shot = some r →
        recordedHand s r.slot ≠ .withdraw →
      Answers (.carriageEndSwitch line) s fun t =>
        t.carriage.state = lineOf line ∧ reportByte t 0x03 = (lineOf line).code ∧ t.gate.phase = .shiftEnd
          ∧ t.gate.rested = true ∧ t.gate.shot = some r ∧ t.gate.shiftTimer = none ∧ t.control.stand = .held
          ∧ t.control.cause = .host ∧ RaisesOnly .standHeld s t
          ∧ KeepsBytes s t (fun a => within 0x5D00 2 a ∨ a = 0x5D03)))
  ∧ (∀ (s : State), MemoryOk s → s.control.startUp = .ended →
     (∀ r, s.gate.phase = .shiftMoving → s.gate.shiftTimer ≠ none → s.carriage.state = .shifting →
         s.control.stand = .running ∨ s.control.stand = .holdPending → s.gate.shot = some r →
         recordedHand s r.slot ≠ .withdraw →
       Answers .shiftTimeout s fun t =>
         t.carriage.state = .fault ∧ reportByte t 0x03 = 4 ∧ t.control.stand = .held ∧ t.control.cause = .carriage
           ∧ RaisesOnly .standHeld s t ∧ t.gate.phase = .shiftWait ∧ t.gate.rested = true ∧ t.gate.shot = some r
           ∧ t.gate.shiftTimer = none ∧ KeepsBytes s t (fun a => within 0x5D00 2 a ∨ a = 0x5D03))
     ∧ (s.carriage.state = .homing → s.carriage.homingTimer ≠ none → s.gate.shot = none → s.gate.phase = .idle →
         s.control.stand ≠ .stopped →
       Answers .homingTimeout s fun t =>
         t.carriage.state = .fault ∧ t.carriage.homingTimer = none ∧ reportByte t 0x03 = 4 ∧ t.control.stand = .held
           ∧ t.control.cause = .carriage ∧ RaisesOnly .standHeld s t
           ∧ t = { s with mem := t.mem, carriage := t.carriage, control := t.control })
     ∧ (s.carriage.state = .homing → s.carriage.homingTimer ≠ none → s.gate.shot = none → s.control.stand = .stopped →
       Answers .homingTimeout s fun t =>
         t.carriage.state = .fault ∧ KeepsNotice s t ∧ t.control = s.control
           ∧ t = { s with mem := t.mem, carriage := t.carriage }))
  ∧ (∀ (s : State) (r : ShotRecord), MemoryOk s → WaitsForHoming s r → r.back = .b →
    Answers (.carriageEndSwitch .a) s fun t =>
      t.carriage.state = .shifting ∧ t.carriage.target = .b ∧ t.carriage.homingTimer = none ∧ reportByte t 0x03 = 3
        ∧ t.gate = { s.gate with phase := .shiftMoving, shiftTimer := some 60000 }
        ∧ KeepsBytes s t (fun a => a = 0x5D03) ∧ t = { s with mem := t.mem, carriage := t.carriage, gate := t.gate })
  ∧ (∀ s : State, MemoryOk s → s.control.startUp = .ended → s.carriage.state = .homing →
      s.gate.phase = .shiftWait → s.gate.rested = true →
    Answers (.carriageEndSwitch .a) s fun t =>
      t.carriage = { s.carriage with state := .lineA, homingTimer := none, endA := true } ∧ reportByte t 0x03 = 1
        ∧ KeepsBytes s t (fun a => a = 0x5D03) ∧ t = { s with mem := t.mem, carriage := t.carriage })
  ∧ (∀ s : State, MemoryOk s → CarriageHomesAtStartUp s →
    (Answers (.carriageEndSwitch .a) s fun t =>
        t.carriage = { s.carriage with state := .lineA, homingTimer := none, endA := true } ∧ reportByte t 0x03 = 1
          ∧ StartUpAfterCarriage s t ∧ KeepsNotice s t ∧ KeepsBytes s t (fun a => a = 0x5D03 ∨ a = 0x5D09)
          ∧ t = { s with mem := t.mem, carriage := t.carriage, labels := t.labels, control := t.control })
    ∧ (s.carriage.homingTimer ≠ none →
      Answers .homingTimeout s fun t =>
        t.carriage = { s.carriage with state := .fault, homingTimer := none } ∧ reportByte t 0x03 = 4
          ∧ StartUpAfterCarriage s t ∧ KeepsNotice s t ∧ KeepsBytes s t (fun a => a = 0x5D03 ∨ a = 0x5D09)
          ∧ t = { s with mem := t.mem, carriage := t.carriage, labels := t.labels, control := t.control }))

/-! ### Reserving (R56, R57, R101, R103) -/

namespace Sys2Proof.Claims

/-- The carriage comes to the line of the shot's back, in a running stand, with no frame of the set reserved yet. -/
abbrev ShiftReachesItsLine (s : State) (r : ShotRecord) : Prop :=
  s.control.startUp = .ended ∧ s.carriage.state = .shifting ∧ s.carriage.target = r.back ∧ s.gate.phase = .shiftMoving
    ∧ s.gate.rested = false ∧ s.gate.shot = some r ∧ s.control.stand = .running ∧ r.calibrate = false ∧ r.frames = []
    ∧ r.shot < 24 ∧ recordedHand s r.slot ≠ .withdraw

/-- The pairs of bracket position and copy of the shot in reservation order: positions ascending, and for each the copies (R57). -/
abbrev pairsOf (s : State) (r : ShotRecord) : List (PositionPlan × Nat) :=
  r.plans.flatMap fun p => (List.range' 1 (copyCount s r.slot r.shot)).map fun c => (p, c)

/-- The plans of the shot are those of its bracket, its copies are those of its entry, and its set has at least one frame. -/
abbrev SetIsPlanned (s : State) (r : ShotRecord) : Prop :=
  (pairsOf s r).length = r.planned ∧ 1 ≤ r.planned ∧ copyCount s r.slot r.shot ≤ 3
    ∧ ∀ p ∈ r.plans, p.exposure ≤ 191 ∧ p.ticks ≤ 61824 ∧ -2 ≤ p.position ∧ p.position ≤ 2

/-- Frame k is RESERVED with the record of R57: order, shot, bracket position, copy, E, intensity and lamp ticks, no charge, no spoil cause,
no label and no sequence number. -/
abbrev ReservedAs (s t : State) (r : ShotRecord) (k : Nat) (p : PositionPlan) (copy : Nat) : Prop :=
  byteAt t (frameRecord ⟨r.back, r.which⟩ k) = 1 + 64 * copy
    ∧ byteAt t (frameRecord ⟨r.back, r.which⟩ k + 1) = r.slot.val + 128 * p.intensity.code
    ∧ frameShot t ⟨r.back, r.which⟩ k = r.shot ∧ framePosition t ⟨r.back, r.which⟩ k = p.position
    ∧ byteAt t (frameRecord ⟨r.back, r.which⟩ k + 3) = p.exposure
    ∧ wordAt t (frameRecord ⟨r.back, r.which⟩ k + 4) = orderNumber s r.slot
    ∧ wordAt t (frameRecord ⟨r.back, r.which⟩ k + 6) = p.ticks
    ∧ wordAt t (frameRecord ⟨r.back, r.which⟩ k + 8) = 0 ∧ wordAt t (frameRecord ⟨r.back, r.which⟩ k + 10) = 0
    ∧ frameSequence t ⟨r.back, r.which⟩ k = 0

end Sys2Proof.Claims

namespace Sys2Proof.Claims

/-- The set of shot r is reserved (R57) from the sheet as it stood, the frame loop begins, and with the first frame already at the gate of a
READY back the settle delay runs (R58); `also` names what else the step writes of common memory. -/
abbrev SetReserved (s t : State) (r : ShotRecord) (also : Nat → Prop) : Prop :=
  t.gate.phase = .frameWait ∧ t.gate.rested = false
    ∧ framesUsed t ⟨r.back, r.which⟩ = framesUsed s ⟨r.back, r.which⟩ + r.planned
    ∧ t.gate.shot = some { r with
        frames := (pairsOf s r).zipIdx.map fun x =>
          { frame := framesUsed s ⟨r.back, r.which⟩ + 1 + x.2, position := x.1.1.position, copy := x.1.2
            recorded := false } }
    ∧ (∀ j p c, (pairsOf s r)[j]? = some (p, c) →
        ReservedAs s t r (framesUsed s ⟨r.back, r.which⟩ + 1 + j) p c)
    ∧ byteAt t (shotOutcome r.slot r.shot + 1) = backCode r.back
    ∧ wordAt t (shotOutcome r.slot r.shot + 2) = rollSerial s ⟨r.back, r.which⟩
    ∧ byteAt t (shotOutcome r.slot r.shot + 4) = framesUsed s ⟨r.back, r.which⟩ + 1
    ∧ KeepsBytes s t (fun a => also a ∨ a = 0x5D00 + backOffset r.back ∨ a = sheetBase ⟨r.back, r.which⟩ + 6
        ∨ within (shotOutcome r.slot r.shot + 1) 4 a
        ∨ ∃ k, framesUsed s ⟨r.back, r.which⟩ < k ∧ k ≤ framesUsed s ⟨r.back, r.which⟩ + r.planned
            ∧ within (frameRecord ⟨r.back, r.which⟩ k) 16 a)
    ∧ KeepsOther r.back s t ∧ KeepsNotice s t ∧ t.orders = s.orders
    ∧ ((s.back r.back).state = .ready → (s.back r.back).gateFrame = framesUsed s ⟨r.back, r.which⟩ + 1 →
        t.gate.settleTimer = some ((s.back r.back).readyAt + 20 * settleDelay s - s.clock) ∧ t.back r.back = s.back r.back)

/-- In the step of a command RESERVING begins for shot r, and the set is reserved or the shot returned (R56, R57); P says what else the
step leaves. -/
abbrev Reserves (c : Instr) (s : State) (r : ShotRecord) (also : Nat → Prop) (P : State → Prop) : Prop :=
  (¬ CanTake s r → Answers c s fun t =>
      Returned s t r ∧ P t ∧ t.backA = s.backA ∧ t.backB = s.backB ∧ KeepsNotice s t
        ∧ KeepsBytes s t (fun a => a = outcome r.slot + 1 ∨ also a))
  ∧ (CanTake s r → SetIsPlanned s r → capacity s ⟨r.back, r.which⟩ ≤ 40 →
      Answers c s fun t => SetReserved s t r also ∧ P t)

/-- The sequencer rests, HELD, at a place from which a RUN goes on into RESERVING: after METERING or at the carriage wait with the back in
line, or after SHIFTING (R55, R70). -/
abbrev RestsBeforeReserving (s : State) (r : ShotRecord) : Prop :=
  RestsHeld s r ∧ r.calibrate = false ∧ r.frames = [] ∧ s.carriage.state ≠ .fault
    ∧ ((s.gate.phase = .meterEnd ∨ s.gate.phase = .shiftWait) ∧ inLine s r.back = true ∨ s.gate.phase = .shiftEnd)

end Sys2Proof.Claims

/-- SHIFTING ends at the back's line and RESERVING follows in the same step. When the back cannot take the shot (R56), the shot is returned:
nothing is reserved or released, its outcome stands, its order is WAITING_RUN and the gate is idle. When it can (R57), the set is reserved
from frames used + 1 upward, one frame for each pair of bracket position and copy in order; every record, frames used, and the back, the
roll serial and the first frame in the shot outcome are written, the frame loop begins, and with the first frame already at the gate of a
READY back the settle delay runs (R58). The same follows METERING that ends with the back already in line (R53, R55), a homing that ends at
line A while a shot for back A waits for the carriage (R92), and a RUN that goes on after METERING or from the carriage wait with the back in
line, or after SHIFTING (R70). That a sheet of the same place is the same LIVE sheet is the model's choice (log 36), and so is the settle
wait on the model's clock (log 35). -/
def Obligations.FrameSetIsReservedOrTheShotReturned : Prop :=
  (∀ (s : State) (r : ShotRecord), MemoryOk s → ShiftReachesItsLine s r →
    (¬ CanTake s r →
      Answers (.carriageEndSwitch r.back) s fun t =>
        Returned s t r ∧ t.carriage.state = lineOf r.back ∧ reportByte t 0x03 = (lineOf r.back).code
          ∧ KeepsBytes s t (fun a => a = outcome r.slot + 1 ∨ a = 0x5D03)
          ∧ t = { s with mem := t.mem, carriage := t.carriage, gate := t.gate, orders := t.orders, exposure := t.exposure })
    ∧ (CanTake s r → SetIsPlanned s r → capacity s ⟨r.back, r.which⟩ ≤ 40 →
      Answers (.carriageEndSwitch r.back) s fun t =>
        SetReserved s t r (fun a => a = 0x5D03) ∧ t.carriage.state = lineOf r.back ∧ t.gate.shiftTimer = none
          ∧ ((s.back r.back).state = .ready → (s.back r.back).gateFrame = framesUsed s ⟨r.back, r.which⟩ + 1 →
              t = { s with mem := t.mem, carriage := t.carriage, gate := t.gate })))
  ∧ (∀ (s : State) (r : ShotRecord) (d : Rgb) (de : Nat) (e0 : Int), MemoryOk s → MeteringEnds s r d de e0 →
      s.control.stand = .running → inLine s r.back = true → r.frames = [] →
    Reserves .meterPulseEnd s { r with plans := plansOf s r e0 } (within (shotOutcome r.slot r.shot + 8) 7) fun t =>
      MeterBytesWritten s t r d de e0 ∧ t.carriage = s.carriage)
  ∧ (∀ (s : State) (r : ShotRecord), MemoryOk s → WaitsForHoming s r → r.back = .a → r.frames = [] → r.shot < 24 →
    Reserves (.carriageEndSwitch .a) s r (fun a => a = 0x5D03) fun t =>
      t.carriage = { s.carriage with state := .lineA, homingTimer := none, endA := true } ∧ reportByte t 0x03 = 1)
  ∧ ∀ (s : State) (r : ShotRecord), MemoryOk s → RestsBeforeReserving s r →
    Reserves .run s r (within 0x5D00 2) fun t => RunsAgain s t ∧ t.carriage = s.carriage

/-! ### A frame's passage (R58 to R63, R81, R86, R87, R106, R132 to R134, R140 to R142, R146 to R148) -/

namespace Sys2Proof.Claims

/-- The work at the gate is a shot on this back in a running stand, and its next frame is f. -/
abbrev ExposesNext (s : State) (r : ShotRecord) (f : SetFrame) : Prop :=
  s.gate.shot = some r ∧ s.gate.rested = false ∧ s.control.stand = .running ∧ r.calibrate = false ∧ nextFrame r = some f

end Sys2Proof.Claims

/-- At the end of the settle delay, with the back READY at the next frame, the frame is armed (R58, R59, R132): the holder takes the lamp
ticks and the intensity of the frame's bracket position. The shutter is commanded open only with the supply out of SAG and nothing moving
(R59, R86): the pending result is none and the 80 ms timer runs; in SAG or with something moving the command waits and nothing changes.
That a delay of 0 ends by the same command is the model's choice (log 22). -/
def Obligations.FrameIsArmedAndTheShutterOpens : Prop :=
  (∀ (s : State) (r : ShotRecord) (f : SetFrame) (p : PositionPlan), ExposesNext s r f → s.gate.phase = .frameWait →
     s.gate.settleTimer ≠ none → (s.back r.back).state = .ready → (s.back r.back).gateFrame = f.frame →
     planFor r f.position = some p →
     Answers .settleDelayEnd s fun t =>
       t = { s with
         exposure := { s.exposure with holder := some { ticks := p.ticks, intensity := p.intensity } }
         gate := { s.gate with phase := .armed, settleTimer := none } })
  ∧ (∀ (s : State) (r : ShotRecord) (f : SetFrame), ExposesNext s r f → s.gate.phase = .armed →
     (s.back r.back).state = .ready →
     (s.supply.sag = false → NothingMoves s →
       Answers .shutterOpenCommand s fun t =>
         (t.back r.back).shutter = { command := .open, timer := some 1600, sinceReady := true, outstanding := true }
           ∧ (t.back r.back).state = .ready ∧ (t.back r.back).motor = (s.back r.back).motor
           ∧ (t.back r.back).gateFrame = (s.back r.back).gateFrame ∧ KeepsOther r.back s t
           ∧ t.gate = { s.gate with phase := .passage, shot := some { r with result := .none } }
           ∧ t = { s with gate := t.gate, backA := t.backA, backB := t.backB })
     ∧ (s.supply.sag = true ∨ ¬ NothingMoves s → exec .shutterOpenCommand s = .next s))

namespace Sys2Proof.Claims

/-- The back waits for its open switch, in line, in the passage of shot r, with the lamp idle. -/
abbrev ShutterOpening (s : State) (bk : Back) (r : ShotRecord) : Prop :=
  isLive s = true ∧ (s.back bk).state = .ready ∧ (s.back bk).shutter.command = .open
    ∧ (s.back bk).shutter.timer ≠ none ∧ inLine s bk = true ∧ s.lamp.mode = .idle
    ∧ s.gate.phase = .passage ∧ s.gate.shot = some r ∧ r.back = bk

/-- The shutter is commanded closed with its 80 ms timer. -/
abbrev ClosesNow (u : BackUnit) : Prop := u.shutter.command = .close ∧ u.shutter.timer = some 1600

end Sys2Proof.Claims

namespace Sys2Proof.Claims

/-- The order of shot r has no withdrawal and another shot PENDING, and the frames of the set are on the sheet. -/
abbrev OrderGoesOn (s : State) (r : ShotRecord) : Prop :=
  recordedHand s r.slot = .taken ∧ (∃ e, findOrder s r.slot = some e)
    ∧ (∃ j, j < shotCount s r.slot ∧ j < 24 ∧ j ≠ r.shot ∧ shotCode s r.slot j = 0)
    ∧ ∀ g ∈ r.frames, 1 ≤ g.frame ∧ g.frame ≤ 40

/-- What a failed frame and the end of its shot write of common memory when the order goes on: frame states and spoil causes and the
counts of the sheet, the shot outcome and the order's counts, the released amount, the back's state and the roll wanted fields. -/
abbrev FailedShotWrites (s : State) (r : ShotRecord) (a : Nat) : Prop :=
  (∃ k, 1 ≤ k ∧ k ≤ 40 ∧ within (frameRecord ⟨r.back, r.which⟩ k) 2 a) ∨ within (sheetBase ⟨r.back, r.which⟩ + 8) 3 a
    ∨ a = shotOutcome r.slot r.shot ∨ a = shotOutcome r.slot r.shot + 6 ∨ a = outcome r.slot + 1
    ∨ within (outcome r.slot + 4) 2 a ∨ within (outcome r.slot + 8) 2 a ∨ within (outcome r.slot + 0x18) 4 a
    ∨ within (accountBase (accountIndex s r.slot) + 0x14) 4 a ∨ within 0x5D04 2 a ∨ within 0x5D10 2 a

end Sys2Proof.Claims

namespace Sys2Proof.Claims

/-- An exposure of shot r runs, with the back of its trigger SHUTTER_OPEN and in line. -/
abbrev PulseOf (s : State) (mode : LampMode) (r : ShotRecord) (p : Pulse) : Prop :=
  s.lamp.mode = mode ∧ s.lamp.active = some p ∧ s.lamp.trigger = some r.back ∧ s.gate.shot = some r
    ∧ s.gate.phase = .passage ∧ (s.back r.back).state = .shutterOpen ∧ inLine s r.back = true

/-- The lamp is off with its active pair empty, and the sequencer keeps a result and commands the shutter closed (R60). -/
abbrev PulseReported (s t : State) (r : ShotRecord) (result : PendingResult) : Prop :=
  t.lamp.mode = .idle ∧ t.lamp.output = .off ∧ t.lamp.active = none ∧ t.lamp.faultCount = s.lamp.faultCount
    ∧ t.gate = { s.gate with shot := some { r with result := result } } ∧ ClosesNow (t.back r.back)
    ∧ (t.back r.back).state = .shutterOpen ∧ KeepsOther r.back s t

end Sys2Proof.Claims

/-- The trigger and the pulse (R60, R86, R133, R140, R141). At the open switch the back is SHUTTER_OPEN; an empty holder gives no pulse and
no report; an open lid cuts with LID and a SAG with SUPPLY, and the shutter is commanded closed; otherwise the holder's pair becomes the
active pair and the lamp wait counts down; a lamp wait of 0 switches the lamp on at the trigger itself when nothing moves. At the end of the
lamp wait the lamp goes on at the active intensity for the active ticks when nothing moves, and at the end of the ticks it goes off, GOOD is
reported and the shutter is commanded closed. -/
def Obligations.PulseIsTriggeredRunsAndIsReported : Prop :=
  (∀ (s : State) (bk : Back) (r : ShotRecord), MemoryOk s → ShutterOpening s bk r →
    (s.exposure.holder = none →
      Answers (.shutterOpenSwitch bk) s fun t =>
        (t.back bk).state = .shutterOpen ∧ (t.back bk).shutter.timer = none ∧ t.lamp = s.lamp ∧ t.gate = s.gate
          ∧ reportByte t (backOffset bk) = 6 ∧ KeepsBytes s t (fun a => a = 0x5D00 + backOffset bk))
    ∧ (∀ p, s.exposure.holder = some p →
      (s.lidOpen = true →
        Answers (.shutterOpenSwitch bk) s fun t =>
          (t.back bk).state = .shutterOpen ∧ ClosesNow (t.back bk) ∧ t.lamp = s.lamp ∧ t.exposure.holder = none
            ∧ t.gate = { s.gate with shot := some { r with result := .spoiled .lid } })
      ∧ (s.lidOpen = false → s.supply.sag = true →
        Answers (.shutterOpenSwitch bk) s fun t =>
          (t.back bk).state = .shutterOpen ∧ ClosesNow (t.back bk) ∧ t.lamp = s.lamp ∧ t.exposure.holder = none
            ∧ t.gate = { s.gate with shot := some { r with result := .spoiled .supply } })
      ∧ (s.lidOpen = false → s.supply.sag = false → 1 ≤ lampWait s →
        Answers (.shutterOpenSwitch bk) s fun t =>
          (t.back bk).state = .shutterOpen ∧ (t.back bk).shutter.timer = none ∧ t.exposure.holder = none
            ∧ t.lamp = { mode := .wait, counter := lampWait s, output := s.lamp.output, active := some p,
                         trigger := some bk, wait := lampWait s, threshold := lampThreshold s p.intensity, lowCount := 0,
                         faultCount := s.lamp.faultCount }
            ∧ t.gate = s.gate ∧ reportByte t (backOffset bk) = 6)
      ∧ (s.lidOpen = false → s.supply.sag = false → lampWait s = 0 → NothingMoves s →
        Answers (.shutterOpenSwitch bk) s fun t =>
          (t.back bk).state = .shutterOpen ∧ (t.back bk).shutter.timer = none ∧ t.exposure.holder = none
            ∧ t.lamp = { mode := .exposeOn, counter := p.ticks,
                         output := (match p.intensity with | .full => .full | .quarter => .quarter),
                         active := some p, trigger := some bk, wait := 0, threshold := lampThreshold s p.intensity, lowCount := 0,
                         faultCount := s.lamp.faultCount }
            ∧ t.gate = s.gate ∧ reportByte t (backOffset bk) = 6)))
  ∧ (∀ (s : State) (r : ShotRecord) (p : Pulse), PulseOf s .wait r p → NothingMoves s →
    Answers .lampWaitEnd s fun t =>
      t = { s with lamp := { s.lamp with
        mode := .exposeOn, counter := p.ticks
        output := match p.intensity with | .full => .full | .quarter => .quarter } })
  ∧ (∀ (s : State) (r : ShotRecord) (p : Pulse), PulseOf s .exposeOn r p →
    Answers .exposePulseEnd s fun t =>
      PulseReported s t r .good
        ∧ t = { s with lamp := t.lamp, gate := t.gate, backA := t.backA, backB := t.backB })

namespace Sys2Proof.Claims

/-- The back's shutter is closing at the end of the passage of frame f, which is RESERVED on its LIVE sheet, with more frames of the
set to come and the film not at its end. -/
abbrev ClosingFrame (s : State) (bk : Back) (r : ShotRecord) (f : SetFrame) : Prop :=
  isLive s = true ∧ ExposesNext s r f ∧ s.gate.phase = .passage ∧ r.back = bk ∧ (s.back bk).state = .shutterOpen
    ∧ (s.back bk).shutter.command = .close ∧ (s.back bk).shutter.timer ≠ none ∧ (s.back bk).live = some r.which
    ∧ (s.back bk).gateFrame = f.frame ∧ 1 ≤ f.frame ∧ f.frame < capacity s ⟨bk, r.which⟩
    ∧ capacity s ⟨bk, r.which⟩ ≤ 40 ∧ isReserved s ⟨bk, r.which⟩ f.frame = true ∧ r.shot < 24
    ∧ accountIndex s r.slot ≤ 63 ∧ recordedHand s r.slot = .taken
    ∧ ∃ g ∈ r.frames, g.frame ≠ f.frame ∧ g.recorded = false

end Sys2Proof.Claims

namespace Sys2Proof.Claims

/-- The order and its account hold an amount x to charge and an amount y to release (R179, R170). -/
abbrev AmountsHold (s : State) (n : Slot) (x y : Nat) : Prop :=
  x + y ≤ remaining s n ∧ x + y ≤ committed s (accountIndex s n) ∧ charged s n + x ≤ 16777215

/-- An amount x is charged to the order and its account, and an amount y released (R175 to R177): the order's charged rises by x, its
remaining commitment and the account's committed fall by both, and the account's spent rises by x or stands at 16,777,215 with the saturated
mark 1. -/
abbrev ChargedAndReleased (s t : State) (n : Slot) (x y : Nat) : Prop :=
  charged t n = charged s n + x ∧ remaining t n = remaining s n - (x + y)
    ∧ committed t (accountIndex s n) = committed s (accountIndex s n) - (x + y)
    ∧ (if 16777215 < spent s (accountIndex s n) + x ∨ spent s (accountIndex s n) = 16777215 then
        spent t (accountIndex s n) = 16777215 ∧ saturatedMark t (accountIndex s n) = 1
      else
        spent t (accountIndex s n) = spent s (accountIndex s n) + x
          ∧ saturatedMark t (accountIndex s n) = saturatedMark s (accountIndex s n))

/-- The counts of an EXPOSED frame: the shot outcome's, the order's, the sheet's and the account's frames (R61, R104, R175). -/
abbrev ExposedCounts (s t : State) (r : ShotRecord) : Prop :=
  (byteAt s (shotOutcome r.slot r.shot + 5) < 255 →
      byteAt t (shotOutcome r.slot r.shot + 5) = byteAt s (shotOutcome r.slot r.shot + 5) + 1)
    ∧ (framesExposed s r.slot < 65535 → framesExposed t r.slot = framesExposed s r.slot + 1)
    ∧ (exposedCount s ⟨r.back, r.which⟩ < 255 → exposedCount t ⟨r.back, r.which⟩ = exposedCount s ⟨r.back, r.which⟩ + 1)
    ∧ accountFrames t (accountIndex s r.slot) = min 16777215 (accountFrames s (accountIndex s r.slot) + 1)

/-- The sources of a frame's label lie where an accepted order has them (R24, R101): its profile, its style, its account and its shot. -/
abbrev LabelSourced (s : State) (sh : Sheet) (k : Nat) : Prop :=
  orderProfile s (frameSlot s sh k) ≤ 7 ∧ styleIndex s (frameSlot s sh k) ≤ 3 ∧ accountIndex s (frameSlot s sh k) ≤ 63
    ∧ frameShot s sh k < 24

/-- The label of a frame recorded EXPOSED (R156, R161): QUEUED at the tail of a queue with room when no label waits, WAITING otherwise; a
READY printer is sent it when it is the head. -/
abbrev LabelEnters (s t : State) (sh : Sheet) (k : Nat) : Prop :=
  (s.labels.queue.length < 32 → waitingCount s = 0 →
      labelCode t sh k = 2 ∧ waitingCount t = 0 ∧ reportByte t 0x0A = s.labels.queue.length + 1
        ∧ (s.labels.queue = [] → s.labels.printer = .ready → t.labels.printer = .printing)
        ∧ (LabelSourced s sh k →
            t.labels.queue = s.labels.queue ++ [composeLabel t sh k]
              ∧ (s.labels.queue = [] → s.labels.printer = .ready →
                  t.labels.transmitter.getLast? = some (.label (labelMessage (composeLabel t sh k))))))
    ∧ (32 ≤ s.labels.queue.length ∨ 0 < waitingCount s → waitingCount s < 255 →
      labelCode t sh k = 1 ∧ t.labels.queue = s.labels.queue ∧ waitingCount t = waitingCount s + 1)

end Sys2Proof.Claims

/-- A good pulse and a timely close (R61, R87, R106, R148, R156): the frame is EXPOSED with the next stand sequence number and the frame price
of its profile, and every count rises by one; that price is charged to the order and the account, whose spent stops at 16,777,215 with the
saturated mark (R175, R176); the label is QUEUED, or WAITING behind a full queue or another WAITING label; the lamp-fault count is 0, and the
back winds on. The clock kept with its last READY is the model's (log 35). -/
def Obligations.GoodFrameIsExposed : Prop :=
  ∀ (s : State) (bk : Back) (r : ShotRecord) (f : SetFrame), MemoryOk s → ClosingFrame s bk r f → r.result = .good →
    labelCode s ⟨bk, r.which⟩ f.frame = 0 →
    Answers (.shutterCloseSwitch bk) s fun t =>
      frameCode t ⟨bk, r.which⟩ f.frame = 2
        ∧ sequenceCounter t = (if sequenceCounter s < 16777215 then sequenceCounter s + 1 else 1)
        ∧ frameSequence t ⟨bk, r.which⟩ f.frame = sequenceCounter t
        ∧ wordAt t (frameRecord ⟨bk, r.which⟩ f.frame + 8) = framePrice s (orderProfile s r.slot)
        ∧ (∀ x, x = framePrice s (orderProfile s r.slot) → AmountsHold s r.slot x 0 → ChargedAndReleased s t r.slot x 0)
        ∧ ExposedCounts s t r ∧ LabelEnters s t ⟨bk, r.which⟩ f.frame
        ∧ t.lamp.faultCount = 0 ∧ reportByte t 0x16 = 0
        ∧ (t.back bk).state = .winding ∧ (t.back bk).gateFrame = f.frame ∧ (t.back bk).motor.perforations = 0
        ∧ (t.back bk).readyAt = s.clock ∧ (t.back bk).shutter.outstanding = false ∧ KeepsOther bk s t
        ∧ t.gate.phase = .frameWait
        ∧ (∃ r', t.gate.shot = some r' ∧ r'.tally = r.tally ++ [(f.position, f.copy)] ∧ r'.reshoots = r.reshoots)
        ∧ t.lamp = { s.lamp with faultCount := 0 }
        ∧ KeepsBytes s t (fun a => within (frameRecord ⟨bk, r.which⟩ f.frame) 16 a ∨ a = sheetBase ⟨bk, r.which⟩ + 8
            ∨ within (outcome r.slot + 6) 2 a ∨ within (outcome r.slot + 0x14) 8 a ∨ a = shotOutcome r.slot r.shot + 5
            ∨ within (accountBase (accountIndex s r.slot) + 6) 2 a
            ∨ within (accountBase (accountIndex s r.slot) + 0x10) 12 a
            ∨ within 0x5D04 2 a ∨ within 0x5D09 7 a ∨ a = 0x5D16)
        ∧ t = { s with mem := t.mem, gate := t.gate, backA := t.backA, backB := t.backB, orders := t.orders
                       labels := t.labels, lamp := t.lamp }

namespace Sys2Proof.Claims

/-- The back's shutter is closing at the end of the passage of frame f, the last of its set: it is RESERVED on its LIVE sheet, every other
frame of the set is recorded and none of them RESERVED, and e is the order of the shot. -/
abbrev ClosingLastFrame (s : State) (bk : Back) (r : ShotRecord) (f : SetFrame) (e : OrderEntry) : Prop :=
  isLive s = true ∧ ExposesNext s r f ∧ s.gate.phase = .passage ∧ r.back = bk ∧ (s.back bk).state = .shutterOpen
    ∧ (s.back bk).shutter.command = .close ∧ (s.back bk).shutter.timer ≠ none ∧ (s.back bk).live = some r.which
    ∧ (s.back bk).gateFrame = f.frame ∧ 1 ≤ f.frame ∧ f.frame ≤ capacity s ⟨bk, r.which⟩
    ∧ capacity s ⟨bk, r.which⟩ ≤ 40 ∧ isReserved s ⟨bk, r.which⟩ f.frame = true ∧ r.shot < 24
    ∧ accountIndex s r.slot ≤ 63 ∧ recordedHand s r.slot = .taken ∧ findOrder s r.slot = some e
    ∧ ∀ g ∈ r.frames, g.frame ≠ f.frame → g.recorded = true ∧ frameCode s ⟨bk, r.which⟩ g.frame ≠ 1

/-- Another shot of the order is PENDING. -/
abbrev AnotherShotPends (s : State) (r : ShotRecord) : Prop :=
  ∃ j, j < shotCount s r.slot ∧ j < 24 ∧ j ≠ r.shot ∧ shotCode s r.slot j = 0

/-- The shot has ended with n pairs of position and copy EXPOSED (R65): its outcome is COMPLETE or PARTIAL, shots done is one more, and the
gate is idle with the holder empty and no choice. -/
abbrev ShotEnded (s t : State) (r : ShotRecord) (n : Nat) : Prop :=
  shotCode t r.slot r.shot = (if r.planned ≤ n then 1 else 2)
    ∧ (wordAt s (outcome r.slot + 4) < 65535 → wordAt t (outcome r.slot + 4) = wordAt s (outcome r.slot + 4) + 1)
    ∧ t.gate = Gate.reset ∧ t.orders.choice = none ∧ t.exposure = { s.exposure with holder := none }

/-- The back after its used frame (R62, R85): WINDING on, or at its capacity at ROLL_END or in its automatic rewind. -/
abbrev BackAfterUse (s t : State) (bk : Back) (w : Which) (k : Nat) : Prop :=
  (t.back bk).state = (if k < capacity s ⟨bk, w⟩ then .winding else if autoRewind s = true then .rewinding else .rollEnd)
    ∧ (t.back bk).origin = (if k < capacity s ⟨bk, w⟩ ∨ autoRewind s = false then .none else .auto)
    ∧ (t.back bk).gateFrame = k ∧ (t.back bk).live = some w ∧ (t.back bk).readyAt = s.clock
    ∧ (t.back bk).shutter.outstanding = false ∧ KeepsOther bk s t

/-- The order's entry in the run list changes its sub-state and its count of outstanding labels, and no other entry changes. -/
abbrev OrderEnters (s t : State) (n : Slot) (sub : SubState) (labels : Nat) : Prop :=
  t.orders.runList
      = (s.orders.runList.map fun o =>
          if o.slot = n then { o with sub := sub, outstanding := o.outstanding + labels } else o)
    ∧ byteAt t (outcome n + 1) = sub.code

/-- What the recording of a last frame and the end of its shot write of common memory when the order goes on. -/
abbrev LastFrameWrites (s : State) (r : ShotRecord) (f : SetFrame) (a : Nat) : Prop :=
  within (frameRecord ⟨r.back, r.which⟩ f.frame) 16 a ∨ within (sheetBase ⟨r.back, r.which⟩ + 8) 2 a
    ∨ a = outcome r.slot + 1 ∨ within (outcome r.slot + 4) 6 a ∨ within (outcome r.slot + 0x14) 8 a
    ∨ a = shotOutcome r.slot r.shot ∨ within (shotOutcome r.slot r.shot + 5) 2 a
    ∨ within (accountBase (accountIndex s r.slot) + 6) 2 a ∨ within (accountBase (accountIndex s r.slot) + 0x10) 12 a
    ∨ within 0x5D04 2 a ∨ within 0x5D09 9 a ∨ a = 0x5D16

end Sys2Proof.Claims

/-- The end of a shot after its last frame (R62, R65, R85). A last frame that is good is EXPOSED and charged, and its label enters; one that is
cut with no reshoot left is SPOILED. The shot is COMPLETE when every planned pair is EXPOSED and PARTIAL otherwise, the prices of the pairs
without an EXPOSED frame are released (R177), shots done is one more and the gate is idle. The order is WAITING_RUN with another shot
PENDING, FINISHING with labels outstanding, and otherwise complete, a RUSH order with a frame EXPOSED paying the surcharge (R41, R42, R180).
The back winds on, and a frame at the capacity leaves it at ROLL_END or in its automatic rewind. The clock kept with its last READY is the
model's (log 35). -/
def Obligations.LastFrameEndsTheShot : Prop :=
  (∀ (s : State) (bk : Back) (r : ShotRecord) (f : SetFrame) (e : OrderEntry), MemoryOk s → ClosingLastFrame s bk r f e →
    r.result = .good → labelCode s ⟨bk, r.which⟩ f.frame = 0 → frameSlot s ⟨bk, r.which⟩ f.frame = r.slot →
    Answers (.shutterCloseSwitch bk) s fun t =>
      frameCode t ⟨bk, r.which⟩ f.frame = 2 ∧ frameSequence t ⟨bk, r.which⟩ f.frame = sequenceCounter t
        ∧ sequenceCounter t = (if sequenceCounter s < 16777215 then sequenceCounter s + 1 else 1)
        ∧ ShotEnded s t r (r.tally.length + 1) ∧ BackAfterUse s t bk r.which f.frame ∧ ExposedCounts s t r
        ∧ LabelEnters s t ⟨bk, r.which⟩ f.frame ∧ t.lamp = { s.lamp with faultCount := 0 }
        ∧ (∀ x y, x = framePrice s (orderProfile s r.slot) →
            y = (r.planned - (r.tally.length + 1)) * (x + labelPrice s) → AmountsHold s r.slot x y →
            ChargedAndReleased s t r.slot x y)
        ∧ (AnotherShotPends s r → OrderEnters s t r.slot .waitingRun 1)
        ∧ (¬ AnotherShotPends s r → OrderEnters s t r.slot .finishing 1)
        ∧ KeepsBytes s t (LastFrameWrites s r f)
        ∧ t = { s with mem := t.mem, gate := t.gate, backA := t.backA, backB := t.backB, orders := t.orders
                       labels := t.labels, lamp := t.lamp, exposure := t.exposure })
  ∧ ∀ (s : State) (bk : Back) (r : ShotRecord) (f : SetFrame) (e : OrderEntry) (c : SpoilCause), MemoryOk s →
    ClosingLastFrame s bk r f e → r.result = .spoiled c → c = .lid ∨ c = .supply ∨ c = .lamp → s.lamp.faultCount ≤ 1 →
    2 ≤ r.reshoots ∨ capacity s ⟨bk, r.which⟩ ≤ framesUsed s ⟨bk, r.which⟩ →
    Answers (.shutterCloseSwitch bk) s fun t =>
      frameCode t ⟨bk, r.which⟩ f.frame = 3 ∧ byteAt t (frameRecord ⟨bk, r.which⟩ f.frame + 1) / 16 % 8 = c.code
        ∧ sequenceCounter t = sequenceCounter s ∧ ShotEnded s t r r.tally.length ∧ BackAfterUse s t bk r.which f.frame
        ∧ (∀ y, y = (r.planned - r.tally.length) * positionPrice s r.slot → y ≤ remaining s r.slot →
            y ≤ committed s (accountIndex s r.slot) → AnotherShotPends s r ∨ 0 < e.outstanding →
            remaining t r.slot = remaining s r.slot - y
              ∧ committed t (accountIndex s r.slot) = committed s (accountIndex s r.slot) - y
              ∧ charged t r.slot = charged s r.slot ∧ spent t (accountIndex s r.slot) = spent s (accountIndex s r.slot))
        ∧ (AnotherShotPends s r → OrderEnters s t r.slot .waitingRun 0)
        ∧ (¬ AnotherShotPends s r → 0 < e.outstanding → OrderEnters s t r.slot .finishing 0)
        ∧ (AnotherShotPends s r ∨ 0 < e.outstanding →
            KeepsBytes s t (LastFrameWrites s r f)
              ∧ t = { s with mem := t.mem, gate := t.gate, backA := t.backA, backB := t.backB, orders := t.orders
                             lamp := t.lamp, exposure := t.exposure })
        ∧ (¬ AnotherShotPends s r → e.outstanding = 0 →
            recordedHand t r.slot = .done ∧ handFound t r.slot = 3 ∧ flagSet t .orderDone = true
              ∧ byteAt t (outcome r.slot)
                  = (if e.withdrawn = true then 3 else if allComplete t r.slot = true then 1 else 2)
              ∧ t.orders.runList = (s.orders.runList.filter fun o => decide (o.slot ≠ r.slot))
              ∧ CompletionAmounts s t r.slot e.rush 0)

/-- A cut pulse and a timely close (R61, R63, R148): the frame is SPOILED with its cause and no sequence number is issued; a LAMP
cause raises the lamp-fault count by one and any other leaves it, and a reshoot is reserved on the next frame of the sheet while fewer
than two were used and the sheet has a frame left; the third LAMP cause in a row holds the stand with LAMP, and the sequencer rests
before the next passage. -/
def Obligations.CutFrameIsSpoiledAndReshot : Prop :=
  (∀ (s : State) (bk : Back) (r : ShotRecord) (f : SetFrame) (c : SpoilCause) (p : PositionPlan), MemoryOk s →
    ClosingFrame s bk r f → r.result = .spoiled c → c = .lid ∨ c = .supply ∨ c = .lamp → s.lamp.faultCount ≤ 1 →
    planFor r f.position = some p → p.exposure ≤ 191 → p.ticks ≤ 61824 → f.frame ≤ framesUsed s ⟨bk, r.which⟩ →
    Answers (.shutterCloseSwitch bk) s fun t =>
      frameCode t ⟨bk, r.which⟩ f.frame = 3
        ∧ byteAt t (frameRecord ⟨bk, r.which⟩ f.frame + 1) / 16 % 8 = c.code
        ∧ sequenceCounter t = sequenceCounter s
        ∧ t.lamp.faultCount = s.lamp.faultCount + (if c = .lamp then 1 else 0)
        ∧ (t.back bk).state = .winding ∧ KeepsOther bk s t
        ∧ KeepsBytes s t (fun a => within (frameRecord ⟨bk, r.which⟩ f.frame) 2 a ∨ a = sheetBase ⟨bk, r.which⟩ + 9
            ∨ within (outcome r.slot + 8) 2 a ∨ within (shotOutcome r.slot r.shot + 6) 2 a
            ∨ within (frameRecord ⟨bk, r.which⟩ (framesUsed s ⟨bk, r.which⟩ + 1)) 16 a
            ∨ a = sheetBase ⟨bk, r.which⟩ + 6 ∨ within 0x5D04 2 a ∨ a = 0x5D16)
        ∧ t = { s with mem := t.mem, gate := t.gate, backA := t.backA, backB := t.backB, lamp := t.lamp }
        ∧ (if r.reshoots < 2 ∧ framesUsed s ⟨bk, r.which⟩ < capacity s ⟨bk, r.which⟩ then
            framesUsed t ⟨bk, r.which⟩ = framesUsed s ⟨bk, r.which⟩ + 1
              ∧ frameCode t ⟨bk, r.which⟩ (framesUsed s ⟨bk, r.which⟩ + 1) = 1
              ∧ byteAt t (frameRecord ⟨bk, r.which⟩ (framesUsed s ⟨bk, r.which⟩ + 1) + 3) = p.exposure
              ∧ wordAt t (frameRecord ⟨bk, r.which⟩ (framesUsed s ⟨bk, r.which⟩ + 1) + 6) = p.ticks
              ∧ (∃ r', t.gate.shot = some r' ∧ r'.reshoots = r.reshoots + 1 ∧ r'.tally = r.tally)
          else
            framesUsed t ⟨bk, r.which⟩ = framesUsed s ⟨bk, r.which⟩
              ∧ ∃ r', t.gate.shot = some r' ∧ r'.reshoots = r.reshoots ∧ r'.tally = r.tally))
  ∧ ∀ (s : State) (bk : Back) (r : ShotRecord) (f : SetFrame), MemoryOk s → ClosingFrame s bk r f →
    r.result = .spoiled .lamp → s.lamp.faultCount = 2 → f.frame ≤ framesUsed s ⟨bk, r.which⟩ →
    Answers (.shutterCloseSwitch bk) s fun t =>
      frameCode t ⟨bk, r.which⟩ f.frame = 3 ∧ t.lamp.faultCount = 3 ∧ reportByte t 0x16 = 3
        ∧ t.control.stand = .held ∧ t.control.cause = .lamp ∧ RaisesOnly .standHeld s t
        ∧ t.gate.phase = .frameWait ∧ t.gate.rested = true ∧ (t.back bk).state = .winding ∧ KeepsOther bk s t

/-- A shutter that does not open in time (R59, R61, R64, R86, R90): the back is JAMMED with BACK_FAULT, the holder is empty, the frame is
SPOILED with SHUTTER, and the shot does not go on. One that does not close in time (R60, R64, R87, R90, R95): the back is JAMMED with
BACK_FAULT; a GOOD result becomes SPOILED with SHUTTER and ends the shot; under a stand reset the STALE back is JAMMED, and a close in time
leaves it STALE with no command. -/
def Obligations.ShutterTimeoutsJamTheBack : Prop :=
  (∀ (s : State) (bk : Back) (r : ShotRecord) (f : SetFrame), MemoryOk s → ShutterOpening s bk r → ExposesNext s r f →
    (s.back bk).live = some r.which → (s.back bk).gateFrame = f.frame → (s.back bk).shutter.sinceReady = true →
    1 ≤ f.frame → f.frame ≤ 40 → r.shot < 24 → accountIndex s r.slot ≤ 63 →
    isReserved s ⟨bk, r.which⟩ f.frame = true →
    Answers (.shutterOpenTimeout bk) s fun t =>
      (t.back bk).state = .jammed ∧ (t.back bk).shutter.command = .close ∧ (t.back bk).shutter.timer = none
        ∧ (t.back bk).live = some r.which ∧ flagSet t .backFault = true ∧ t.exposure.holder = none
        ∧ frameCode t ⟨bk, r.which⟩ f.frame = 3 ∧ byteAt t (frameRecord ⟨bk, r.which⟩ f.frame + 1) / 16 % 8 = 4
        ∧ t.gate.shot = none ∧ t.gate.phase = .idle ∧ t.lamp = s.lamp ∧ KeepsOther bk s t
        ∧ t = { s with mem := t.mem, gate := t.gate, backA := t.backA, backB := t.backB, orders := t.orders
                       labels := t.labels, exposure := t.exposure, control := t.control }
        ∧ (OrderGoesOn s r → KeepsBytes s t (FailedShotWrites s r) ∧ t.labels = s.labels
            ∧ (r.tally.length < r.planned → shotCode t r.slot r.shot = 2)))
  ∧ (∀ (s : State) (bk : Back) (r : ShotRecord) (f : SetFrame), MemoryOk s → ClosingFrame s bk r f → r.result = .good →
    (s.back bk).shutter.sinceReady = true →
    Answers (.shutterCloseTimeout bk) s fun t =>
      (t.back bk).state = .jammed ∧ (t.back bk).live = some r.which ∧ flagSet t .backFault = true
        ∧ frameCode t ⟨bk, r.which⟩ f.frame = 3 ∧ byteAt t (frameRecord ⟨bk, r.which⟩ f.frame + 1) / 16 % 8 = 4
        ∧ sequenceCounter t = sequenceCounter s ∧ t.gate.shot = none ∧ t.gate.phase = .idle ∧ KeepsOther bk s t
        ∧ t = { s with mem := t.mem, gate := t.gate, backA := t.backA, backB := t.backB, orders := t.orders
                       labels := t.labels, exposure := t.exposure, control := t.control }
        ∧ (OrderGoesOn s r → KeepsBytes s t (FailedShotWrites s r) ∧ shotCode t r.slot r.shot = 2 ∧ t.labels = s.labels))
  ∧ (∀ (s : State) (bk : Back), MemoryOk s → (s.back bk).state = .stale → (s.back bk).shutter.timer ≠ none →
    Answers (.shutterCloseTimeout bk) s fun t =>
      (t.back bk).state = .jammed ∧ (t.back bk).live = (s.back bk).live
        ∧ (t.back bk).gateFrame = (s.back bk).gateFrame ∧ reportByte t (backOffset bk) = 11
        ∧ RaisesOnly .backFault s t ∧ KeepsOther bk s t
        ∧ t = { s with mem := t.mem, backA := t.backA, backB := t.backB, control := t.control })
  ∧ (∀ (s : State) (bk : Back), isLive s = true → (s.back bk).state = .stale → (s.back bk).shutter.timer ≠ none →
    Answers (.shutterCloseSwitch bk) s fun t =>
      (t.back bk).state = .stale ∧ (t.back bk).shutter.command = .none ∧ (t.back bk).shutter.timer = none
        ∧ (t.back bk).shutter.outstanding = false ∧ KeepsOther bk s t
        ∧ t = { s with backA := t.backA, backB := t.backB })


/-! ### The monitors (R53, R54, R69, R143 to R147) -/

namespace Sys2Proof.Claims

/-- The stand is held with a cause that STAND, the stand report and STAND_HELD show (R69). -/
abbrev HeldWith (c : HoldCause) (s t : State) : Prop :=
  t.control.stand = .held ∧ t.control.cause = c ∧ reportByte t 0x00 = 3 ∧ reportByte t 0x01 = c.code
    ∧ RaisesOnly .standHeld s t ∧ KeepsStartUp s t

/-- A scan is in progress for the work at the gate, with no withdrawal of its order accepted. -/
abbrev ScanRuns (s : State) (r : ShotRecord) : Prop :=
  s.exposure.scan ≠ .idle ∧ (s.lamp.mode = .idle ∨ s.lamp.mode = .meterOn) ∧ s.gate.phase = .meterScan
    ∧ s.gate.shot = some r ∧ recordedHand s r.slot ≠ .withdraw

/-- The scan is abandoned with its sums discarded, and the lamp is off (R54, R119). -/
abbrev ScanAbandoned (t : State) : Prop :=
  t.exposure.scan = .idle ∧ t.exposure.job = .none ∧ t.exposure.dark = ⟨0, 0, 0⟩ ∧ t.exposure.lit = ⟨0, 0, 0⟩
    ∧ t.exposure.darkRounds = 0 ∧ t.exposure.litRounds = 0 ∧ t.exposure.waiting = 0 ∧ t.lamp.mode = .idle

end Sys2Proof.Claims

/-- The lid and the lamp sense. A lid opening cuts an exposure with LID, abandons a scan, and holds a stand that is not STOPPED with LID;
a lid closing changes no mode and no hold (R54, R69, R143). A lamp-sense code at or above the threshold sets the low count to 0, one below
it raises the count, and the count that reaches N_l cuts the pulse with LAMP; a conversion with no exposure pulse on is discarded (R146,
R147). That a conversion not asked for at a tick is taken as it comes is the model's choice (log 21). -/
def Obligations.LidAndLampSenseCutThePulse : Prop :=
  (∀ s : State, MemoryOk s → isLive s = true → s.lidOpen = false →
    (∀ (r : ShotRecord) (p : Pulse), PulseOf s .wait r p ∨ PulseOf s .exposeOn r p → s.exposure.scan = .idle →
        s.control.stand ≠ .stopped →
      Answers .lidOpening s fun t =>
        PulseReported s t r (.spoiled .lid) ∧ HeldWith .lid s t ∧ KeepsBytes s t (within 0x5D00 2)
          ∧ t = { s with lidOpen := true, mem := t.mem, control := t.control, lamp := t.lamp, gate := t.gate
                         backA := t.backA, backB := t.backB })
    ∧ (∀ r : ShotRecord, ScanRuns s r → s.control.stand ≠ .stopped →
      Answers .lidOpening s fun t =>
        ScanAbandoned t ∧ (s.lamp.mode = .meterOn → t.lamp.output = .off) ∧ HeldWith .lid s t
          ∧ t.gate = { s.gate with phase := .meterWait, rested := true, settleTimer := none }
          ∧ KeepsBytes s t (within 0x5D00 2)
          ∧ t = { s with lidOpen := true, mem := t.mem, control := t.control, lamp := t.lamp, gate := t.gate
                         exposure := t.exposure })
    ∧ (s.lamp.mode = .idle → s.exposure.scan = .idle → s.gate.shot = none →
        (s.control.stand = .stopped → Answers .lidOpening s fun t => t = { s with lidOpen := true })
        ∧ (s.control.stand ≠ .stopped → Answers .lidOpening s fun t =>
            HeldWith .lid s t ∧ KeepsBytes s t (within 0x5D00 2)
              ∧ t = { s with lidOpen := true, mem := t.mem, control := t.control })))
  ∧ (∀ s : State, isLive s = true → Answers .lidClosing s fun t => t = { s with lidOpen := false })
  ∧ (∀ (s : State) (code : AdcCode), s.lamp.mode ≠ .exposeOn →
    (s.converter.converting ≠ some .lamp → exec (.lampSenseSample code) s = .next s)
      ∧ (s.converter.converting = some .lamp → Answers (.lampSenseSample code) s fun t =>
          t = { s with converter := t.converter }))
  ∧ (∀ (s : State) (r : ShotRecord) (p : Pulse) (code : AdcCode), PulseOf s .exposeOn r p → LampMayEnd s →
    (s.lamp.threshold ≤ code.toNat → Answers (.lampSenseSample code) s fun t =>
        t = { s with lamp := { s.lamp with lowCount := 0 }, converter := t.converter })
    ∧ (code.toNat < s.lamp.threshold → s.lamp.lowCount + 1 < lampCount s → Answers (.lampSenseSample code) s fun t =>
        t = { s with lamp := { s.lamp with lowCount := s.lamp.lowCount + 1 }, converter := t.converter })
    ∧ (code.toNat < s.lamp.threshold → lampCount s ≤ s.lamp.lowCount + 1 → Answers (.lampSenseSample code) s fun t =>
        PulseReported s t r (.spoiled .lamp)
          ∧ t = { s with lamp := t.lamp, gate := t.gate, backA := t.backA, backB := t.backB, converter := t.converter }))

namespace Sys2Proof.Claims

/-- A conversion that enters SAG: the supply was OK with its count one short of N_s, and the code is below F_s. -/
abbrev EntersSag (s : State) (code : AdcCode) : Prop :=
  started s = true ∧ s.supply.sag = false ∧ code.toNat < fallingThreshold s ∧ supplyCount s ≤ s.supply.below + 1

/-- The supply is in SAG with both counts 0, and SUPPLY_SAG alone is set. -/
abbrev InSag (s t : State) : Prop :=
  t.supply = { sag := true, below := 0, above := 0 } ∧ RaisesOnly .supplySag s t ∧ KeepsStartUp s t
    ∧ t.control.stand = s.control.stand ∧ t.control.cause = s.control.cause

end Sys2Proof.Claims

/-- The supply monitor follows the table of R144 with the settings as they stand: a run of N_s codes below F_s enters SAG with SUPPLY_SAG,
a run of N_s codes above R_s returns to OK without a flag, and a code that breaks a run starts it again. The entry to SAG cuts an exposure
with SUPPLY and abandons a scan, and the stand state stays (R145, R54). That a conversion not asked for at a tick is taken as it comes is the
model's choice (log 21). -/
def Obligations.SupplyMonitorFollowsItsTable : Prop :=
  (∀ (s : State) (code : AdcCode), started s = false → exec (.supplySample code) s = .next s)
  ∧ ∀ (s : State) (code : AdcCode), SupplyMayEnd s →
    (started s = true → s.supply.sag = false → fallingThreshold s ≤ code.toNat →
      Answers (.supplySample code) s fun t =>
        t = { s with supply := { s.supply with below := 0 }, converter := t.converter })
    ∧ (started s = true → s.supply.sag = false → code.toNat < fallingThreshold s → s.supply.below + 1 < supplyCount s →
      Answers (.supplySample code) s fun t =>
        t = { s with supply := { s.supply with below := s.supply.below + 1 }, converter := t.converter })
    ∧ (started s = true → s.supply.sag = true → code.toNat ≤ risingThreshold s →
      Answers (.supplySample code) s fun t =>
        t = { s with supply := { s.supply with above := 0 }, converter := t.converter })
    ∧ (started s = true → s.supply.sag = true → risingThreshold s < code.toNat → s.supply.above + 1 < supplyCount s →
      Answers (.supplySample code) s fun t =>
        t = { s with supply := { s.supply with above := s.supply.above + 1 }, converter := t.converter })
    ∧ (started s = true → s.supply.sag = true → risingThreshold s < code.toNat → supplyCount s ≤ s.supply.above + 1 →
      Answers (.supplySample code) s fun t =>
        t = { s with supply := { sag := false, below := 0, above := 0 }, converter := t.converter })
    ∧ (EntersSag s code → s.lamp.mode = .idle → s.exposure.scan = .idle → s.gate.shot = none →
        s.control.stand ≠ .holdPending →
      Answers (.supplySample code) s fun t =>
        InSag s t ∧ t = { s with supply := t.supply, control := t.control, converter := t.converter })
    ∧ (∀ (r : ShotRecord) (p : Pulse), EntersSag s code → PulseOf s .wait r p ∨ PulseOf s .exposeOn r p →
        s.exposure.scan = .idle →
      Answers (.supplySample code) s fun t =>
        InSag s t ∧ PulseReported s t r (.spoiled .supply)
          ∧ t = { s with supply := t.supply, control := t.control, lamp := t.lamp, gate := t.gate
                         backA := t.backA, backB := t.backB, converter := t.converter })
    ∧ (∀ r : ShotRecord, EntersSag s code → ScanRuns s r → s.control.stand = .running →
      Answers (.supplySample code) s fun t =>
        InSag s t ∧ ScanAbandoned t ∧ (s.lamp.mode = .meterOn → t.lamp.output = .off)
          ∧ t = { s with supply := t.supply, control := t.control, lamp := t.lamp, exposure := t.exposure
                         converter := t.converter, gate := { s.gate with phase := .meterWait } })

/-! ### Film transport (R74 to R95, R104, R105, R108, R109) -/

namespace Sys2Proof.Claims

/-- The film of the back is in motion. -/
abbrev Moving (u : BackUnit) : Prop := u.state = .loading ∨ u.state = .winding ∨ u.state = .rewinding

/-- The motor is stopped, and no start is called for and no timer of it runs. -/
abbrev MotorStopped (u : BackUnit) : Prop :=
  u.motor.direction = .stopped ∧ u.motor.start = .stopped ∧ u.motor.stallTimer = none ∧ u.motor.rewindTimer = none
    ∧ u.motor.leaderTimer = none

/-- A LIVE sheet has been retired with a cause (R109): its RESERVED frames and its BLANK frames up to the capacity are UNUSED, frames
used is the capacity, and both hands are RETIRED. -/
abbrev Retired (s t : State) (sh : Sheet) (cause : Nat) : Prop :=
  sheetHand t sh = .retired ∧ sheetHandFound t sh = 3 ∧ byteAt t (sheetBase sh + 0x0B) = cause
    ∧ framesUsed t sh = capacity s sh ∧ capacity t sh = capacity s sh
    ∧ ∀ k, 1 ≤ k → k ≤ 40 → frameCode t sh k
        = if frameCode s sh k = 1 ∨ frameCode s sh k = 0 ∧ k ≤ capacity s sh then 4 else frameCode s sh k

/-- What a retirement of the back's LIVE sheet and a change of the back's state write of common memory. -/
abbrev RetirementWrites (bk : Back) (sh : Sheet) (a : Nat) : Prop :=
  within (sheetBase sh) 2 a ∨ a = sheetBase sh + 6 ∨ within (sheetBase sh + 0x0A) 2 a
    ∨ (∃ k, 1 ≤ k ∧ k ≤ 40 ∧ a = frameRecord sh k) ∨ a = 0x5D00 + backOffset bk ∨ a = 0x5D00 + liveOffset bk

/-- A door opens that was closed. -/
abbrev DoorOpens (s : State) (bk : Back) : Prop := isLive s = true ∧ (s.back bk).levels.doorOpen = false

end Sys2Proof.Claims

/-- A door opening (R64, R74, R77, R90, R142): from LOADING, WINDING and REWINDING the back is JAMMED with its motor stopped, its blade driven
closed and BACK_FAULT set, and from every other state it is DOOR_OPEN; its gate frame is 0, and it has no LIVE sheet and no rewind origin; a
shutter commanded open is commanded closed, an exposure of that back ends without a report, a shot in its frame loop on that back ends; and
its LIVE sheet retires with DOOR_OPENED. A door closing in DOOR_OPEN or JAMMED reads the cassette (R78, R79): without one the back is EMPTY;
with one it is AWAITING_SHEET, and there the first PREPARED sheet of a valid profile goes LIVE and the back is LOADING. That the levels come
as operands of the command is the model's choice (log 7), and so are the tick counter of 0 after an exposure that ends early (log 37) and the
look for a sheet while a stand reset is taken (log 38). -/
def Obligations.DoorsActByState : Prop :=
  (∀ (s : State) (bk : Back), MemoryOk s → DoorOpens s bk →
    Answers (.doorOpening bk) s fun t =>
      (Moving (s.back bk) → (t.back bk).state = .jammed ∧ MotorStopped (t.back bk) ∧ flagSet t .backFault = true)
        ∧ (¬ Moving (s.back bk) → (t.back bk).state = .doorOpen)
        ∧ (t.back bk).gateFrame = 0 ∧ (t.back bk).live = none
        ∧ (t.back bk).levels = { (s.back bk).levels with doorOpen := true }
        ∧ (t.back bk).origin = .none
        ∧ (Moving (s.back bk) → (t.back bk).shutter.command = .close ∧ (t.back bk).shutter.timer = none)
        ∧ ((s.back bk).shutter.command = .open →
            (t.back bk).shutter.command = .close ∧ (t.back bk).shutter.timer = none
              ∧ (t.back bk).shutter.outstanding = false)
        ∧ (exposing s = true → s.lamp.trigger = some bk →
            LampIsDark t ∧ t.lamp.faultCount = s.lamp.faultCount)
        ∧ ((s.back bk).live ≠ none → flagSet t .sheetRetired = true)
        ∧ (∀ r, s.gate.shot = some r → r.calibrate = false → r.back = bk → s.gate.phase.step = .exposing →
            (∃ f ∈ r.frames, f.recorded = false) → t.gate.shot = none ∧ t.gate.phase = .idle)
        ∧ KeepsOther bk s t ∧ t.carriage = s.carriage ∧ t.feeder = s.feeder ∧ t.supply = s.supply ∧ t.watch = s.watch)
  ∧ (∀ (s : State) (bk : Back) (w : Which), MemoryOk s → DoorOpens s bk → (s.back bk).live = some w →
      (s.back bk).state ≠ .rewinding → s.gate.phase.step ≠ .exposing →
    Answers (.doorOpening bk) s fun t =>
      Retired s t ⟨bk, w⟩ 4 ∧ KeepsBytes s t (RetirementWrites bk ⟨bk, w⟩)
        ∧ t = { s with mem := t.mem, backA := t.backA, backB := t.backB, control := t.control, lamp := t.lamp })
  ∧ ∀ (s : State) (bk : Back) (filmOut : Bool), MemoryOk s → isLive s = true → (s.back bk).levels.doorOpen = true →
    (s.back bk).state = .doorOpen ∨ (s.back bk).state = .jammed →
    (Answers (.doorClosing bk false filmOut) s fun t =>
        t.back bk = { s.back bk with
            state := .empty
            origin := .none
            levels := { (s.back bk).levels with doorOpen := false, cassette := false, filmOut := filmOut } }
          ∧ reportByte t (backOffset bk) = 0 ∧ KeepsBytes s t (fun a => a = 0x5D00 + backOffset bk)
          ∧ KeepsOther bk s t ∧ t = { s with mem := t.mem, backA := t.backA, backB := t.backB })
    ∧ ((∀ w, sheetHand s ⟨bk, w⟩ ≠ .prepared) → Answers (.doorClosing bk true filmOut) s fun t =>
        t.back bk = { s.back bk with
            state := .awaitingSheet
            origin := .none
            levels := { (s.back bk).levels with doorOpen := false, cassette := true, filmOut := filmOut } }
          ∧ reportByte t (backOffset bk) = 2 ∧ KeepsBytes s t (fun a => a = 0x5D00 + backOffset bk)
          ∧ KeepsOther bk s t ∧ t = { s with mem := t.mem, backA := t.backA, backB := t.backB })
    ∧ (∀ w, sheetHand s ⟨bk, w⟩ = .prepared → (w = .second → sheetHand s ⟨bk, .first⟩ ≠ .prepared) →
        (⟨bk, w⟩ : Sheet) ∉ s.watch.sheetMarks → sheetProfile s ⟨bk, w⟩ ≤ 7 →
        byteAt s (profileBase (sheetProfile s ⟨bk, w⟩)) ≠ 0 →
      Answers (.doorClosing bk true filmOut) s fun t =>
        (t.back bk).state = .loading ∧ (t.back bk).live = some w ∧ sheetHand t ⟨bk, w⟩ = .live
          ∧ sheetHandFound t ⟨bk, w⟩ = 2 ∧ capacity t ⟨bk, w⟩ = max 12 (min 40 (capacity s ⟨bk, w⟩))
          ∧ KeepsOther bk s t ∧ KeepsNotice s t ∧ t.watch = s.watch)

namespace Sys2Proof.Claims

/-- A motor may start: the lamp is off, and no shutter is commanded open and not yet seen closed (R81). -/
abbrev MotorMayStart (s : State) : Prop :=
  s.lamp.output = .off ∧ s.backA.shutter.outstanding = false ∧ s.backB.shutter.outstanding = false

/-- The motor of the back becomes m, and nothing else of the part changes. -/
abbrev MotorBecomes (s t : State) (bk : Back) (m : Motor) : Prop :=
  t.back bk = { s.back bk with motor := m } ∧ KeepsOther bk s t ∧ t = { s with backA := t.backA, backB := t.backB }

/-- The perforation level is closed and the motor is m; nothing else of the part changes. -/
abbrev Perforated (s t : State) (bk : Back) (m : Motor) : Prop :=
  t.back bk = { s.back bk with levels := { (s.back bk).levels with perforation := true }, motor := m }
    ∧ KeepsOther bk s t ∧ t = { s with backA := t.backA, backB := t.backB }

/-- A counted perforation: the count is one more and the stall timer runs for 400 ms again. -/
abbrev counted (m : Motor) : Motor := { m with perforations := m.perforations + 1, stallTimer := some 8000 }

/-- The wind has ended: the motor is stopped and the back is READY with a frame at the gate, the entry timed (R80, R83). -/
abbrev WindEnded (s t : State) (bk : Back) (frame : Nat) : Prop :=
  (t.back bk).state = .ready ∧ (t.back bk).gateFrame = frame ∧ MotorStopped (t.back bk) ∧ (t.back bk).readyAt = s.clock
    ∧ (t.back bk).live = (s.back bk).live ∧ (t.back bk).shutter.sinceReady = false
    ∧ reportByte t (backOffset bk) = 4 ∧ KeepsBytes s t (fun a => a = 0x5D00 + backOffset bk) ∧ KeepsOther bk s t

/-- Film is wound forward in this state, with n perforations counted. -/
abbrev Winds (s : State) (bk : Back) (st : BackState) (n : Nat) : Prop :=
  isLive s = true ∧ (s.back bk).state = st ∧ (s.back bk).motor.direction = .forward
    ∧ (s.back bk).motor.perforations = n

end Sys2Proof.Claims

/-- The motor (R81, R89): a start that is called for waits for the lamp and both shutters, then begins at creep, forward with the stall
timer or in reverse with the rewind timer, and at once with the leader run when the film is out; a ramp step raises the speed code by the
ramp step up to the target. That a deferred start comes as a command of its own is the model's reading (log 30), and so is that a command
whose event cannot arise changes nothing (log 4). -/
def Obligations.MotorStartsAndRamps : Prop :=
  ∀ (s : State) (bk : Back),
    (MotorMayStart s → (s.back bk).motor.start = .forward → Answers (.motorStart bk) s fun t =>
        MotorBecomes s t bk { (s.back bk).motor with
          direction := .forward, start := .stopped, speed := (s.back bk).motor.creep, ramping := true
          stallTimer := some 8000 })
    ∧ (MotorMayStart s → (s.back bk).motor.start = .reverse → (s.back bk).levels.filmOut = false →
      Answers (.motorStart bk) s fun t =>
        MotorBecomes s t bk { (s.back bk).motor with
          direction := .reverse, start := .stopped, speed := (s.back bk).motor.creep, ramping := true
          rewindTimer := some 800000 })
    ∧ (MotorMayStart s → (s.back bk).motor.start = .reverse → (s.back bk).levels.filmOut = true →
      Answers (.motorStart bk) s fun t =>
        MotorBecomes s t bk { (s.back bk).motor with
          direction := .reverse, start := .stopped, speed := (s.back bk).motor.creep, ramping := false
          rewindTimer := none, leaderTimer := some 40000 })
    ∧ (¬ MotorMayStart s ∨ (s.back bk).motor.start = .stopped → exec (.motorStart bk) s = .next s)
    ∧ ((s.back bk).motor.ramping = true → Answers (.rampStep bk) s fun t =>
        MotorBecomes s t bk { (s.back bk).motor with
          speed := min (s.back bk).motor.target ((s.back bk).motor.speed + (s.back bk).motor.ramp) })
    ∧ ((s.back bk).motor.ramping = false → exec (.rampStep bk) s = .next s)

/-- Perforations (R76, R80, R83): each one counted restarts the stall timer; a loading falls to creep after the 22nd and ends READY at
frame 1 with the 24th, a wind-on falls to creep after the 6th and ends READY at the next frame with the 8th; a waiting sequencer then
begins the settle delay (R58), measured on the model's clock (log 35); and with the motor not driven forward none is counted. -/
def Obligations.PerforationsEndLoadingAndWindOn : Prop :=
  ∀ (s : State) (bk : Back) (n : Nat), MemoryOk s →
    (Winds s bk .loading n ∧ n + 1 ≠ 22 ∧ n + 1 ≠ 24 ∨ Winds s bk .winding n ∧ n + 1 ≠ 6 ∧ n + 1 ≠ 8 →
      Answers (.perforation bk) s fun t => Perforated s t bk (counted (s.back bk).motor))
    ∧ (Winds s bk .loading n ∧ n + 1 = 22 ∨ Winds s bk .winding n ∧ n + 1 = 6 →
      Answers (.perforation bk) s fun t =>
        Perforated s t bk
          { counted (s.back bk).motor with speed := (s.back bk).motor.creep, ramping := false })
    ∧ (Winds s bk .loading n → n + 1 = 24 → s.gate.phase ≠ .frameWait →
      Answers (.perforation bk) s fun t =>
        WindEnded s t bk 1 ∧ t = { s with mem := t.mem, backA := t.backA, backB := t.backB })
    ∧ (Winds s bk .winding n → n + 1 = 8 → s.gate.phase ≠ .frameWait →
      Answers (.perforation bk) s fun t =>
        WindEnded s t bk ((s.back bk).gateFrame + 1) ∧ t = { s with mem := t.mem, backA := t.backA, backB := t.backB })
    ∧ (∀ (r : ShotRecord) (f : SetFrame), Winds s bk .winding n → n + 1 = 8 → ExposesNext s r f →
        s.gate.phase = .frameWait → r.back = bk → f.frame = (s.back bk).gateFrame + 1 →
      Answers (.perforation bk) s fun t =>
        WindEnded s t bk f.frame ∧ t.gate = { s.gate with settleTimer := some (20 * settleDelay s) }
          ∧ t = { s with mem := t.mem, backA := t.backA, backB := t.backB, gate := t.gate })
    ∧ (isLive s = true → (s.back bk).motor.direction ≠ .forward →
      Answers (.perforation bk) s fun t => Perforated s t bk (s.back bk).motor)

namespace Sys2Proof.Claims

/-- The back has jammed (R90): its motor is stopped, its blade is driven closed, its LIVE sheet is kept, and BACK_FAULT is set. -/
abbrev Jammed (s t : State) (bk : Back) : Prop :=
  (t.back bk).state = .jammed ∧ MotorStopped (t.back bk) ∧ (t.back bk).shutter.command = .close
    ∧ (t.back bk).shutter.timer = none ∧ (t.back bk).live = (s.back bk).live ∧ (t.back bk).origin = .none
    ∧ flagSet t .backFault = true ∧ KeepsOther bk s t

/-- Every RESERVED frame of the back's LIVE sheet but an excepted one has become UNUSED, and nothing else of common memory has changed
but the sheet's unused count and the back's state (R90). -/
abbrev DropsReserved (s t : State) (bk : Back) (except : Option Nat) : Prop :=
  (∀ w k, (s.back bk).live = some w → 1 ≤ k → k ≤ 40 →
      frameCode t ⟨bk, w⟩ k
        = if frameCode s ⟨bk, w⟩ k = 1 ∧ except ≠ some k then 4 else frameCode s ⟨bk, w⟩ k)
    ∧ reportByte t (backOffset bk) = 11
    ∧ KeepsBytes s t (fun a => a = 0x5D00 + backOffset bk
        ∨ ∃ w, (s.back bk).live = some w
          ∧ (a = sheetBase ⟨bk, w⟩ + 0x0A ∨ ∃ k, 1 ≤ k ∧ k ≤ 40 ∧ a = frameRecord ⟨bk, w⟩ k))

/-- A jam, and nothing else of the part: BACK_FAULT alone is set. -/
abbrev OnlyJams (s t : State) (bk : Back) (except : Option Nat) : Prop :=
  Jammed s t bk ∧ DropsReserved s t bk except ∧ RaisesOnly .backFault s t
    ∧ t = { s with mem := t.mem, backA := t.backA, backB := t.backB, control := t.control }

/-- A wind-on from frame k of the LIVE sheet stalls. -/
abbrev WindStalls (s : State) (bk : Back) (w : Which) (k : Nat) : Prop :=
  (s.back bk).state = .winding ∧ (s.back bk).motor.stallTimer ≠ none ∧ (s.back bk).live = some w
    ∧ (s.back bk).gateFrame = k ∧ k ≤ 40 ∧ (s.back bk).shutter.sinceReady = false

end Sys2Proof.Claims

/-- A stall (R80, R84, R85, R105): in LOADING a jam with the gate frame 0; winding from frame k a jam with the gate frame k when k is below
the capacity less 2, and otherwise a short roll, with no flag: the capacity is cut to k, the SHORT mark is set, frames used is k, RESERVED
frames above k are UNUSED, and the back is at ROLL_END or in its automatic rewind; a shot in its frame loop on that back ends. -/
def Obligations.StallIsAJamOrAShortRoll : Prop :=
  (∀ (s : State) (bk : Back), MemoryOk s → (s.back bk).state = .loading → (s.back bk).motor.stallTimer ≠ none →
    Answers (.stallTimeout bk) s fun t =>
      OnlyJams s t bk (if (s.back bk).shutter.sinceReady then some 0 else none) ∧ (t.back bk).gateFrame = 0)
  ∧ (∀ (s : State) (bk : Back) (w : Which) (k : Nat), MemoryOk s → WindStalls s bk w k → s.gate.phase.step ≠ .exposing →
      k + 2 < capacity s ⟨bk, w⟩ →
    Answers (.stallTimeout bk) s fun t => OnlyJams s t bk none ∧ (t.back bk).gateFrame = k)
  ∧ (∀ (s : State) (bk : Back) (w : Which) (k : Nat), MemoryOk s → WindStalls s bk w k → s.gate.phase.step ≠ .exposing →
      capacity s ⟨bk, w⟩ ≤ k + 2 → (∀ e ∈ s.orders.runList, e.sub ≠ .waitingRoll) →
    Answers (.stallTimeout bk) s fun t =>
      capacity t ⟨bk, w⟩ = k ∧ byteAt t (sheetBase ⟨bk, w⟩ + 7) = 1 ∧ framesUsed t ⟨bk, w⟩ = k
        ∧ (∀ j, 1 ≤ j → j ≤ 40 → frameCode t ⟨bk, w⟩ j
            = if k < j ∧ frameCode s ⟨bk, w⟩ j = 1 then 4 else frameCode s ⟨bk, w⟩ j)
        ∧ (t.back bk).state = (if autoRewind s = true then .rewinding else .rollEnd)
        ∧ (autoRewind s = true → (t.back bk).origin = .auto) ∧ (t.back bk).gateFrame = k ∧ (t.back bk).live = some w
        ∧ KeepsOther bk s t
        ∧ KeepsBytes s t (fun a => within (sheetBase ⟨bk, w⟩ + 5) 3 a ∨ a = sheetBase ⟨bk, w⟩ + 0x0A
            ∨ (∃ j, k < j ∧ j ≤ 40 ∧ a = frameRecord ⟨bk, w⟩ j) ∨ a = 0x5D00 + backOffset bk)
        ∧ t = { s with mem := t.mem, backA := t.backA, backB := t.backB })
  ∧ (∀ (s : State) (bk : Back) (w : Which) (k : Nat) (r : ShotRecord), MemoryOk s → WindStalls s bk w k →
      s.gate.shot = some r → r.calibrate = false → r.back = bk → s.gate.phase.step = .exposing →
      (∃ f ∈ r.frames, f.recorded = false) →
    Answers (.stallTimeout bk) s fun t =>
      t.gate.shot = none ∧ t.gate.phase = .idle ∧ (t.back bk).gateFrame = k ∧ (t.back bk).live = some w
        ∧ (k + 2 < capacity s ⟨bk, w⟩ → Jammed s t bk))

namespace Sys2Proof.Claims

/-- The retire cause a rewind's origin leads to (R108). -/
abbrev causeOf : RewindOrigin → Nat
  | .auto => 1
  | .left .rollEnd => 1
  | .left .ready => 2
  | .left .stale => 2
  | .left .jammed => 3
  | _ => 0

/-- The REWIND task e of the back has ended in a state with DONE in its hand (R44). -/
abbrev TaskEnded (s t : State) (e : OrderEntry) (code : Nat) : Prop :=
  recordedHand t e.slot = .done ∧ handFound t e.slot = 3 ∧ byteAt t (outcome e.slot) = code
    ∧ byteAt t (outcome e.slot + 1) = 0 ∧ flagSet t .orderDone = true
    ∧ t.orders.runList = s.orders.runList.filter fun x => decide (x.slot ≠ e.slot)

end Sys2Proof.Claims

/-- A rewind (R44, R89, R108, R109): the film-out switch stops the rewind timer, drops the speed to creep and starts the 2 s leader run; the
leader run's end leaves the back FILM_OUT with its LIVE sheet retired with the cause of its origin and the task COMPLETE; the rewind timer's
end jams the back with its sheet LIVE and ends the task FAILED_JAM; outside a rewind the film-out switch is a level alone. -/
def Obligations.RewindEndsAtFilmOutOrJams : Prop :=
  (∀ (s : State) (bk : Back), isLive s = true →
    Answers (.filmOutSwitch bk) s fun t =>
      t.back bk = { s.back bk with
          levels := { (s.back bk).levels with filmOut := true }
          motor := if (s.back bk).state = .rewinding ∧ (s.back bk).motor.rewindTimer ≠ none then
              { (s.back bk).motor with
                speed := (s.back bk).motor.creep, ramping := false, rewindTimer := none, leaderTimer := some 40000 }
            else (s.back bk).motor }
        ∧ KeepsOther bk s t ∧ t = { s with backA := t.backA, backB := t.backB })
  ∧ (∀ (s : State) (bk : Back), MemoryOk s → (s.back bk).state = .rewinding → (s.back bk).motor.leaderTimer ≠ none →
    Answers (.leaderRunEnd bk) s fun t =>
      (t.back bk).state = .filmOut ∧ (t.back bk).gateFrame = 0 ∧ MotorStopped (t.back bk) ∧ (t.back bk).live = none
        ∧ (t.back bk).origin = .none ∧ KeepsOther bk s t
        ∧ (∀ w, (s.back bk).live = some w →
            Retired s t ⟨bk, w⟩ (causeOf (s.back bk).origin) ∧ flagSet t .sheetRetired = true)
        ∧ (∀ w, (s.back bk).live = some w → rewindTask s bk = none →
            KeepsBytes s t (RetirementWrites bk ⟨bk, w⟩) ∧ RaisesOnly .sheetRetired s t)
        ∧ ((s.back bk).live = none → rewindTask s bk = none →
            KeepsBytes s t (fun a => a = 0x5D00 + backOffset bk) ∧ KeepsNotice s t)
        ∧ (rewindTask s bk = none →
            t = { s with mem := t.mem, backA := t.backA, backB := t.backB, control := t.control })
        ∧ (∀ e, rewindTask s bk = some e → TaskEnded s t e 1))
  ∧ (∀ (s : State) (bk : Back), MemoryOk s → (s.back bk).state = .rewinding → (s.back bk).motor.rewindTimer ≠ none →
    Answers (.rewindTimeout bk) s fun t =>
      Jammed s t bk ∧ (t.back bk).gateFrame = (s.back bk).gateFrame ∧ (t.back bk).origin = .none
        ∧ (rewindTask s bk = none →
            OnlyJams s t bk (if (s.back bk).shutter.sinceReady then some (s.back bk).gateFrame else none))
        ∧ (∀ e, rewindTask s bk = some e → TaskEnded s t e 9))

/-! ### Labels and the printer (R41, R42, R151 to R168) -/

namespace Sys2Proof.Claims

/-- The printer is in a state in which INQUIRE is sent (R160). -/
abbrev Inquires (s : State) : Prop :=
  s.labels.printer = .unknown ∨ s.labels.printer = .stockOut ∨ s.labels.printer = .lost

/-- Nothing of the part changes but the Label Unit. -/
abbrev OnlyLabels (s t : State) : Prop := t = { s with labels := t.labels }

/-- The order of the head goes on after this label. -/
abbrev HeadOrderGoesOn (s : State) (e : LabelEntry) : Prop :=
  ∀ o, findOrder s e.slot = some o → o.sub ≠ .finishing ∨ 2 ≤ o.outstanding

/-- The outstanding count of the slot's order is one less. -/
abbrev OutstandingFalls (s t : State) (n : Slot) : Prop :=
  t.orders = { s.orders with
    runList := s.orders.runList.map fun o => if o.slot = n then { o with outstanding := o.outstanding - 1 } else o }

/-- The head e of a withdrawn order is of a frame of its slot, and the order's account and its count of skipped labels have room. -/
abbrev HeadOnRecord (s : State) (e : LabelEntry) : Prop :=
  1 ≤ e.frame ∧ e.frame ≤ 40 ∧ frameSlot s e.sheet e.frame = e.slot ∧ accountIndex s e.slot ≤ 63
    ∧ wordAt s (outcome e.slot + 0x0C) < 65535

/-- The head of a withdrawn order is SKIPPED (R164, R165, R167): its price is released, the order's labels failed or skipped rises, and
its outstanding labels fall; the last one completes the order WITHDRAWN (R41, R42). -/
abbrev HeadSkipped (s t : State) (e : LabelEntry) : Prop :=
  labelCode t e.sheet e.frame = 5 ∧ wordAt t (outcome e.slot + 0x0C) = wordAt s (outcome e.slot + 0x0C) + 1
    ∧ wordAt t (frameRecord e.sheet e.frame + 0x0A) = wordAt s (frameRecord e.sheet e.frame + 0x0A)
    ∧ (HeadOrderGoesOn s e → labelPrice s ≤ remaining s e.slot →
        remaining t e.slot = remaining s e.slot - labelPrice s
          ∧ committed t (accountIndex s e.slot) = committed s (accountIndex s e.slot) - labelPrice s
          ∧ charged t e.slot = charged s e.slot
          ∧ spent t (accountIndex s e.slot) = spent s (accountIndex s e.slot) ∧ OutstandingFalls s t e.slot)
    ∧ (∀ o, findOrder s e.slot = some o → o.sub = .finishing → o.outstanding = 1 →
        recordedHand t e.slot = .done ∧ handFound t e.slot = 3 ∧ byteAt t (outcome e.slot) = 3
          ∧ byteAt t (outcome e.slot + 1) = 0 ∧ flagSet t .orderDone = true
          ∧ t.orders.runList = (s.orders.runList.filter fun x => decide (x.slot ≠ e.slot))
          ∧ CompletionAmounts s t e.slot o.rush 0)

/-- The reply of the head is overdue. -/
abbrev ReplyOverdue (s : State) (e : LabelEntry) (rest : List LabelEntry) : Prop :=
  started s = true ∧ s.labels.printer = .printing ∧ s.labels.replyTimer ≠ none ∧ s.labels.queue = e :: rest

end Sys2Proof.Claims

/-- The end of a transmission brings the next one to the line, starts the 2 s reply timer after a label while the printer is still
PRINTING, and starts the inquiry timer when an INQUIRE comes to the line (R158, R160, R161). The inquiry timer's end sends INQUIRE, after
a transmission in progress (R160). The reply timer's end sends the head again whole, and the second one loses the printer with
PRINTER_LOST and the head kept; a withdrawn order's head is SKIPPED instead, with its price released and its order completed when it was the
last (R164, R167). The line carries the byte 05H of an INQUIRE, or a label message: start byte, sequence byte, three lines each with its line
end, end byte, and the sum of these bytes, 7 to 79 bytes in all (R158). What waits behind a transmission in progress, and in
what order, is the model's choice (log 17). -/
def Obligations.PrinterTimersSendAgainOrLose : Prop :=
  (∀ (s : State) (x : Transmission) (rest : List Transmission), started s = true → s.labels.transmitter = x :: rest →
    Answers .transmissionEnd s fun t =>
      t.labels = { s.labels with
          transmitter := rest
          replyTimer := if isLabel x = true ∧ s.labels.printer = .printing then some 40000 else s.labels.replyTimer
          inquiryTimer := if rest.head? = some .inquire ∧ Inquires s then some 20000 else s.labels.inquiryTimer }
        ∧ OnlyLabels s t)
  ∧ (∀ s : State, started s = true → Inquires s → s.labels.inquiryTimer ≠ none →
    Answers .inquiryTimeout s fun t =>
      (s.labels.transmitter = [] →
          t.labels = { s.labels with transmitter := [.inquire], inquiryTimer := some 20000 })
        ∧ (∀ x rest, s.labels.transmitter = x :: rest → Transmission.inquire ∉ rest →
            t.labels = { s.labels with transmitter := x :: (rest ++ [.inquire]), inquiryTimer := none })
        ∧ OnlyLabels s t)
  ∧ (∀ (s : State) (e : LabelEntry) (rest : List LabelEntry), MemoryOk s → ReplyOverdue s e rest →
    (headWithdrawn s = false → s.labels.resend = false →
      Answers .replyTimeout s fun t =>
        t.labels = { s.labels with
            resend := true, replyTimer := none, transmitter := s.labels.transmitter ++ [.label (labelMessage e)] }
          ∧ OnlyLabels s t)
    ∧ (headWithdrawn s = false → s.labels.resend = true →
      Answers .replyTimeout s fun t =>
        t.labels.printer = .lost ∧ t.labels.queue = s.labels.queue ∧ t.labels.replyTimer = none
          ∧ Transmission.inquire ∈ t.labels.transmitter ∧ reportByte t 0x09 = 4 ∧ RaisesOnly .printerLost s t
          ∧ KeepsBytes s t (fun a => a = 0x5D09)
          ∧ t = { s with mem := t.mem, labels := t.labels, control := t.control })
    ∧ (headWithdrawn s = true → 1 ≤ e.frame → e.frame ≤ 40 →
      Answers .replyTimeout s fun t =>
        labelCode t e.sheet e.frame = 5
          ∧ t.labels.printer = (if s.labels.resend = true then .lost
              else if t.labels.queue = [] then .ready else .printing)
          ∧ (s.labels.resend = true → flagSet t .printerLost = true)
          ∧ (waitingCount s = 0 → t.labels.queue = rest)
          ∧ (HeadOnRecord s e → HeadSkipped s t e)))
  ∧ (∀ s : State, s.labels.transmitter.head? = some .inquire → bytesOnLine s = [0x05])
  ∧ (∀ (s : State) (m : List Byte), s.labels.transmitter.head? = some (.label m) → bytesOnLine s = m)
  ∧ ∀ (e : LabelEntry) (body : List Byte),
    body = [0x11, BitVec.ofNat 8 e.sequence] ++ e.line1 ++ [0x0A] ++ e.line2 ++ [0x0A] ++ e.line3 ++ [0x0A, 0x12] →
    (∃ check, labelMessage e = body ++ [check] ∧ check.toNat = (body.map BitVec.toNat).sum % 256)
      ∧ (e.line1.length ≤ 24 → e.line2.length ≤ 24 → e.line3.length ≤ 24 →
          7 ≤ (labelMessage e).length ∧ (labelMessage e).length ≤ 79)

namespace Sys2Proof.Claims

/-- A reply with the head's sequence byte is taken: the head e is on its frame, and the amounts hold its price. -/
abbrev HeadReplied (s : State) (q : Byte) (e : LabelEntry) (rest : List LabelEntry) : Prop :=
  started s = true ∧ s.labels.queue = e :: rest ∧ rest.length ≤ 31 ∧ q.toNat = e.sequence % 256
    ∧ (s.labels.printer = .printing ∨ s.labels.printer = .lost ∨ s.labels.printer = .stockOut)
    ∧ 1 ≤ e.frame ∧ e.frame ≤ 40 ∧ accountIndex s e.slot ≤ 63 ∧ AmountsHold s e.slot (labelPrice s) 0
    ∧ wordAt s (outcome e.slot + 0x0A) < 65535 ∧ wordAt s (outcome e.slot + 0x0C) < 65535

/-- The head has left the queue, and the printer goes on (R162 step 6). -/
abbrev HeadLeaves (s t : State) (rest : List LabelEntry) : Prop :=
  t.labels.queue = rest ∧ reportByte t 0x0A = rest.length ∧ t.labels.replyTimer = none ∧ t.labels.receiver = .idle
    ∧ t.labels.printer = (if s.labels.printer = .stockOut then .stockOut else if rest = [] then .ready else .printing)
    ∧ reportByte t 0x09
        = (if s.labels.printer = .stockOut then reportByte s 0x09 else if rest = [] then 1 else 2)

end Sys2Proof.Claims

/-- A matching ACK prints and charges the head's label, with the account's spent held at 16,777,215 (R176), and a matching NAK fails it and
releases its price; either lowers the order's count of outstanding labels and goes on to the new head; the ACK of a FINISHING order's last
label completes the order, a RUSH order with a frame EXPOSED paying the surcharge too, and what remains is released (R42, R180); a reply
that does not match returns the receiver to idle and changes nothing else (R41, R42, R162, R163, R175, R177). That ACK and NAK are whole replies,
taken in every state of the receiver, is the model's choice (log 15). -/
def Obligations.RepliesSettleTheHead : Prop :=
  (∀ (s : State) (q : Byte) (e : LabelEntry) (rest : List LabelEntry), MemoryOk s → HeadReplied s q e rest →
      HeadOrderGoesOn s e → waitingCount s = 0 →
    (Answers (.ack q) s fun t =>
        labelCode t e.sheet e.frame = 3 ∧ wordAt t (frameRecord e.sheet e.frame + 0x0A) = labelPrice s
          ∧ ChargedAndReleased s t e.slot (labelPrice s) 0
          ∧ wordAt t (outcome e.slot + 0x0A) = wordAt s (outcome e.slot + 0x0A) + 1
          ∧ HeadLeaves s t rest ∧ OutstandingFalls s t e.slot
          ∧ KeepsBytes s t (fun a => a = frameRecord e.sheet e.frame ∨ within (frameRecord e.sheet e.frame + 0x0A) 2 a
              ∨ within (outcome e.slot + 0x0A) 2 a ∨ within (outcome e.slot + 0x14) 8 a
              ∨ within (accountBase (accountIndex s e.slot) + 6) 2 a
              ∨ within (accountBase (accountIndex s e.slot) + 0x10) 8 a ∨ within 0x5D09 2 a)
          ∧ t = { s with mem := t.mem, labels := t.labels, orders := t.orders })
    ∧ (Answers (.nak q) s fun t =>
        labelCode t e.sheet e.frame = 4
          ∧ charged t e.slot = charged s e.slot ∧ remaining t e.slot = remaining s e.slot - labelPrice s
          ∧ committed t (accountIndex s e.slot) = committed s (accountIndex s e.slot) - labelPrice s
          ∧ spent t (accountIndex s e.slot) = spent s (accountIndex s e.slot)
          ∧ wordAt t (outcome e.slot + 0x0C) = wordAt s (outcome e.slot + 0x0C) + 1
          ∧ HeadLeaves s t rest ∧ OutstandingFalls s t e.slot
          ∧ KeepsBytes s t (fun a => a = frameRecord e.sheet e.frame
              ∨ within (outcome e.slot + 0x0C) 2 a ∨ within (outcome e.slot + 0x18) 4 a
              ∨ within (accountBase (accountIndex s e.slot) + 0x14) 4 a ∨ within 0x5D09 2 a)
          ∧ t = { s with mem := t.mem, labels := t.labels, orders := t.orders }))
  ∧ (∀ (s : State) (q : Byte) (e : LabelEntry) (rest : List LabelEntry) (o : OrderEntry), MemoryOk s →
      HeadReplied s q e rest → waitingCount s = 0 → findOrder s e.slot = some o → o.sub = .finishing → o.outstanding = 1 →
    Answers (.ack q) s fun t =>
      recordedHand t e.slot = .done ∧ handFound t e.slot = 3 ∧ remaining t e.slot = 0 ∧ flagSet t .orderDone = true
        ∧ byteAt t (outcome e.slot) = (if o.withdrawn = true then 3 else if allComplete s e.slot = true then 1 else 2)
        ∧ t.orders.runList = (s.orders.runList.filter fun x => decide (x.slot ≠ e.slot))
        ∧ CompletionAmounts s t e.slot o.rush (labelPrice s))
  ∧ (∀ (s : State) (q : Byte), started s = true →
      (∀ e, s.labels.queue.head? = some e → q.toNat ≠ e.sequence % 256)
        ∨ s.labels.printer = .unknown ∨ s.labels.printer = .ready →
    (Answers (.ack q) s fun t => t = { s with labels := { s.labels with receiver := .idle } })
      ∧ (Answers (.nak q) s fun t => t = { s with labels := { s.labels with receiver := .idle } }))

/-- What arrives on the printer line (R159, R165, R166): in idle 06H and 15H await the sequence byte of an ACK and of a NAK, 13H is a
READY reply, and any other byte is disregarded; awaiting, any byte completes the reply; a READY reply makes a printer that is UNKNOWN,
STOCK_OUT or LOST READY and sends it the head; a discarded byte is counted; and a break, reported once until the line returns to 1, sets
LABEL_STOCK and puts the printer in STOCK_OUT with its head kept, but for the head of a withdrawn order, which is SKIPPED at the entry (R165,
R167). That READY_REPLY is its byte and that the break counts its own byte are the model's choices (logs 15 and 16). -/
def Obligations.ReceivedBytesAndBreaks : Prop :=
  (∀ (s : State) (c : Byte), started s = true →
    (s.labels.receiver = .idle → Answers (.receivedByte c) s fun t =>
        (c = 0x06 → t = { s with labels := { s.labels with receiver := .awaitingAck, held := none } })
          ∧ (c = 0x15 → t = { s with labels := { s.labels with receiver := .awaitingNak, held := none } })
          ∧ (c ≠ 0x06 → c ≠ 0x15 → c ≠ 0x13 → t = { s with labels := { s.labels with held := none } }))
    ∧ (s.labels.receiver = .awaitingAck →
        exec (.receivedByte c) s = exec (.ack c) { s with labels := { s.labels with held := none } })
    ∧ (s.labels.receiver = .awaitingNak →
        exec (.receivedByte c) s = exec (.nak c) { s with labels := { s.labels with held := none } })
    ∧ exec .readyReply s = exec (.receivedByte 0x13) s)
  ∧ (∀ s : State, MemoryOk s → started s = true → s.labels.receiver = .idle →
    (¬ Inquires s → Answers .readyReply s fun t => t = { s with labels := { s.labels with held := none } })
    ∧ (Inquires s → s.labels.queue = [] → Answers .readyReply s fun t =>
        t.labels.printer = .ready ∧ t.labels.inquiryTimer = none ∧ t.labels.replyTimer = none ∧ t.labels.queue = []
          ∧ reportByte t 0x09 = 1 ∧ KeepsBytes s t (fun a => a = 0x5D09)
          ∧ t = { s with mem := t.mem, labels := t.labels })
    ∧ (∀ e rest, Inquires s → s.labels.queue = e :: rest → Answers .readyReply s fun t =>
        t.labels.printer = .printing ∧ t.labels.inquiryTimer = none ∧ t.labels.replyTimer = none
          ∧ t.labels.queue = s.labels.queue ∧ t.labels.resend = false
          ∧ t.labels.transmitter.getLast? = some (.label (labelMessage e)) ∧ reportByte t 0x09 = 2
          ∧ KeepsBytes s t (fun a => a = 0x5D09) ∧ t = { s with mem := t.mem, labels := t.labels }))
  ∧ (∀ (s : State) (f : ReceiveFault), MemoryOk s → started s = true →
    Answers (.receiveError f) s fun t =>
      t.labels = { s.labels with receiver := .idle, errors := min 65535 (s.labels.errors + 1) }
        ∧ wordAt t 0x5D14 = t.labels.errors ∧ KeepsBytes s t (within 0x5D14 2)
        ∧ t = { s with mem := t.mem, labels := t.labels })
  ∧ (∀ s : State, MemoryOk s → started s = true → s.labels.breakSeen = false →
      headWithdrawn s = false ∨ s.labels.printer = .stockOut →
    Answers .lineBreak s fun t =>
      t.labels.printer = .stockOut ∧ t.labels.queue = s.labels.queue ∧ t.labels.breakSeen = true
        ∧ t.labels.receiver = .idle ∧ t.labels.errors = min 65535 (s.labels.errors + 1)
        ∧ (s.labels.printer ≠ .stockOut →
            t.labels.replyTimer = none ∧ reportByte t 0x09 = 3 ∧ Transmission.inquire ∈ t.labels.transmitter)
        ∧ RaisesOnly .labelStock s t ∧ KeepsBytes s t (fun a => a = 0x5D09 ∨ within 0x5D14 2 a)
        ∧ t = { s with mem := t.mem, labels := t.labels, control := t.control })
  ∧ (∀ (s : State) (e : LabelEntry) (rest : List LabelEntry), MemoryOk s → started s = true → s.labels.breakSeen = false →
      headWithdrawn s = true → s.labels.queue = e :: rest → s.labels.printer ≠ .stockOut → HeadOnRecord s e →
    Answers .lineBreak s fun t =>
      HeadSkipped s t e ∧ t.labels.printer = .stockOut ∧ t.labels.breakSeen = true ∧ t.labels.receiver = .idle
        ∧ t.labels.errors = min 65535 (s.labels.errors + 1) ∧ t.labels.replyTimer = none ∧ reportByte t 0x09 = 3
        ∧ Transmission.inquire ∈ t.labels.transmitter ∧ flagSet t .labelStock = true ∧ flagSeen t .labelStock = false
        ∧ (waitingCount s = 0 → t.labels.queue = rest)
        ∧ t = { s with mem := t.mem, labels := t.labels, control := t.control, orders := t.orders })
  ∧ (∀ s : State, s.labels.breakSeen = true → exec .lineBreak s = .next s)
  ∧ (∀ s : State, started s = true → Answers .lineReturnedToOne s fun t =>
      t = { s with labels := { s.labels with breakSeen := false } })

namespace Sys2Proof.Claims

/-- The texts of the field codes for frame k of a sheet, from the records as they stand (R152, R153). -/
abbrev FieldsAsRecorded (s : State) (sh : Sheet) (k : Nat) (f : LabelFields) : Prop :=
  f.accountText = characters s (accountBase (accountIndex s (frameSlot s sh k)) + 2) 4
    ∧ f.profileText = characters s (profileBase (orderProfile s (frameSlot s sh k)) + 8) 4
    ∧ f.captionText = characters s (shotEntry (frameSlot s sh k) (frameShot s sh k) + 6) 12
    ∧ f.orderText = decimal5 (wordAt s (frameRecord sh k + 4)) ∧ f.rollText = decimal5 (rollSerial s sh)
    ∧ f.frameText = decimal2 k ∧ f.copyText = [digit (frameCopy s sh k)]
    ∧ f.bracketText = bracketMark (bracketCount s (frameSlot s sh k) (frameShot s sh k)) (framePosition s sh k)

/-- A line is made of a style line: expanded, its control characters as spaces, and cut at 24 (R152, R154). -/
abbrev MadeOf (f : LabelFields) (line style : List Byte) : Prop :=
  line.length = min 24 (expandLine f style).length ∧ (∀ c ∈ line, 0x20 ≤ c.toNat)
    ∧ ∀ (i : Nat) (c : Byte), i < 24 → (expandLine f style)[i]? = some c →
        line.getD i 0 = if c.toNat < 0x20 then 0x20 else c

/-- The frame waits, and it was issued before every other frame that waits (R157). -/
abbrev WaitsFirst (s : State) (sh : Sheet) (k : Nat) : Prop :=
  1 ≤ k ∧ k ≤ 40 ∧ labelCode s sh k = 1
    ∧ ∀ (x : Sheet) (j : Nat), 1 ≤ j → j ≤ 40 → labelCode s x j = 1 → (x, j) ≠ (sh, k) →
        issuedBefore (frameSequence s sh k) (frameSequence s x j) = true

end Sys2Proof.Claims

/-- A label's composition (R152, R153, R154). A character field runs from its first byte up to the first byte of 0 or to its full length; a number
is its decimal digits with leading zeros; the bracket mark is B-2 to B+2 and empty for a bracket count of 1. In a style line "^" with one of
the eight letters O, A, R, F, B, C, P and T gives that field's text, "^" with any other character and every other character are copied as they
stand, and so is a "^" at the end. The entry holds the sheet, the frame, its sequence number, its order slot, and the three lines of the
order's style so expanded, with control characters as spaces, each cut at 24. -/
def Obligations.LabelsAreComposedByTheirStyles : Prop :=
  (∀ (s : State) (a n : Nat),
    (characters s a n).length ≤ n ∧ (∀ c ∈ characters s a n, c ≠ 0)
      ∧ (∀ i, i < (characters s a n).length → (characters s a n)[i]? = some (Memory.read s.mem (a + i)))
      ∧ ((characters s a n).length < n → Memory.read s.mem (a + (characters s a n).length) = 0))
  ∧ (∀ x, x < 65536 → (decimal5 x).length = 5 ∧ (decimal5 x).foldl (fun v c => 10 * v + (c.toNat - 0x30)) 0 = x)
  ∧ (∀ x, x < 100 → (decimal2 x).length = 2 ∧ (decimal2 x).foldl (fun v c => 10 * v + (c.toNat - 0x30)) 0 = x)
  ∧ (∀ p : Int, bracketMark 1 p = [])
  ∧ (∀ n, n ≠ 1 → bracketMark n (-2) = [0x42, 0x2D, 0x32] ∧ bracketMark n (-1) = [0x42, 0x2D, 0x31]
      ∧ bracketMark n 0 = [0x42, 0x30] ∧ bracketMark n 1 = [0x42, 0x2B, 0x31] ∧ bracketMark n 2 = [0x42, 0x2B, 0x32])
  ∧ (∀ (f : LabelFields) (c d : Byte) (rest : List Byte),
    expandLine f [] = [] ∧ expandLine f [c] = [c]
      ∧ (c ≠ 0x5E → expandLine f (c :: rest) = c :: expandLine f rest)
      ∧ (d = 0x4F → expandLine f (0x5E :: d :: rest) = f.orderText ++ expandLine f rest)
      ∧ (d = 0x41 → expandLine f (0x5E :: d :: rest) = f.accountText ++ expandLine f rest)
      ∧ (d = 0x52 → expandLine f (0x5E :: d :: rest) = f.rollText ++ expandLine f rest)
      ∧ (d = 0x46 → expandLine f (0x5E :: d :: rest) = f.frameText ++ expandLine f rest)
      ∧ (d = 0x42 → expandLine f (0x5E :: d :: rest) = f.bracketText ++ expandLine f rest)
      ∧ (d = 0x43 → expandLine f (0x5E :: d :: rest) = f.copyText ++ expandLine f rest)
      ∧ (d = 0x50 → expandLine f (0x5E :: d :: rest) = f.profileText ++ expandLine f rest)
      ∧ (d = 0x54 → expandLine f (0x5E :: d :: rest) = f.captionText ++ expandLine f rest)
      ∧ (d ∉ [0x4F, 0x41, 0x52, 0x46, 0x42, 0x43, 0x50, 0x54] →
          expandLine f (0x5E :: d :: rest) = 0x5E :: d :: expandLine f rest))
  ∧ ∀ (s : State) (sh : Sheet) (k style : Nat), style = styleBase (styleIndex s (frameSlot s sh k)) →
    ∃ f, FieldsAsRecorded s sh k f
      ∧ (composeLabel s sh k).sheet = sh ∧ (composeLabel s sh k).frame = k
      ∧ (composeLabel s sh k).sequence = frameSequence s sh k ∧ (composeLabel s sh k).slot = frameSlot s sh k
      ∧ MadeOf f (composeLabel s sh k).line1 (characters s (style + 0x08) 24)
      ∧ MadeOf f (composeLabel s sh k).line2 (characters s (style + 0x20) 24)
      ∧ MadeOf f (composeLabel s sh k).line3 (characters s (style + 0x38) 24)

/-- Labels queue in the order of issue. A reply that frees the one place of a full queue promotes the WAITING frame issued first, of all four
sheets: its label is composed and QUEUED at the tail, the waiting count falls by one, and every other WAITING label waits on (R155, R157). Of
two different numbers the first is the earlier exactly when the second lies 1 to 8,388,607 numbers after it, so of two numbers issued fewer
than 8,388,607 apart exactly one is the earlier, also across the return from 16,777,215 to 1 (R106, R107). -/
def Obligations.LabelsQueueInIssueOrder : Prop :=
  (∀ (s : State) (q : Byte) (e : LabelEntry) (rest : List LabelEntry) (sh : Sheet) (k : Nat), MemoryOk s →
      HeadReplied s q e rest → HeadOrderGoesOn s e → rest.length = 31 → 0 < waitingCount s →
      labelCode s e.sheet e.frame = 2 → WaitsFirst s sh k → LabelSourced s sh k →
    (Answers (.ack q) s fun t =>
        labelCode t e.sheet e.frame = 3 ∧ labelCode t sh k = 2 ∧ t.labels.queue = rest ++ [composeLabel t sh k]
          ∧ waitingCount t = waitingCount s - 1 ∧ reportByte t 0x0A = 32 ∧ OutstandingFalls s t e.slot
          ∧ ∀ (x : Sheet) (j : Nat), 1 ≤ j → j ≤ 40 → (x, j) ≠ (sh, k) → labelCode s x j = 1 → labelCode t x j = 1)
    ∧ (Answers (.nak q) s fun t =>
        labelCode t e.sheet e.frame = 4 ∧ labelCode t sh k = 2 ∧ t.labels.queue = rest ++ [composeLabel t sh k]
          ∧ waitingCount t = waitingCount s - 1 ∧ reportByte t 0x0A = 32 ∧ OutstandingFalls s t e.slot
          ∧ ∀ (x : Sheet) (j : Nat), 1 ≤ j → j ≤ 40 → (x, j) ≠ (sh, k) → labelCode s x j = 1 → labelCode t x j = 1))
  ∧ (∀ a b : Nat, a ≤ 16777215 → b ≤ 16777215 →
    (issuedBefore a b = true ↔ 1 ≤ ((b : Int) - a) % 16777216 ∧ ((b : Int) - a) % 16777216 ≤ 8388607))
  ∧ (∀ a b : Nat, a ≤ 16777215 → b ≤ 16777215 → a ≠ b → ((b : Int) - a) % 16777216 ≠ 8388608 →
    (issuedBefore a b = true ↔ issuedBefore b a = false))
  ∧ (∀ a n : Nat, 1 ≤ a → a ≤ 16777215 → 1 ≤ n → n ≤ 8388606 →
      issuedBefore a (nextSequence^[n] a) = true ∧ 1 ≤ nextSequence^[n] a ∧ nextSequence^[n] a ≤ 16777215)

/-! ### Laws that every step keeps -/

/-- Every step keeps the canonical form of common memory: every byte that is not 0 once, at rising addresses inside the 32 KiB. -/
def Obligations.MemoryFormIsKept : Prop :=
  ∀ s t : State, MemoryOk s → step s = .next t → MemoryOk t

/-- Every step keeps the lamp's law of motion (R136, R137): the lamp is on in METER_ON and EXPOSE_ON alone, and never while a back motor
is driven, the carriage homes or shifts, or the feeder moves. -/
def Obligations.LampMotionLawIsKept : Prop :=
  ∀ s t : State, MotionLaw s → step s = .next t → MotionLaw t

/-- Every step keeps the law of exposures (R86, R137, R142), and under it an exposure runs only while exactly one back is SHUTTER_OPEN
and that back is in line. -/
def Obligations.ExposureLawIsKept : Prop :=
  (∀ s t : State, ExposureLaw s → step s = .next t → ExposureLaw t)
  ∧ ∀ s : State, ExposureLaw s → exposing s = true →
      ∃ bk, (s.back bk).state = .shutterOpen ∧ inLine s bk = true ∧ (s.back (otherBack bk)).state ≠ .shutterOpen

/-- Every step keeps the law of hands (R9, R29): a slot is in the intake queue exactly while FILED is recorded and in the run list
exactly while TAKEN or WITHDRAW is, once in either, and the work at the gate belongs to an order of the run list that is AT_GATE. -/
def Obligations.HandsLawIsKept : Prop :=
  ∀ s t : State, HandsLaw s → step s = .next t → HandsLaw t

/-- Every step keeps the law of commitments (R178, with R9, R29 and R179, which keep it): from the end of the zeroing on, the committed of every
account is the sum of the remaining commitments of the orders of the run list charged to it; a slot without a COPY order in the run list has
none. -/
def Obligations.CommitmentLawIsKept : Prop :=
  ∀ s t : State, CommitmentLaw s → step s = .next t → CommitmentLaw t

namespace Sys2Proof.Claims

/-- The frames of a sheet up to its capacity that are not BLANK. -/
abbrev takenFrames (s : State) (sh : Sheet) : Nat :=
  (frameNumbers.filter fun k => decide (k ≤ capacity s sh) && decide (frameCode s sh k ≠ 0)).length

/-- The RESERVED frames of a sheet up to its capacity. -/
abbrev reservedFrames (s : State) (sh : Sheet) : Nat :=
  (frameNumbers.filter fun k => decide (k ≤ capacity s sh) && decide (frameCode s sh k = 1)).length

end Sys2Proof.Claims

/-- Every step keeps the law of sheets (R9, R29, R103, R104, R137), and under it, from the end of the zeroing on, on every LIVE or RETIRED sheet
frames used is the number of frames up to the capacity that are not BLANK and does not exceed the capacity, the exposed, spoiled and unused
counts with the RESERVED frames are frames used, and on a RETIRED sheet the three counts are the capacity. -/
def Obligations.SheetLawIsKept : Prop :=
  (∀ s t : State, SheetLaw s → step s = .next t → SheetLaw t)
  ∧ ∀ (s : State) (sh : Sheet), SheetLaw s → isLive s = true → sheetHand s sh = .live ∨ sheetHand s sh = .retired →
      framesUsed s sh = takenFrames s sh ∧ framesUsed s sh ≤ capacity s sh ∧ capacity s sh ≤ 40
        ∧ exposedCount s sh + spoiledCount s sh + unusedCount s sh + reservedFrames s sh = framesUsed s sh
        ∧ (sheetHand s sh = .retired →
            reservedFrames s sh = 0 ∧ exposedCount s sh + spoiledCount s sh + unusedCount s sh = capacity s sh)

/-- The reset state meets the laws that every step keeps. The state right after reset is the part held in a power-on reset, with the
values that logs 5 and 20 name. -/
def Obligations.LawsHoldAtReset : Prop :=
  MemoryOk State.reset ∧ MotionLaw State.reset ∧ ExposureLaw State.reset ∧ HandsLaw State.reset
    ∧ CommitmentLaw State.reset ∧ SheetLaw State.reset
end

