-- ==== Sys2Proof/Laws/Ops.lean ====
section
/-! SUPPORT. What each shared operation can do, said once: which parts of the state it may change, what it leaves in them, and
that it keeps the canonical form of common memory. -/

namespace Sys2Proof.Laws

open Sys2Proof Sys2Proof.Machine Sys2Proof.Safety

/-! ### Amounts change common memory alone -/

/-- Two changes of common memory alone are one. -/
theorem only_mem_trans {s t u : State} (h : t = { s with mem := t.mem }) (k : u = { t with mem := u.mem }) :
    u = { s with mem := u.mem } := by
  rw [k, h]

theorem setByte_only_mem (a n : Nat) (s : State) : setByte a n s = { s with mem := (setByte a n s).mem } := rfl

theorem setWord_only_mem (a n : Nat) (s : State) : setWord a n s = { s with mem := (setWord a n s).mem } :=
  only_mem_trans (setByte_only_mem _ _ s) (setByte_only_mem _ _ _)

theorem setLong_only_mem (a n : Nat) (s : State) : setLong a n s = { s with mem := (setLong a n s).mem } :=
  only_mem_trans (setWord_only_mem _ _ s) (setWord_only_mem _ _ _)

theorem report_only_mem (a n : Nat) (s : State) : report a n s = { s with mem := (report a n s).mem } :=
  setByte_only_mem _ _ s

theorem lowerCommitment_only_mem (n : Slot) (x : Nat) (s : State) :
    lowerCommitment n x s = { s with mem := (lowerCommitment n x s).mem } :=
  only_mem_trans (setLong_only_mem _ _ s) (setLong_only_mem _ _ _)

theorem release_only_mem (n : Slot) (x : Nat) (s : State) : release n x s = { s with mem := (release n x s).mem } :=
  lowerCommitment_only_mem n x s

theorem commit_only_mem (n : Slot) (x : Nat) (s : State) : commit n x s = { s with mem := (commit n x s).mem } :=
  setLong_only_mem _ _ s

theorem raiseSpent_only_mem (i x : Nat) (s : State) : raiseSpent i x s = { s with mem := (raiseSpent i x s).mem } := by
  unfold raiseSpent; split
  · exact only_mem_trans (setLong_only_mem _ _ s) (setWord_only_mem _ _ _)
  · exact setLong_only_mem _ _ s

theorem charge_only_mem (n : Slot) (x : Nat) (s : State) : charge n x s = { s with mem := (charge n x s).mem } :=
  only_mem_trans (only_mem_trans (setLong_only_mem _ _ s) (lowerCommitment_only_mem _ _ _)) (raiseSpent_only_mem _ _ _)

theorem chargeFrame_only_mem (n : Slot) (x : Nat) (s : State) :
    chargeFrame n x s = { s with mem := (chargeFrame n x s).mem } :=
  only_mem_trans (charge_only_mem n x s) (setLong_only_mem _ _ _)

theorem settleStep_only_mem (i : Nat) (s : State) : settleStep i s = { s with mem := (settleStep i s).mem } :=
  only_mem_trans (only_mem_trans (only_mem_trans (only_mem_trans (setWord_only_mem _ _ s) (setWord_only_mem _ _ _))
    (setLong_only_mem _ _ _)) (setLong_only_mem _ _ _)) (setWord_only_mem _ _ _)

theorem refreshWanted_only_mem (s : State) : refreshWanted s = { s with mem := (refreshWanted s).mem } := by
  unfold refreshWanted; split <;> exact only_mem_trans (report_only_mem _ _ s) (report_only_mem _ _ _)

theorem memoryOk_report {a n : Nat} {s : State} (h : MemoryOk s) : MemoryOk (report a n s) := memoryOk_setByte h

theorem memoryOk_lowerCommitment {n : Slot} {x : Nat} {s : State} (h : MemoryOk s) : MemoryOk (lowerCommitment n x s) :=
  memoryOk_setLong (memoryOk_setLong h)

theorem memoryOk_release {n : Slot} {x : Nat} {s : State} (h : MemoryOk s) : MemoryOk (release n x s) :=
  memoryOk_lowerCommitment h

theorem memoryOk_commit {n : Slot} {x : Nat} {s : State} (h : MemoryOk s) : MemoryOk (commit n x s) := memoryOk_setLong h

theorem memoryOk_raiseSpent {i x : Nat} {s : State} (h : MemoryOk s) : MemoryOk (raiseSpent i x s) := by
  unfold raiseSpent; split
  · exact memoryOk_setWord (memoryOk_setLong h)
  · exact memoryOk_setLong h

theorem memoryOk_charge {n : Slot} {x : Nat} {s : State} (h : MemoryOk s) : MemoryOk (charge n x s) :=
  memoryOk_raiseSpent (memoryOk_lowerCommitment (memoryOk_setLong h))

theorem memoryOk_chargeFrame {n : Slot} {x : Nat} {s : State} (h : MemoryOk s) : MemoryOk (chargeFrame n x s) :=
  memoryOk_setLong (memoryOk_charge h)

theorem memoryOk_settleStep {i : Nat} {s : State} (h : MemoryOk s) : MemoryOk (settleStep i s) :=
  memoryOk_setWord (memoryOk_setLong (memoryOk_setLong (memoryOk_setWord (memoryOk_setWord h))))

theorem memoryOk_refreshWanted {s : State} (h : MemoryOk s) : MemoryOk (refreshWanted s) := by
  unfold refreshWanted; split <;> exact memoryOk_report (memoryOk_report h)

/-! ### Hands and the end of an order -/

theorem recordedHand_same (n : Slot) (h : SlotHand) (s : State) : recordedHand (recordHand n h s) n = h := by
  simp [recordedHand, recordHand]

theorem recordedHand_other {n m : Slot} (h : SlotHand) (s : State) (hm : m ≠ n) :
    recordedHand (recordHand n h s) m = recordedHand s m := by
  have : n.val ≠ m.val := fun e => hm (Fin.ext e.symm)
  simp [recordedHand, recordHand, this]

theorem finishOrder_orders (n : Slot) (o : OrderState) (s : State) :
    (finishOrder n o s).orders =
      { s.orders with
        recorded := s.orders.recorded.set n.val .done n.isLt
        runList := s.orders.runList.filter fun e => decide (e.slot ≠ n) } := by
  unfold finishOrder; dsimp only; rw [refreshWanted_only_mem]; rfl

theorem memoryOk_recordHand {n : Slot} {h : SlotHand} {s : State} (hm : MemoryOk s) : MemoryOk (recordHand n h s) := hm

theorem memoryOk_writeHand {n : Slot} {h : SlotHand} {s : State} (hm : MemoryOk s) : MemoryOk (writeHand n h s) := by
  unfold writeHand; exact memoryOk_recordHand (memoryOk_setWord hm)

theorem memoryOk_setRunList {l : List OrderEntry} {s : State} (h : MemoryOk s) : MemoryOk (setRunList l s) := h

theorem memoryOk_raise {f : Flag} {s : State} (h : MemoryOk s) : MemoryOk (raise f s) := h

theorem memoryOk_finishOrder {n : Slot} {o : OrderState} {s : State} (h : MemoryOk s) : MemoryOk (finishOrder n o s) := by
  unfold finishOrder
  exact memoryOk_refreshWanted (memoryOk_raise (memoryOk_setRunList (memoryOk_writeHand
    (memoryOk_setByte (memoryOk_setByte h)))))

/-! ### Holds, pulses and drives -/

/-- A hold condition holds every stand state but STOPPED. -/
theorem holdStand_spec (c : HoldCause) (s : State) :
    holdStand c s = if s.control.stand = .stopped then s else enterHeld c s := by
  unfold holdStand; cases s.control.stand <;> rfl

theorem memoryOk_setStand {st : StandState} {c : HoldCause} {s : State} (h : MemoryOk s) : MemoryOk (setStand st c s) := by
  unfold setStand; exact memoryOk_report (memoryOk_report h)

theorem memoryOk_enterHeld {c : HoldCause} {s : State} (h : MemoryOk s) : MemoryOk (enterHeld c s) := by
  unfold enterHeld; exact memoryOk_raise (memoryOk_setStand h)

/-- A report on a pulse changes the sequencer and the back of its shot alone. -/
theorem reportPulse_only (p : PendingResult) (s : State) :
    reportPulse p s =
      { s with gate := (reportPulse p s).gate, backA := (reportPulse p s).backA, backB := (reportPulse p s).backB } := by
  unfold reportPulse
  split
  · split
    · unfold commandClose setBack; dsimp only; split <;> rfl
    · rfl
  · rfl

theorem cutPulse_lamp (c : SpoilCause) (s : State) : (cutPulse c s).lamp = (endPulse s).lamp := by
  unfold cutPulse; rw [reportPulse_only]

theorem abandonScan_idle {s : State} (h : s.exposure.scan = .idle) : abandonScan s = s := by
  unfold abandonScan; rw [if_pos h]

/-- An abandoned scan changes the Exposure Unit, the lamp and the sequencer's phase alone. -/
theorem abandonScan_only (s : State) :
    abandonScan s =
      { s with exposure := (abandonScan s).exposure, lamp := (abandonScan s).lamp, gate := (abandonScan s).gate } := by
  unfold abandonScan endPulse endScan; dsimp only
  split
  · rfl
  · split <;> split <;> rfl

/-- A drive that starts finds the lamp IDLE, or leaves it IDLE (R137). -/
theorem startDrive_idle (s : State) : (startDrive s).lamp.mode = .idle := by
  unfold startDrive
  split
  · assumption
  · unfold abandonScan endPulse endScan; dsimp only
    split
    · rfl
    · split <;> split <;> rfl
  · rw [cutPulse_lamp]; rfl
  · rw [cutPulse_lamp]; rfl

/-- The end of a conversion changes the converter alone. -/
theorem endConversion_only (q : Requester) (s : State) :
    endConversion q s = { s with converter := (endConversion q s).converter } := by
  unfold endConversion; split <;> rfl

/-- The converter takes the supply request first, then the lamp's, then the next conversion of a metering round, and never
interrupts one (R114). -/
theorem takeNext_spec (waiting : Nat) (c : Converter) :
    (∀ q, c.converting = some q → takeNext waiting c = c)
      ∧ (c.converting = none →
          (takeNext waiting c).converting
            = (if c.supply then some .supply else if c.lamp then some .lamp
                else if 0 < waiting then some .metering else none)) := by
  constructor
  · intro q h; unfold takeNext; rw [h]
  · intro h; unfold takeNext; rw [h]; dsimp only; repeat' split
    all_goals first | rfl | assumption

/-- A motor start changes the motor of its back alone. -/
theorem startMotor_other (bk x : Back) (s : State) (h : x ≠ bk) : (startMotor bk s).back x = s.back x := by
  unfold startMotor setMotor; split
  · cases bk <;> cases x <;> first | rfl | exact absurd rfl h
  · rfl

theorem startMotor_mem (bk : Back) (s : State) : (startMotor bk s).mem = s.mem := by
  unfold startMotor; split
  · cases bk <;> rfl
  · rfl

/-- A step on an empty queue is one lamp tick. -/
theorem step_idle {s : State} (h : s.pending = []) : step s = .next (tick s) := by
  unfold step; rw [h]

end Sys2Proof.Laws
end

