-- ==== Sys2Proof/Tests/Slice0.lean ====
section
/-! SUPPORT. Tests: what WellFormed refuses, single steps and values checked against the manual's tables and worked examples, and for
each statement states and operands that meet its hypotheses. -/

namespace Sys2Proof.Tests

open Sys2Proof Sys2Proof.Machine Sys2Proof.Safety Sys2Proof.Claims

/-! ### Small states -/

/-- The state a command answers; the state itself if it answers none. -/
def after (c : Instr) (s : State) : State :=
  match exec c s with
  | .next t => t
  | .fault _ => s
  | .refused _ => s

/-- Words stored in common memory. -/
def poke (l : List (Nat × Nat)) (s : State) : State := l.foldl (fun s x => setWord x.1 x.2 s) s

/-- A part whose start-up has ended: STOPPED, back A in line, the tray at position 1. -/
def idle : State :=
  { State.reset with
    control := { Control.reset with startUp := .ended }
    carriage := { Carriage.reset with state := .lineA, endA := true }
    feeder := { Feeder.reset with position := 1 } }

/-- The stand in a state. -/
def stand (st : StandState) (s : State) : State := { s with control := { s.control with stand := st } }

/-- The stand RUNNING with nothing to do. -/
def run : State := stand .running idle

/-- First levels with every switch open and no film. -/
def openLevels0 : BackLevels := levelsAtReset

/-- First levels of a stand whose carriage and feeder are at home or not. -/
def inputs (home : Bool) : InputLevels :=
  { backA := openLevels0, backB := { openLevels0 with cassette := true }, lidOpen := false, home := home
    originalPresent := true, endA := home, endB := false }

/-! ### WellFormed refuses what it should -/

theorem test_wellFormed_refuses_notice : (Instr.ignoredRegisterWrite .notice 0).wellFormed = false := by decide
theorem test_wellFormed_refuses_noticeEn : (Instr.ignoredRegisterWrite .noticeEn 0).wellFormed = false := by decide
theorem test_wellFormed_takes_stand : (Instr.ignoredRegisterWrite .stand 7).wellFormed = true := by decide
theorem test_wellFormed_refuses_blade :
    (Instr.zeroingEnd { inputs true with
      backA := { openLevels0 with shutterOpen := true, shutterClose := true } }).wellFormed = false := by decide
theorem test_wellFormed_refuses_other_blade :
    (Instr.zeroingEnd { inputs true with
      backB := { openLevels0 with shutterOpen := true, shutterClose := true } }).wellFormed = false := by decide
theorem test_wellFormed_refuses_both_lines :
    (Instr.zeroingEnd { inputs true with endA := true, endB := true }).wellFormed = false := by decide

/-! ### Values of the manual's tables and examples -/

/-- The codes and levels of R120's table. -/
theorem test_levels : [1, 2, 3, 255, 256, 600, 820, 1000, 2048, 3900, 4095].map level
    = [0, 12, 19, 95, 96, 110, 116, 119, 132, 143, 143] := by decide

/-- The exponents and ticks of R130's table, and the three of chapter 11. -/
theorem test_ticks : [48, 60, 72, 84, 96, 108, 120, 132, 144, 156, 168, 180, 191, 107, 113, 119].map lampTicks
    = [16, 32, 64, 128, 256, 512, 1024, 2048, 4096, 8192, 16384, 32768, 61824, 483, 684, 966] := by decide

/-- QUARTER at E 59 where low light is permitted, FULL at E 60 (R129). -/
theorem test_intensity : intensityOf true 59 = .quarter ∧ intensityOf true 60 = .full ∧ intensityOf false 59 = .full := by
  decide

/-- E0 170 at position +2 with a step of a stop is clamped high; E0 30 at position -1 is clamped low (R128). -/
theorem test_clamps : (planPosition 170 12 false 2).exposure = 191 ∧ (planPosition 170 12 false 2).high = true
    ∧ (planPosition 30 12 false (-1)).exposure = 24 ∧ (planPosition 30 12 false (-1)).low = true := by decide

/-- The numbers 16,777,214, 16,777,215, 1 and 2 stand in that order of issue (R107). -/
theorem test_issue_order : issuedBefore 16777214 16777215 = true ∧ issuedBefore 16777215 1 = true ∧ issuedBefore 1 2 = true
    ∧ issuedBefore 2 16777214 = false ∧ nextSequence 16777215 = 1 := by decide

/-- The sag example of chapter 7: F_s 2600, R_s 2800, N_s 3, eleven samples. -/
theorem test_sag_example :
    let run := fun (x : Supply) (l : List Nat) => l.foldl (fun x c => sampleSupply 2600 2800 3 c x) x
    let ok : Supply := { sag := false, below := 0, above := 0 }
    run ok [2650, 2590, 2580] = { sag := false, below := 2, above := 0 }
      ∧ run ok [2650, 2590, 2580, 2570] = { sag := true, below := 0, above := 0 }
      ∧ run ok [2650, 2590, 2580, 2570, 2750, 2810, 2820, 2790] = { sag := true, below := 0, above := 0 }
      ∧ run ok [2650, 2590, 2580, 2570, 2750, 2810, 2820, 2790, 2830, 2840, 2850] = { sag := false, below := 0, above := 0 } :=
  by decide

/-- Bytes stored one after another. -/
def pokeBytes (a : Nat) (l : List Nat) (s : State) : State :=
  (l.zipIdx.foldl (fun s x => setByte (a + x.2) x.1 s) s)

/-- The slot, sheet, account, profile and style of the composing example of chapter 8. -/
def labelState : State :=
  let s := poke [(0x1004, 2710), (0x1006, 0x0206), (0x1008, 0x0100), (0x4002, 2215)] idle
  let s := setByte (shotEntry 4 3 + 1) 3 s
  let s := pokeBytes (shotEntry 4 3 + 6) [0x52, 0x4F, 0x4D, 0x41, 0x4E, 0x20, 0x46, 0x4F, 0x52, 0x55, 0x4D] s
  let s := pokeBytes (accountBase 6 + 2) [0x48, 0x49, 0x53, 0x54] s
  let s := pokeBytes (styleBase 1 + 0x08) [0x5E, 0x41, 0x20, 0x5E, 0x4F, 0x20, 0x5E, 0x52, 0x2F, 0x5E, 0x46] s
  let s := pokeBytes (styleBase 1 + 0x20) [0x5E, 0x54, 0x20, 0x5E, 0x42, 0x20, 0x43, 0x5E, 0x43] s
  let s := pokeBytes (styleBase 1 + 0x38) [0x5E, 0x54, 0x5E, 0x54, 0x5E, 0x54] s
  pokeBytes (frameRecord ⟨.a, .first⟩ 15) [0x42, 4, 3, 0, 0x96, 0x0A, 0, 0, 0, 0, 0, 0, 143] s

/-- The three lines of the composing example. -/
theorem test_label_lines :
    let e := composeLabel labelState ⟨.a, .first⟩ 15
    e.line1.map BitVec.toNat = [0x48, 0x49, 0x53, 0x54, 0x20, 0x30, 0x32, 0x37, 0x31, 0x30, 0x20, 0x30, 0x32, 0x32, 0x31, 0x35,
        0x2F, 0x31, 0x35]
      ∧ e.line2.map BitVec.toNat = [0x52, 0x4F, 0x4D, 0x41, 0x4E, 0x20, 0x46, 0x4F, 0x52, 0x55, 0x4D, 0x20, 0x42, 0x30, 0x20,
        0x43, 0x31]
      ∧ e.line3.length = 24 ∧ e.sequence = 143 := by decide

/-- An empty label's message has 7 bytes: start, sequence, three line ends, end, and their sum (R158). -/
theorem test_shortest_message :
    labelMessage { sheet := ⟨.a, .first⟩, frame := 1, sequence := 0x12C, slot := 0, line1 := [], line2 := [], line3 := [] }
      = [0x11, 0x2C, 0x0A, 0x0A, 0x0A, 0x12, 0x6D] := by decide

/-- The flag example of chapter 10: what the host read is cleared, what was set again since is kept. -/
theorem test_notice_example :
    let s0 := raise .sheetRetired (raise .orderDone run)
    let s1 := after .noticeRead s0
    let s2 := after (.noticeWrite 0) (raise .orderDone s1)
    s1.hostData = 0x0005 ∧ hostReadRegister s2 .notice = 0x0001
      ∧ hostReadRegister (after (.noticeWrite 0) (after .noticeRead s2)) .notice = 0 := by decide

/-- The saturation example of chapter 9: spent stops at 16,777,215, the mark is set, committed falls by the price. -/
theorem test_saturation_example :
    let s0 := setLong (accountBase 40 + 0x14) 300 (setLong (accountBase 40 + 0x10) 16777180 (setByte 6 40 idle))
    let s1 := charge 0 45 (setRemaining 0 300 s0)
    spent s1 40 = 16777215 ∧ saturatedMark s1 40 = 1 ∧ committed s1 40 = 255 ∧ charged s1 0 = 45 := by decide

/-- Once spent stands at 16,777,215 a charge of 0 writes the saturated mark 1 again (R176). -/
theorem test_saturated_mark_again :
    let s0 := setLong (accountBase 40 + 0x10) 16777215 (setByte 6 40 idle)
    saturatedMark (charge 0 0 s0) 40 = 1 ∧ spent (charge 0 0 s0) 40 = 16777215 := by decide

/-- Address bits 1 and 2 choose the register, and the four repeat every 8 bytes (R1). -/
theorem test_register_select :
    [(0x0000 : Addr), 0x0002, 0x0005, 0x0006, 0x7FF8, 0x7FFB, 0x000C, 0x7FFF].map registerAt
      = [.ident, .notice, .noticeEn, .stand, .ident, .notice, .noticeEn, .stand] := by decide

/-- The settle of that example: 16,000,000 leaves 777,215 spent. -/
theorem test_settle_example :
    let s0 := setLong (accountBase 40 + 0x10) 16777215 (setWord (accountBase 40 + 6) 1 run)
    let s1 := after (.hostMemoryWrite 0x550E 0xF4) s0
    let s2 := after (.settle 40) (after (.hostMemoryWrite 0x550C 0x2400) s1)
    spent s2 40 = 777215 ∧ lastSettled s2 40 = 16000000 ∧ saturatedMark s2 40 = 0 ∧ wordAt s2 0x550C = 0 := by decide

/-- An order of the run list. -/
def entry (n : Slot) (k : OrderKind) (sub : SubState) : OrderEntry :=
  { slot := n, kind := k, rush := false, sub := sub, started := false, withdrawn := false, outstanding := 0 }

/-- The take example of chapter 2: slot 9 is RUSH with frame sets of 3, 10 and 3 on profile 2. -/
def takeState : State :=
  let s := poke [(0x2400, 1), (0x2402, 1), (0x2404, 900), (0x2406, 0x0206), (0x2408, 1), (0x240A, 3),
    (0x2420, 0x0301), (0x2422, 0x0101), (0x2434, 0x0502), (0x2436, 0x0201), (0x2448, 0x0103), (0x244A, 0x0301),
    (0x50C0, 1), (0x50C8, 20000), (0x50D0, 12600), (0x50D4, 5900), (0x5840, 1), (0x5904, 45), (0x5910, 12),
    (0x5912, 500), (0x5A00, 1), (0x5C40, 1)] run
  let s := recordHand 9 .filed (recordHand 7 .filed (recordHand 3 .filed s))
  let s := recordHand 1 .taken (recordHand 4 .taken s)
  setIntake [3, 7, 9] (setRunList [entry 1 .copy .atGate, entry 4 .copy .waitingRun] s)

theorem test_take_example :
    let t := after .take takeState
    recordedHand t 9 = .taken ∧ plannedCommitment t 9 = 1412 ∧ remaining t 9 = 1412 ∧ committed t 6 = 7312
      ∧ t.orders.intake = [3, 7] ∧ t.orders.runList.map OrderEntry.slot = [9, 1, 4] := by decide

/-- A back that holds a LIVE first sheet. -/
def loaded (st : BackState) (frame : Nat) (u : BackUnit) : BackUnit :=
  { u with state := st, live := some .first, gateFrame := frame, handFirst := .live }

/-- A motor that winds forward under its stall timer. -/
def winding (u : BackUnit) : BackUnit :=
  { u with motor := { u.motor with direction := .forward, creep := 40, target := 200, ramp := 8, speed := 40, ramping := true
                                   stallTimer := some 5 } }

/-- Sheet A0 with 36 frames, 10 used, LIVE on back A. -/
def filmState (st : BackState) (frame : Nat) (s : State) : State :=
  poke [(0x4000, 2), (0x4002, 2215), (0x4004, 0x2402), (0x4006, 10)] { s with backA := loaded st frame s.backA }

/-- Winding from frame 34 of 36 a stall is a short roll; from frame 33 it is a jam (the table of R84). -/
theorem test_stall_table :
    let s := fun k => { filmState .winding k run with backA := winding (loaded .winding k run.backA) }
    let t34 := after (.stallTimeout .a) (s 34)
    let t33 := after (.stallTimeout .a) (s 33)
    capacity t34 ⟨.a, .first⟩ = 34 ∧ t34.backA.state = .rollEnd ∧ flagSet t34 .backFault = false
      ∧ capacity t33 ⟨.a, .first⟩ = 36 ∧ t33.backA.state = .jammed ∧ flagSet t33 .backFault = true := by
  set_option maxRecDepth 10000 in decide

/-- A loading ends READY at frame 1 with the 24th perforation (R80). -/
theorem test_loading_ends :
    let u := winding (loaded .loading 0 run.backA)
    let s := { filmState .loading 0 run with backA := { u with motor := { u.motor with perforations := 23 } } }
    (after (.perforation .a) s).backA.state = .ready ∧ (after (.perforation .a) s).backA.gateFrame = 1 := by decide

/-- The door example of chapter 4: an opening in WINDING jams the back and retires its sheet. -/
theorem test_door_example :
    let s := { filmState .winding 20 run with backA := winding (loaded .winding 20 run.backA) }
    let t := after (.doorOpening .a) s
    t.backA.state = .jammed ∧ t.backA.gateFrame = 0 ∧ t.backA.motor.direction = .stopped ∧ t.backA.live = none
      ∧ sheetHandFound t ⟨.a, .first⟩ = 3 ∧ flagSet t .backFault = true ∧ flagSet t .sheetRetired = true := by
  set_option maxRecDepth 10000 in decide

/-- Slots are handled in the order of their host writes, and a slot is in the pending slot order once (R6). -/
theorem test_slot_order :
    let s := [(5 : Addr), 2, 5].foldl (fun s n => after (.hostMemoryWrite (n * 0x400) 1) s) run
    s.watch.slotOrder = [5, 2] := by decide

/-- A write to a part-owned word is dropped: 0200H of slot 0 keeps 0 and its address is recorded (R14). -/
theorem test_guard :
    let t := after (.hostMemoryWrite 0x0200 7) run
    wordAt t 0x0200 = 0 ∧ wordAt t 0x5D12 = 0x0200 ∧ flagSet t .guardHit = true := by decide

/-- A RUN under an open lid is refused (R68). -/
theorem test_run_refused :
    let t := after .run { idle with lidOpen := true }
    t.control.stand = .held ∧ t.control.cause = .lid ∧ flagSet t .standHeld = true := by decide

/-- The carriage homes to line A, and a move of the feeder from position 0 begins with a homing run (R91, R94). -/
theorem test_homing :
    let s := after (.zeroingEnd (inputs false)) (after .resetRelease State.reset)
    s.carriage.state = .homing ∧ (after .feederHomeSwitch (after (.carriageEndSwitch .a) s)).control.startUp = .ended
      ∧ (after (.carriageEndSwitch .a) s).control.startUp = .homing := by decide

/-! ### States that meet the hypotheses of the statements -/

/-- A shot of slot 0 on back A with two frames to expose. -/
def shot : ShotRecord :=
  { slot := 0, shot := 0, calibrate := false, back := .a, which := .first, planned := 2
    plans := [{ position := 0, exposure := 113, low := false, high := false, intensity := .full, ticks := 684 }]
    frames := [{ frame := 11, position := 0, copy := 1, recorded := false },
               { frame := 12, position := 0, copy := 2, recorded := false }]
    tally := [], reshoots := 0, result := .none }

/-- A CALIBRATE task at the gate. -/
def task : ShotRecord := { shot with calibrate := true, planned := 0, plans := [], frames := [] }

/-- Work at the gate in a phase. -/
def atGate (p : GatePhase) (r : ShotRecord) (s : State) : State :=
  { s with gate := { s.gate with phase := p, shot := some r } }

/-- The run list holds one order of slot 0, TAKEN. -/
def withOrder (e : OrderEntry) (s : State) : State := recordHand 0 .taken (setRunList [e] s)

/-- The RUNNING stand with the sequencer in a phase on `shot`, back A loaded at frame 11 of A0, whose frame 11 is RESERVED. -/
def exposingAt (p : GatePhase) (st : BackState) : State :=
  setByte 0x4006 12 (setByte (frameRecord ⟨.a, .first⟩ 11) 0x41
    (withOrder (entry 0 .copy .atGate) (atGate p shot (filmState st 11 run))))

/-- The shutter of back A in a command with its timer. -/
def shutterOf (c : ShutterCommand) (s : State) : State :=
  { s with backA := { s.backA with shutter := { command := c, timer := some 9, sinceReady := true, outstanding := true } } }

/-- The lamp in a mode for a pulse of back A. -/
def lampOn (m : LampMode) (s : State) : State :=
  { s with lamp := { s.lamp with mode := m, output := if m = .wait then .off else .full, counter := 3, trigger := some .a
                                 active := some { ticks := 684, intensity := .full }, threshold := 100 } }

/-- An exposure of `shot` in a mode. -/
def pulseState (m : LampMode) : State := lampOn m (shutterOf .open (exposingAt .passage .shutterOpen))

/-- A scan of some work in a state of the lamp. -/
def scanState (x : ScanState) (m : LampMode) (r : ShotRecord) : State :=
  let s := withOrder (entry 0 .copy .atGate) (atGate .meterScan r run)
  { s with exposure := { s.exposure with scan := x, darkRounds := 4, litRounds := 4, lit := ⟨4000, 4000, 4000⟩ }
           lamp := { s.lamp with mode := m, output := if m = .meterOn then .full else .off } }

/-- A millisecond after the lamp-on both monitors ask; the supply conversion is made first and the lamp conversion waits (R114). -/
theorem test_converter_priority :
    let s := { lampOn .exposeOn run with converter := { Converter.reset with sinceSupply := 19 } }
    let t := tick { s with lamp := { s.lamp with counter := 684 - 19 } }
    t.converter = { converting := some .supply, supply := false, lamp := true, sinceSupply := 0 }
      ∧ after (.lampSenseSample 0) t = t
      ∧ (after (.supplySample 4095) t).converter.converting = some .lamp := by decide

theorem witness_step : { run with pending := [Instr.hold] }.pending = Instr.hold :: [] := by decide

theorem witness_host_write :
    (MemoryOk run ∧ isLive run = true ∧ guarded run (evenAddr 0x7FFF) = false ∧ guarded run (evenAddr 0x0000) = false
      ∧ guarded run (evenAddr 0x01FF) = false)
    ∧ (guarded run (evenAddr 0x0200) = true ∧ guarded run (evenAddr 0x5DFF) = true ∧ isLive State.reset = false)
    ∧ (Register.ident = .ident ∧ ((7 : Word) ≠ 1 ∧ (7 : Word) ≠ 2 ∧ (7 : Word) ≠ 0xC303) ∧ atWork State.reset = false) := by
  decide

theorem witness_guard :
    (0x3FE < 0x400 ∧ 0x3FE % 2 = 0 ∧ 0x1E < 0x20 ∧ 0x1E % 2 = 0 ∧ 0x5800 ≤ 0x5800 ∧ 0x7FFE < 0x8000 ∧ 0x7FFE % 2 = 0)
    ∧ recordedHand (withOrder (entry 0 .copy .atGate) run) 0 = .taken := by decide

theorem witness_notice : isLive run = true ∧ flagSet (raise .supplySag run) .supplySag = true
    ∧ intAsserted (after (.noticeEnWrite 0x20) (raise .supplySag run)) = true := by decide

theorem witness_run :
    (MemoryOk idle ∧ atWork idle = true ∧ QuietGate idle ∧ idle.control.stand ≠ .running ∧ idle.lidOpen = false)
    ∧ (let s := { stand .holdPending idle with lidOpen := true }
       atWork s = true ∧ QuietGate s ∧ s.control.stand = .holdPending)
    ∧ (let s := { stand .held idle with lidOpen := true }
       atWork s = true ∧ s.lidOpen = true ∧ s.control.stand = .held)
    ∧ atWork State.reset = false ∧ run.control.stand = .running
    ∧ (let s := { idle with carriage := Carriage.reset }
       atWork s = true ∧ s.control.stand = .stopped ∧ s.lidOpen = false ∧ s.gate.rested = false ∧ s.lamp.mode = .idle
         ∧ s.carriage.state = .fault ∧ s.carriage.endA = false) := by decide

/-- The stand HELD with the sequencer at rest in a phase on `shot`, whose tray position is 5. -/
def restAt (p : GatePhase) (s : State) : State :=
  setByte 0x20 5 (atGate p shot (stand .held { s with gate := { s.gate with rested := true } }))

theorem witness_rest_points :
    (MemoryOk (restAt .meterWait run) ∧ RestsHeld (restAt .meterWait run) shot ∧ RestsHeld (restAt .feedArrived run) shot
      ∧ (restAt .meterWait run).carriage.state ≠ .fault)
    ∧ (let s := restAt .feedTimedOut { run with feeder := { run.feeder with position := 5 } }
       RestsHeld s shot ∧ s.feeder.position = trayPosition s 0 0)
    ∧ (let s := restAt .feedTimedOut run
       RestsHeld s shot ∧ s.feeder.position ≠ trayPosition s 0 0 ∧ s.feeder.position ≠ 0)
    ∧ (let s := fun p c => restAt p { run with carriage := { run.carriage with state := c } }
       RestsHeld (s .meterEnd .lineB) shot ∧ RestsHeld (s .shiftWait .lineB) shot ∧ lineOf (otherBack shot.back) = .lineB
         ∧ RestsHeld (s .meterEnd .homing) shot ∧ RestsHeld (s .shiftWait .homing) shot
         ∧ RestsHeld (s .shiftWait .fault) shot) := by
  refine ⟨by decide, by decide, by decide, by decide⟩

theorem witness_rests_before_a_passage :
    (RestsHeld (restAt .shiftEnd run) shot ∧ ¬ CanTake (restAt .shiftEnd run) shot)
    ∧ (let s := fun st k => restAt .frameWait (filmState st k run)
       RestsHeld (s .ready 11) shot
         ∧ nextFrame shot = some { frame := 11, position := 0, copy := 1, recorded := false }
         ∧ (s .ready 11).backA.gateFrame = 11 ∧ (s .winding 10).backA.state = .winding
         ∧ (s .stale 10).backA.state = .stale ∧ (s .ready 10).backA.gateFrame < 11
         ∧ (s .ready 10).backA.live = some .first ∧ 10 ≠ capacity (s .ready 10) ⟨.a, .first⟩) := by decide

theorem witness_hold :
    (let s := exposingAt .passage .shutterOpen
     MemoryOk s ∧ atWork s = true ∧ s.control.stand = .running ∧ s.gate.phase.boundary = false)
    ∧ (MemoryOk run ∧ atWork run = true ∧ run.control.stand = .running ∧ run.gate.phase.boundary = true
        ∧ run.gate.shot = none)
    ∧ (let s := exposingAt .armed .ready
       atWork s = true ∧ s.control.stand = .running ∧ s.gate.phase.boundary = true ∧ s.gate.shot = some shot
         ∧ recordedHand s shot.slot ≠ .withdraw)
    ∧ atWork State.reset = false ∧ idle.control.stand ≠ .running := by decide

theorem witness_stand_reset :
    let s := exposingAt .passage .shutterOpen
    MemoryOk s ∧ atWork s = true ∧ (s.orders.runList.map OrderEntry.slot).Nodup ∧ s.orders.runList ≠ []
      ∧ (∀ e ∈ s.orders.runList, e.kind = .copy → accountIndex s e.slot ≤ 63)
      ∧ (∀ x ∈ s.labels.queue, 1 ≤ x.frame ∧ x.frame ≤ 40) ∧ s.gate.shot = some shot ∧ shot.shot < 24 ∧ FramesOnSheet shot
      ∧ s.gate.phase = .passage ∧ frameCode s ⟨.a, .first⟩ 11 = 1 ∧ shutterInPassage s.backA ∧ ¬ shutterInPassage s.backB
      ∧ (exposingAt .armed .ready).gate.phase ≠ .passage ∧ (filmState .rewinding 11 run).backA.state = .rewinding
      ∧ labelCode (setByte (frameRecord ⟨.b, .second⟩ 40) 0x0A s) ⟨.b, .second⟩ 40 = 1 := by decide

theorem witness_stand_reset_end :
    let s := { idle with control := { idle.control with resetting := true } }
    MemoryOk s ∧ s.control.resetting = true ∧ s.backA.shutter.timer = none ∧ s.backB.shutter.timer = none := by decide

theorem witness_resets : State.reset.control.startUp = .held .powerOn
    ∧ (after .resetRelease State.reset).control.startUp = .zeroing .powerOn := by decide

theorem witness_release_ignored : ∀ c, idle.control.startUp ≠ .held c := by intro c; cases c <;> decide

theorem witness_feeder_homing :
    let s := after (.zeroingEnd (inputs false)) (after .resetRelease State.reset)
    MemoryOk s ∧ FeederHomesAtStartUp s ∧ s.feeder.homingTimer ≠ none ∧ s.carriage.state = .homing := by decide

/-- Slot 0's mark is pending with a recorded hand and a value in its hand word. -/
def marked (h : SlotHand) (found : Nat) : State :=
  let s := setWord 0 found (recordHand 0 h run)
  { s with watch := { s.watch with slotOrder := [0] } }

theorem witness_slot_hands :
    (MemoryOk (marked .empty 0) ∧ SlotMarkDue (marked .empty 0) 0
      ∧ handFound (marked .empty 0) 0 = (recordedHand (marked .empty 0) 0).code)
    ∧ (SlotMarkDue (marked .done 1) 0 ∧ recordedHand (marked .done 1) 0 = .done ∧ handFound (marked .done 1) 0 = 1)
    ∧ (SlotMarkDue (marked .filed 0) 0 ∧ recordedHand (marked .filed 0) 0 = .filed ∧ handFound (marked .filed 0) 0 = 0)
    ∧ (SlotMarkDue (marked .done 0) 0 ∧ recordedHand (marked .done 0) 0 = .done ∧ handFound (marked .done 0) 0 = 0)
    ∧ (SlotMarkDue (marked .done 4) 0 ∧ recordedHand (marked .done 4) 0 = .done ∧ handFound (marked .done 4) 0 = 4)
    ∧ (SlotMarkDue (marked .taken 0) 0
        ∧ ¬ (recordedHand (marked .taken 0) 0 = .taken ∧ handFound (marked .taken 0) 0 = 4)
        ∧ ¬ slotPairListed (recordedHand (marked .taken 0) 0) (handFound (marked .taken 0) 0)) := by decide

/-- An order's withdrawal is due. -/
def withdrawing (e : OrderEntry) (p : GatePhase) : State :=
  setRunList [e] (atGate p shot (marked .taken 4))

theorem witness_withdrawal :
    (let e := entry 0 .copy .atGate
     MemoryOk (withdrawing e .passage) ∧ WithdrawalDue (withdrawing e .passage) 0 e ∧ e.kind = .copy ∧ e.sub = .atGate
       ∧ (withdrawing e .passage).gate.phase.boundary = false)
    ∧ (let e := { entry 0 .rewind .atGate with started := true }
       WithdrawalDue (withdrawing e .idle) 0 e ∧ e.kind ≠ .copy ∧ e.started = true)
    ∧ (let e := entry 0 .calibrate .waitingRun
       WithdrawalDue (withdrawing e .idle) 0 e ∧ e.kind ≠ .copy ∧ e.started = false) := by decide

/-- A label of slot 0 for frame 11 of A0, with a sequence number. -/
def labelOf (q : Nat) : LabelEntry :=
  { sheet := ⟨.a, .first⟩, frame := 11, sequence := q, slot := 0, line1 := [], line2 := [], line3 := [] }

/-- Labels in the queue of a printer. -/
def labelled (p : PrinterState) (l : List LabelEntry) (s : State) : State :=
  { s with labels := { s.labels with queue := l, printer := p } }

/-- A COPY order's withdrawal is due, not at the gate, with its one label at the printer or not. -/
theorem witness_withdrawal_of_copy :
    let e := { entry 0 .copy .waitingRun with outstanding := 1 }
    let s := fun p => labelled p [labelOf 300] (withdrawing e .idle)
    MemoryOk (s .lost) ∧ WithdrawalDue (s .lost) 0 e ∧ e.sub ≠ .atGate ∧ accountIndex (s .lost) 0 ≤ 63
      ∧ EntriesNamed (s .lost) 0 ∧ e.outstanding ≤ skippedLabels (s .lost) 0 ∧ WithdrawalDue (s .printing) 0 e
      ∧ skippedLabels (s .printing) 0 < e.outstanding ∧ framesExposed (s .lost) 0 = 0 ∧ waitingCount (s .lost) = 0 := by
  set_option maxRecDepth 20000 in decide

/-- A COPY order's withdrawal is due with its shot at a frame boundary, in a running and in a held stand. -/
theorem witness_withdrawal_at_boundary :
    let e := entry 0 .copy .atGate
    let s := withdrawing e .frameWait
    MemoryOk s ∧ WithdrawalDue s 0 e ∧ s.gate.phase.boundary = true ∧ s.gate.shot = some shot ∧ shot.slot = 0
      ∧ shot.calibrate = false ∧ shot.shot < 24 ∧ FramesOnSheet shot ∧ accountIndex s 0 ≤ 63 ∧ s.control.stand = .running
      ∧ EntriesNamed s 0 ∧ wordAt s (outcome 0 + 4) < 65535 ∧ WithdrawalDue (stand .held s) 0 e
      ∧ frameCode (setByte (frameRecord ⟨.a, .first⟩ 12) 1 s) ⟨.a, .first⟩ 12 = 1 := by decide

/-- Sheet A0's mark is set with a recorded hand and a value in its hand word. -/
def sheetMarked (h : SheetHand) (found : Nat) (st : BackState) : State :=
  let s := setWord 0x4000 found { run with backA := { run.backA with state := st, handFirst := h } }
  { s with watch := { s.watch with sheetMarks := [⟨.a, .first⟩] } }

theorem witness_sheet_hands :
    (MemoryOk (sheetMarked .live 2 .ready) ∧ SheetMarkDue (sheetMarked .live 2 .ready) ⟨.a, .first⟩)
    ∧ (SheetMarkDue (sheetMarked .clear 1 .ready) ⟨.a, .first⟩
        ∧ sheetHand (sheetMarked .clear 1 .ready) ⟨.a, .first⟩ = .clear
        ∧ sheetHandFound (sheetMarked .clear 1 .ready) ⟨.a, .first⟩ = 1)
    ∧ (sheetHand (sheetMarked .prepared 0 .ready) ⟨.a, .first⟩ = .prepared
        ∧ sheetHandFound (sheetMarked .prepared 0 .ready) ⟨.a, .first⟩ = 0)
    ∧ (sheetHand (sheetMarked .retired 0 .empty) ⟨.a, .first⟩ = .retired
        ∧ sheetOutstanding (sheetMarked .retired 0 .empty) ⟨.a, .first⟩ = false)
    ∧ sheetOutstanding (setByte (frameRecord ⟨.a, .first⟩ 40) 0x12 (sheetMarked .retired 0 .empty)) ⟨.a, .first⟩ = true
    ∧ ¬ sheetPairListed (sheetHand (sheetMarked .live 0 .ready) ⟨.a, .first⟩)
        (sheetHandFound (sheetMarked .live 0 .ready) ⟨.a, .first⟩) := by decide

theorem witness_prepared_sheet :
    (let s := setByte 0x5800 1 (sheetMarked .clear 1 .awaitingSheet)
     MemoryOk s ∧ (atWork s = true ∧ (⟨.a, .first⟩ : Sheet) ∈ s.watch.sheetMarks ∧ s.backA.state = .awaitingSheet)
       ∧ sheetHand s ⟨.a, .first⟩ = .clear ∧ sheetHandFound s ⟨.a, .first⟩ = 1
       ∧ sheetHand s ⟨.a, .second⟩ ≠ .prepared ∧ sheetProfile s ⟨.a, .first⟩ ≤ 7
       ∧ byteAt s (profileBase (sheetProfile s ⟨.a, .first⟩)) ≠ 0)
    ∧ (let s := sheetMarked .clear 1 .awaitingSheet
       byteAt s (profileBase (sheetProfile s ⟨.a, .first⟩)) = 0)
    ∧ (let s := setByte 0x4004 8 (sheetMarked .clear 1 .awaitingSheet)
       7 < sheetProfile s ⟨.a, .first⟩) := by decide

theorem witness_settle :
    let s := { run with watch := { run.watch with settleMarks := [63] } }
    MemoryOk s ∧ atWork s = true ∧ (63 : Account) ∈ s.watch.settleMarks := by decide

theorem witness_refusal :
    let s := setIntake [2] (recordHand 2 .filed run)
    MemoryOk s ∧ (atWork s = true ∧ activeOrders s < 4 ∧ s.orders.intake.head? = some 2 ∧ isRush s 2 = false
      ∧ (2 : Slot) ∉ s.watch.slotOrder ∧ recordedHand s 2 = .filed) ∧ checkOrder s 2 = .inl .badKind := by decide

theorem witness_accepted :
    MemoryOk takeState ∧ (atWork takeState = true ∧ activeOrders takeState < 4
      ∧ takeState.orders.intake = [3, 7] ++ 9 :: [] ∧ isRush takeState 9 = true
      ∧ (∀ m ∈ ([3, 7] : List Slot), isRush takeState m = false) ∧ (9 : Slot) ∉ takeState.watch.slotOrder
      ∧ recordedHand takeState 9 = .filed) ∧ checkOrder takeState 9 = .inr .copy := by decide

/-- The kinds of the checks of R24 and R25, and an order that fails the last check alone. -/
theorem witness_checks :
    kindByte takeState 9 = 1 ∧ kindByte run 0 ≠ 1 ∧ kindByte run 0 ≠ 2 ∧ kindByte run 0 ≠ 3
      ∧ kindByte (setByte 2 2 run) 0 = 2 ∧ kindByte (setByte 2 3 run) 0 = 3
      ∧ checkOrder (setLong 0x50C8 1 takeState) 9 = .inl .overCeiling
      ∧ checkOrder (setWord 0x5C40 0 (setLong 0x50C8 1 takeState)) 9 = .inl .notCalibrated := by decide

/-- A COPY order of slot 0 with one shot of three frames on profile 2 and back A. -/
def copyState (used : Nat) : State :=
  setByte 0x4006 used (poke [(0x02, 0x0101), (0x06, 0x0200), (0x0A, 1), (0x20, 0x0302), (0x22, 0x0101)]
    (withOrder (entry 0 .copy .waitingRun) (filmState .ready 11 run)))

theorem witness_served :
    let s := copyState 33
    let e := entry 0 .copy .waitingRun
    MemoryOk s ∧ ChoiceOverMany s ∧ s.orders.runList = [] ++ e :: [] ∧ NextIs s e 0 3 ∧ BackServes s 0 3 .a .first
      ∧ inLine s .a = true ∧ recordedHand s 0 ≠ .withdraw ∧ s.lamp.mode = .idle ∧ s.feeder.position ≠ 0
      ∧ s.feeder.drive = .stopped ∧ s.feeder.position ≠ trayPosition s 0 0 := by
  set_option maxRecDepth 20000 in decide

/-- Two orders under EITHER with two matching backs: slot 1's profile has room on back B alone, which is winding; slot 0's has it on
back A. -/
def twoOrders : State :=
  let s := poke [(0x02, 0x0001), (0x402, 0x0001), (0x406, 0x0100), (0x40A, 1), (0x420, 0x0101), (0x422, 0x0100),
    (0x4800, 2), (0x4804, 0x2401)] (copyState 33)
  setRunList [entry 1 .copy .waitingRun, entry 0 .copy .waitingRun]
    (recordHand 1 .taken { s with backB := loaded .winding 3 s.backB })

theorem witness_passed_over :
    GoesPast twoOrders (entry 1 .copy .waitingRun) ∧ MemoryOk twoOrders ∧ ChoiceOverMany twoOrders
      ∧ twoOrders.orders.runList = [entry 1 .copy .waitingRun] ++ entry 0 .copy .waitingRun :: []
      ∧ NextIs twoOrders (entry 0 .copy .waitingRun) 0 3 ∧ BackServes twoOrders 0 3 .a .first
      ∧ backChoice twoOrders 0 = 0 := by
  refine ⟨?_, by set_option maxRecDepth 20000 in decide⟩
  refine .inr (.inr (.inr (.inr ⟨0, 1, by set_option maxRecDepth 20000 in decide, ⟨.b, .first, ?_⟩, ?_⟩)))
  · set_option maxRecDepth 20000 in decide
  · intro bk w
    cases bk <;> cases w <;> set_option maxRecDepth 20000 in decide

/-- With back A's roll at its end and back B winding, every order is gone past. -/
theorem witness_all_gone_past : ∀ x ∈ (setRunList [entry 1 .copy .waitingRun] twoOrders).orders.runList,
    GoesPast twoOrders x := by
  intro x h
  obtain rfl : x = entry 1 .copy .waitingRun := by simpa [setRunList] using h
  exact witness_passed_over.1

/-- The order of `copyState` on a roll of a capacity, with a number of shots and of outstanding labels, in a sub-state. -/
def rollState (cap shots labels : Nat) (sub : SubState) (s : State) : State :=
  setByte 0x4005 cap (poke [(0x02, 0x0101), (0x06, 0x0200), (0x0A, shots), (0x20, 0x0302), (0x22, 0x0101), (0x34, 0x0104),
      (0x36, 0x0100), (0x5904, 45), (0x5910, 12), (0x0218, 342), (0x5014, 342)]
    (withOrder { entry 0 .copy sub with outstanding := labels } s))

/-- A shot of three frames exceeds a roll of two: the order's only shot with no label and with one outstanding, and a first shot with a
second one of one frame behind it. -/
theorem witness_exceeds :
    let s := fun n k => setByte 0x4006 1 (rollState 2 n k .waitingRun (filmState .ready 2 run))
    let e := fun k => { entry 0 .copy .waitingRun with outstanding := k }
    (MemoryOk (s 1 0) ∧ ChoiceOverOne (s 1 0) (e 0) ∧ NextIs (s 1 0) (e 0) 0 3 ∧ Matches (s 1 0) 0 .a .first
      ∧ capacity (s 1 0) ⟨.a, .first⟩ < 3 ∧ (s 1 0).backB.live = none ∧ Holds (s 1 0) 0 (framesCost (s 1 0) 0 3)
      ∧ shotCount (s 1 0) 0 = 1)
    ∧ (ChoiceOverOne (s 1 1) (e 1) ∧ NextIs (s 1 1) (e 1) 0 3)
    ∧ (ChoiceOverOne (s 2 0) (e 0) ∧ NextIs (s 2 0) (e 0) 0 3 ∧ 1 < shotCount (s 2 0) 0 ∧ shotCode (s 2 0) 0 1 = 0
      ∧ BackServes (s 2 0) 0 (bracketCount (s 2 0) 0 1 * copyCount (s 2 0) 0 1) .a .first ∧ inLine (s 2 0) .a = true
      ∧ (s 2 0).lamp.mode = .idle ∧ (s 2 0).feeder.position ≠ 0 ∧ (s 2 0).feeder.drive = .stopped) := by
  set_option maxRecDepth 20000 in decide

/-- A waiting order's shot of three frames against a roll that a stall cuts to 3 frames and to 2. -/
theorem witness_cut_of_a_waiting_order :
    let s := fun k => rollState (k + 2) 2 0 .waitingRoll
      { filmState .winding k run with backA := winding (loaded .winding k run.backA) }
    ∀ k, k = 3 ∨ k = 2 →
      MemoryOk (s k) ∧ (s k).backA.state = .winding ∧ (s k).backA.motor.stallTimer ≠ none
        ∧ capacity (s k) ⟨.a, .first⟩ ≤ k + 2 ∧ (s k).gate.shot = none ∧ (s k).orders.runList = [entry 0 .copy .waitingRoll]
        ∧ Matches (s k) 0 .a .first ∧ (s k).backB.live = none ∧ nextShot (s k) 0 = some 0
        ∧ Holds (s k) 0 (framesCost (s k) 0 (bracketCount (s k) 0 0 * copyCount (s k) 0 0))
        ∧ bracketCount (s k) 0 0 * copyCount (s k) 0 0 = 3 ∧ 1 < shotCount (s k) 0 ∧ shotCode (s k) 0 1 = 0 := by
  intro s k h
  rcases h with rfl | rfl <;> set_option maxRecDepth 20000 in decide

/-- An order waits for the roll that a PREPARED sheet brings. -/
theorem witness_called_back :
    let s := setByte 0x5800 1 (withOrder (entry 0 .copy .waitingRoll) (sheetMarked .clear 1 .awaitingSheet))
    MemoryOk s ∧ atWork s = true ∧ s.backA.state = .awaitingSheet ∧ sheetHand s ⟨.a, .second⟩ ≠ .prepared
      ∧ (s.orders.runList.map OrderEntry.slot).Nodup
      ∧ ∀ x ∈ s.orders.runList, calledBack s ⟨.a, .first⟩ x = true := by decide

theorem witness_waits_for_roll :
    let s := copyState 34
    let e := entry 0 .copy .waitingRun
    MemoryOk s ∧ ChoiceOverOne s e ∧ NextIs s e 0 3 ∧ s.backA.live = some .first ∧ 3 ≤ capacity s ⟨.a, .first⟩
      ∧ capacity s ⟨.a, .first⟩ < framesUsed s ⟨.a, .first⟩ + 3 ∧ s.backB.live = none ∧ backChoice s 0 ≠ 0 := by decide

theorem witness_rewind_task :
    let e := entry 0 .rewind .waitingRun
    let s := fun st => poke [(0x02, 0x0103)] (withOrder e (filmState st 11 run))
    (MemoryOk (s .rollEnd) ∧ ChoiceOverOne (s .rollEnd) e ∧ e.kind = .rewind ∧ e.started = false
      ∧ backChoice (s .rollEnd) 0 = backCode .a ∧ (s .rollEnd).backA.state = .rollEnd
      ∧ (s .rollEnd).backA.levels.doorOpen = false)
    ∧ (ChoiceOverOne (s .winding) e ∧ (s .winding).backA.state = .winding)
    ∧ (ChoiceOverOne (s .filmOut) e ∧ (s .filmOut).backA.state = .filmOut) := by decide

theorem witness_feeder_counts :
    let s := atGate .feedMoving shot { run with feeder := { run.feeder with drive := .moving, target := some 80, position := 79 } }
    MemoryOk s ∧ s.feeder.drive = .moving ∧ s.feeder.target = some 80 ∧ s.feeder.position = 79 ∧ s.lamp.mode = .idle
      ∧ s.gate.phase = .feedMoving ∧ s.control.stand = .running ∧ recordedHand s shot.slot ≠ .withdraw := by decide

theorem witness_original_test :
    (MemoryOk (atGate .feedArrived shot run) ∧ TestDue (atGate .feedArrived shot run) shot ∧ true ≠ shot.calibrate)
    ∧ (TestDue (atGate .feedArrived task run) task ∧ false ≠ task.calibrate ∧ task.calibrate = true) := by decide

theorem witness_no_original :
    let s := poke [(0x02, 0x0101), (0x06, 0x0200), (0x0A, 2), (0x20, 0x0302), (0x22, 0x0101), (0x5904, 45), (0x5910, 12),
      (0x0218, 342), (0x5014, 342)] (withOrder (entry 0 .copy .atGate) (atGate .feedArrived shot run))
    MemoryOk s ∧ TestDue s shot ∧ shot.calibrate = false ∧ findOrder s 0 = some (entry 0 .copy .atGate)
      ∧ recordedHand s 0 = .taken ∧ accountIndex s 0 ≤ 63 ∧ shotCount s 0 ≤ 24 ∧ (1 < shotCount s 0 ∧ shotCode s 0 1 = 0)
      ∧ 171 = bracketCount s 0 0 * copyCount s 0 0 * (framePrice s (orderProfile s 0) + labelPrice s)
      ∧ 171 ≤ remaining s 0 ∧ 171 ≤ committed s (accountIndex s 0) ∧ wordAt s (outcome 0 + 4) < 24 := by decide

theorem witness_scan_starts :
    let s := atGate .meterWait shot run
    s.gate.phase = .meterWait ∧ s.gate.shot = some shot ∧ s.gate.rested = false ∧ s.control.stand = .running
      ∧ s.supply.sag = false ∧ NothingMoves s ∧ s.exposure.scan = .idle := by decide

theorem witness_rounds :
    let d := fun n w => { run with exposure := { run.exposure with scan := .dark, darkRounds := n, waiting := w } }
    let l := fun n w => { scanState .lit .meterOn shot with exposure := { run.exposure with scan := .lit, litRounds := n, waiting := w } }
    ((d 3 0).exposure.scan = .dark ∧ (d 3 0).exposure.waiting = 0 ∧ (d 3 0).exposure.darkRounds < 4)
      ∧ ((l 3 0).exposure.scan = .lit ∧ (l 3 0).lamp.mode = .meterOn ∧ (l 3 0).exposure.waiting = 0
        ∧ (l 3 0).exposure.litRounds < 4)
      ∧ ((d 3 3).exposure.scan = .dark ∧ (d 3 3).exposure.waiting = 3)
      ∧ ((l 3 3).exposure.scan = .lit ∧ (l 3 3).exposure.waiting = 3)
      ∧ ConverterFree (d 3 0) ∧ ConverterFree (l 3 0)
      ∧ RoundAlone { d 3 3 with converter := { Converter.reset with converting := some .metering } }
      ∧ RoundAlone { l 3 3 with converter := { Converter.reset with converting := some .metering } } := by decide

/-- The converter free and busy, with the two monitors asking and not. -/
theorem witness_converter :
    let s := fun q => { run with converter := { Converter.reset with converting := q, supply := true, lamp := true } }
    (run.pending = [] ∧ started run = true ∧ run.converter.converting = none ∧ ¬ SupplyAsks run ∧ ¬ run.lamp.mode = .exposeOn)
    ∧ SupplyAsks { run with converter := { Converter.reset with sinceSupply := 19 } }
    ∧ (let x := lampOn .exposeOn run
       let y := { x with lamp := { x.lamp with counter := 684 - 19 } }
       y.lamp.mode = .exposeOn ∧ y.lamp.active = some { ticks := 684, intensity := .full } ∧ 0 < y.lamp.counter
         ∧ (684 + 1 - y.lamp.counter) % 20 = 0)
    ∧ ((s (some .supply)).converter.converting ≠ none ∧ started (s (some .supply)) = true)
    ∧ ((s (some .metering)).converter.supply = true ∧ (s (some .metering)).converter.lamp = true
        ∧ (s (some .metering)).converter.converting ≠ some .supply ∧ (s (some .metering)).converter.converting ≠ some .lamp)
    ∧ (let x := { s (some .lamp) with exposure := { run.exposure with scan := .dark, waiting := 2 } }
       0 < x.exposure.waiting ∧ x.converter.converting = some .lamp ∧ Requester.lamp ≠ .metering) := by decide

theorem witness_meter_request :
    let s := scanState .dark .idle shot
    MeterPulseDue s ∧ s.lamp.mode = .idle ∧ NothingMoves s ∧ s.lidOpen = false ∧ s.gate.phase = .meterScan
      ∧ s.gate.shot = some shot ∧ recordedHand s shot.slot ≠ .withdraw ∧ s.control.stand = .running
      ∧ ¬ NothingMoves { s with feeder := { s.feeder with drive := .moving } } := by decide

theorem witness_levels :
    (1 ≤ 4095 ∧ 2 ^ 11 ≤ 4095 ∧ 4095 < 2 ^ (11 + 1)) ∧ (2 ^ 0 ≤ 1 ∧ 1 < 2 ^ (0 + 1)) := by decide

theorem witness_arithmetic :
    (8 / 4 < 16400 / 4 ∧ 1 ≤ 1 ∧ 1 ≤ 2047 ∧ 2047 ≤ 2047 ∧ 4095 ≤ 4095) ∧ (24 ≤ 170 + 2 * 10 ∧ 170 + 2 * 10 ≤ 191)
      ∧ (96 ≤ 96 ∧ 179 ≤ 179) ∧ (143 : Nat) ≤ 143 := by decide

theorem witness_calibration :
    (let s := scanState .lit .meterOn task
     MemoryOk s ∧ MeterPulseRuns s task ∧ task.calibrate = true ∧ scanLevels s.exposure = ⟨119, 119, 119⟩
       ∧ (scanReadings s.exposure).red ≤ 4095)
    ∧ (let s := { scanState .lit .meterOn task with
         exposure := { (scanState .lit .meterOn task).exposure with lit := ⟨1023, 4000, 4000⟩ } }
       MeterPulseRuns s task ∧ (scanLevels s.exposure).red = 95) := by decide

theorem witness_metering_ends :
    let s := { poke [(0x5C42, 119), (0x5C44, 119), (0x5C46, 119)] (scanState .lit .meterOn shot) with
      carriage := { Carriage.reset with state := .lineB } }
    MemoryOk s ∧ s.lamp.mode = .meterOn ∧ s.exposure.scan = .lit ∧ s.gate.shot = some shot ∧ shot.calibrate = false
      ∧ shot.shot < 24 ∧ s.gate.phase = .meterScan ∧ s.gate.rested = false ∧ recordedHand s shot.slot ≠ .withdraw
      ∧ ScanDensities s ⟨0, 0, 0⟩ ∧ effectiveDensity (byteAt s (profileBase (orderProfile s shot.slot) + 2)) ⟨0, 0, 0⟩ = 0
      ∧ BaseExposure s shot 0 0 ∧ orderProfile s shot.slot ≤ 7 ∧ s.control.stand = .running
      ∧ s.carriage.state = lineOf (otherBack shot.back) ∧ (stand .holdPending s).control.stand = .holdPending := by decide

theorem witness_end_switch :
    (let s := { idle with carriage := { Carriage.reset with state := .homing } }
     MemoryOk s ∧ s.control.startUp = .ended ∧ s.carriage.state = .homing ∧ s.gate.phase ≠ .shiftWait)
    ∧ (let s := atGate .shiftMoving shot (stand .held { idle with carriage := { Carriage.reset with state := .shifting, target := .b } })
       s.carriage.state = .shifting ∧ s.carriage.target = .b ∧ s.gate.phase = .shiftMoving ∧ s.control.stand = .held
         ∧ recordedHand s shot.slot ≠ .withdraw ∧ s.carriage.target ≠ .a
         ∧ (stand .holdPending s).control.stand = .holdPending ∧ s.gate.shot = some shot) := by decide

/-- The shot of two copies before its set is reserved, with the carriage on its way to back A, which holds A0 with a number of frames
used. -/
def reservingState (used : Nat) : State :=
  setByte 0x4006 used (poke [(0x0A, 1), (0x20, 0x0101), (0x22, 0x0200)] (withOrder (entry 0 .copy .atGate)
    { atGate .shiftMoving { shot with frames := [] } (filmState .ready 11 run) with
      carriage := { Carriage.reset with state := .shifting, target := .a } }))

theorem witness_reserving :
    let r := { shot with frames := [] }
    (MemoryOk (reservingState 10) ∧ ShiftReachesItsLine (reservingState 10) r ∧ CanTake (reservingState 10) r
      ∧ capacity (reservingState 10) ⟨.a, .first⟩ ≤ 40
      ∧ ((pairsOf (reservingState 10) r).length = 2 ∧ copyCount (reservingState 10) 0 0 ≤ 3
        ∧ ∀ p ∈ r.plans, p.exposure ≤ 191 ∧ p.ticks ≤ 61824 ∧ -2 ≤ p.position ∧ p.position ≤ 2)
      ∧ (reservingState 10).backA.state = .ready
      ∧ (reservingState 10).backA.gateFrame = framesUsed (reservingState 10) ⟨.a, .first⟩ + 1)
    ∧ (ShiftReachesItsLine (reservingState 35) r ∧ ¬ CanTake (reservingState 35) r) := by decide

/-- The set of two copies takes frames 11 and 12 (R57). -/
theorem test_reserving :
    let t := after (.carriageEndSwitch .a) (reservingState 10)
    framesUsed t ⟨.a, .first⟩ = 12 ∧ byteAt t (frameRecord ⟨.a, .first⟩ 12) = 0x81
      ∧ byteAt t (shotOutcome 0 0 + 4) = 11 := by set_option maxRecDepth 20000 in decide

theorem witness_move_timeouts :
    (let s := atGate .feedMoving shot { run with gate := { run.gate with moveTimer := some 0 } }
     MemoryOk s ∧ s.gate.phase = .feedMoving ∧ s.gate.moveTimer ≠ none ∧ s.gate.shot = some shot
       ∧ recordedHand s shot.slot ≠ .withdraw ∧ s.control.stand = .running)
    ∧ (let s := atGate .shiftMoving shot { run with
         gate := { run.gate with shiftTimer := some 0 }, carriage := { Carriage.reset with state := .shifting } }
       s.control.startUp = .ended ∧ s.gate.phase = .shiftMoving ∧ s.gate.shiftTimer ≠ none ∧ s.carriage.state = .shifting
         ∧ s.control.stand = .running ∧ s.gate.shot = some shot ∧ recordedHand s shot.slot ≠ .withdraw)
    ∧ (let s := fun st => stand st { idle with carriage := { Carriage.reset with state := .homing, homingTimer := some 0 } }
       (s .running).carriage.state = .homing ∧ (s .running).carriage.homingTimer ≠ none ∧ (s .running).gate.shot = none
         ∧ (s .running).gate.phase = .idle ∧ (s .running).control.stand ≠ .stopped
         ∧ (s .stopped).control.stand = .stopped) := by decide

theorem witness_arming :
    (let s := { exposingAt .frameWait .ready with gate := { (exposingAt .frameWait .ready).gate with settleTimer := some 0 } }
     ExposesNext s shot { frame := 11, position := 0, copy := 1, recorded := false } ∧ s.gate.phase = .frameWait
       ∧ s.gate.settleTimer ≠ none ∧ s.backA.state = .ready ∧ s.backA.gateFrame = 11
       ∧ planFor shot 0 = some
           { position := 0, exposure := 113, low := false, high := false, intensity := .full, ticks := 684 })
    ∧ (let s := exposingAt .armed .ready
       ExposesNext s shot { frame := 11, position := 0, copy := 1, recorded := false } ∧ s.gate.phase = .armed
         ∧ s.backA.state = .ready ∧ s.supply.sag = false ∧ NothingMoves s
         ∧ ¬ NothingMoves { s with feeder := { s.feeder with drive := .moving } }) := by decide

theorem witness_trigger :
    let s := shutterOf .open (poke [(0x5C02, 1)] (exposingAt .passage .ready))
    let h := { s with exposure := { s.exposure with holder := some { ticks := 684, intensity := .full } } }
    MemoryOk s ∧ ShutterOpening s .a shot ∧ s.exposure.holder = none
      ∧ (ShutterOpening h .a shot ∧ h.exposure.holder ≠ none ∧ h.lidOpen = false ∧ h.supply.sag = false ∧ 1 ≤ lampWait h)
      ∧ ShutterOpening { h with lidOpen := true } .a shot
      ∧ ShutterOpening { h with supply := { h.supply with sag := true } } .a shot := by decide

theorem witness_open_timeout :
    let s := poke [(0x0A, 2)] (shutterOf .open (exposingAt .passage .ready))
    MemoryOk s ∧ ShutterOpening s .a shot
      ∧ ExposesNext s shot { frame := 11, position := 0, copy := 1, recorded := false } ∧ s.backA.live = some shot.which
      ∧ s.backA.gateFrame = 11 ∧ s.backA.shutter.sinceReady = true ∧ shot.shot < 24 ∧ accountIndex s 0 ≤ 63
      ∧ isReserved s ⟨.a, .first⟩ 11 = true
      ∧ (recordedHand s 0 = .taken ∧ findOrder s 0 = some (entry 0 .copy .atGate) ∧ 1 < shotCount s 0 ∧ shotCode s 0 1 = 0
        ∧ ∀ g ∈ shot.frames, 1 ≤ g.frame ∧ g.frame ≤ 40) := by decide

theorem witness_pulse :
    PulseOf (pulseState .wait) .wait shot { ticks := 684, intensity := .full } ∧ NothingMoves (pulseState .wait)
      ∧ PulseOf (pulseState .exposeOn) .exposeOn shot { ticks := 684, intensity := .full } := by decide

/-- The shutter of back A closing at the end of the passage of frame 11, with a result. -/
def closingState (x : PendingResult) : State :=
  shutterOf .close (setByte (frameRecord ⟨.a, .first⟩ 11) 0x41
    (atGate .passage { shot with result := x } (exposingAt .passage .shutterOpen)))

/-- The hypotheses that every close of `closingState` meets. -/
abbrev Closes (x : PendingResult) : Prop :=
  let s := closingState x
  let r := { shot with result := x }
  MemoryOk s ∧ isLive s = true ∧ ExposesNext s r { frame := 11, position := 0, copy := 1, recorded := false }
    ∧ s.gate.phase = .passage ∧ s.backA.state = .shutterOpen ∧ s.backA.shutter.command = .close
    ∧ s.backA.shutter.timer ≠ none ∧ s.backA.live = some r.which ∧ s.backA.gateFrame = 11
    ∧ 11 < capacity s ⟨.a, .first⟩ ∧ capacity s ⟨.a, .first⟩ ≤ 40 ∧ isReserved s ⟨.a, .first⟩ 11 = true
    ∧ accountIndex s 0 ≤ 63 ∧ recordedHand s 0 = .taken ∧ s.backA.shutter.sinceReady = true
    ∧ (∃ g ∈ r.frames, g.frame ≠ 11 ∧ g.recorded = false)

theorem witness_good_frame : Closes .good ∧ labelCode (closingState .good) ⟨.a, .first⟩ 11 = 0 := by decide

/-- The amounts of the good frame's order hold its price; the queue has room, and is full. -/
theorem witness_good_frame_amounts :
    let s := poke [(0x5900, 45), (0x5910, 12), (0x0218, 342), (0x5014, 342)] (closingState .good)
    AmountsHold s 0 (framePrice s (orderProfile s 0)) 0 ∧ framePrice s (orderProfile s 0) = 45
      ∧ ¬ (16777215 < spent s 0 + 45 ∨ spent s 0 = 16777215)
      ∧ 16777215 < spent (setLong 0x5010 16777200 s) 0 + 45 ∧ spent (setLong 0x5010 16777215 s) 0 = 16777215
      ∧ byteAt s (shotOutcome 0 0 + 5) < 255 ∧ framesExposed s 0 < 65535 ∧ exposedCount s ⟨.a, .first⟩ < 255
      ∧ s.labels.queue.length < 32 ∧ waitingCount s = 0
      ∧ (labelled .ready [] s).labels.queue = [] ∧ (labelled .ready [] s).labels.printer = .ready
      ∧ 32 ≤ (labelled .printing (List.replicate 32 (labelOf 300)) s).labels.queue.length := by decide

/-- A good frame is charged: the order's charged, its remaining commitment, and spent at its limit (R175, R176). -/
theorem test_good_frame_charged :
    let s := poke [(0x5900, 45), (0x0218, 342), (0x5014, 342)] (closingState .good)
    let t := after (.shutterCloseSwitch .a) (setLong 0x5010 16777200 s)
    charged t 0 = 45 ∧ remaining t 0 = 297 ∧ committed t 0 = 297 ∧ spent t 0 = 16777215 ∧ saturatedMark t 0 = 1
      ∧ accountFrames t 0 = 1 := by set_option maxRecDepth 20000 in decide

/-- `closingState` with frame 11 the last of its set, on a roll of a capacity, with a number of shots in the order and of outstanding
labels. -/
def lastState (x : PendingResult) (cap shots labels : Nat) : State :=
  let r := { shot with
    result := x, reshoots := 2, planned := 1, frames := [{ frame := 11, position := 0, copy := 1, recorded := false }] }
  setByte 0x4005 cap (poke [(0x0A, shots), (0x5900, 45), (0x5910, 12), (0x0218, 342), (0x5014, 342)]
    (withOrder { entry 0 .copy .atGate with outstanding := labels } (atGate .passage r (closingState x))))

/-- The shot of `lastState`. -/
def lastShot (x : PendingResult) : ShotRecord :=
  { shot with
    result := x, reshoots := 2, planned := 1, frames := [{ frame := 11, position := 0, copy := 1, recorded := false }] }

theorem witness_last_good_frame :
    let s := fun cap n => lastState .good cap n 0
    ∀ cap n, cap = 36 ∧ n = 2 ∨ cap = 11 ∧ n = 1 →
      MemoryOk (s cap n)
        ∧ ClosingLastFrame (s cap n) .a (lastShot .good) { frame := 11, position := 0, copy := 1, recorded := false }
            (entry 0 .copy .atGate)
        ∧ (lastShot .good).result = .good ∧ labelCode (s cap n) ⟨.a, .first⟩ 11 = 0 ∧ frameSlot (s cap n) ⟨.a, .first⟩ 11 = 0
        ∧ AmountsHold (s cap n) 0 45 (((lastShot .good).planned - 1) * 57) ∧ shotCount (s cap n) 0 = n
        ∧ shotCode (s cap n) 0 1 = 0 := by
  intro s cap n h
  rcases h with ⟨rfl, rfl⟩ | ⟨rfl, rfl⟩ <;> unfold ClosingLastFrame <;> set_option maxRecDepth 20000 in decide

theorem witness_last_cut_frame :
    ∀ n k, n = 2 ∧ k = 0 ∨ n = 1 ∧ k = 1 ∨ n = 1 ∧ k = 0 →
      MemoryOk (lastState (.spoiled .lamp) 36 n k)
        ∧ ClosingLastFrame (lastState (.spoiled .lamp) 36 n k) .a (lastShot (.spoiled .lamp))
            { frame := 11, position := 0, copy := 1, recorded := false } { entry 0 .copy .atGate with outstanding := k }
        ∧ (lastState (.spoiled .lamp) 36 n k).lamp.faultCount ≤ 1 ∧ 2 ≤ (lastShot (.spoiled .lamp)).reshoots
        ∧ (lastShot (.spoiled .lamp)).planned * positionPrice (lastState (.spoiled .lamp) 36 n k) 0
            ≤ remaining (lastState (.spoiled .lamp) 36 n k) 0
        ∧ shotCount (lastState (.spoiled .lamp) 36 n k) 0 = n := by
  intro n k h
  rcases h with ⟨rfl, rfl⟩ | ⟨rfl, rfl⟩ | ⟨rfl, rfl⟩ <;> unfold ClosingLastFrame <;> set_option maxRecDepth 20000 in decide

/-- The end of a shot at the capacity: COMPLETE, the back at ROLL_END, the order FINISHING behind its label (R62, R65). -/
theorem test_last_frame :
    let t := after (.shutterCloseSwitch .a) (lastState .good 11 1 0)
    shotCode t 0 0 = 1 ∧ t.backA.state = .rollEnd ∧ t.gate.shot = none ∧ byteAt t (outcome 0 + 1) = 4
      ∧ remaining t 0 = 297 := by set_option maxRecDepth 20000 in decide

theorem witness_cut_lamp : Closes (.spoiled .lamp) := by unfold Closes; decide

theorem witness_cut_lid : Closes (.spoiled .lid) := by unfold Closes; decide

theorem witness_cut_supply : Closes (.spoiled .supply) := by unfold Closes; decide

theorem witness_cut_frame :
    let s := closingState (.spoiled .lamp)
    s.lamp.faultCount ≤ 1
      ∧ planFor shot 0 = some
          { position := 0, exposure := 113, low := false, high := false, intensity := .full, ticks := 684 }
      ∧ 11 ≤ framesUsed s ⟨.a, .first⟩ ∧ shot.reshoots < 2
      ∧ framesUsed s ⟨.a, .first⟩ < capacity s ⟨.a, .first⟩ := by decide

/-- A closing frame with two LAMP causes counted. -/
def thirdFault : State :=
  { closingState (.spoiled .lamp) with lamp := { (closingState (.spoiled .lamp)).lamp with faultCount := 2 } }

theorem witness_third_lamp_fault :
    ClosingFrame thirdFault .a { shot with result := .spoiled .lamp }
        { frame := 11, position := 0, copy := 1, recorded := false }
      ∧ MemoryOk thirdFault ∧ thirdFault.lamp.faultCount = 2 ∧ 11 ≤ framesUsed thirdFault ⟨.a, .first⟩ := by
  unfold ClosingFrame; decide

/-- The third LAMP cause in a row holds the stand. -/
theorem test_third_lamp_fault :
    (after (.shutterCloseSwitch .a) thirdFault).control.cause = .lamp
      ∧ (after (.shutterCloseSwitch .a) thirdFault).gate.rested = true := by decide

theorem witness_stale_close :
    let s := shutterOf .close (exposingAt .idle .stale)
    MemoryOk s ∧ isLive s = true ∧ s.backA.state = .stale ∧ s.backA.shutter.timer ≠ none := by decide

theorem witness_lid_and_lamp_sense :
    (let s := pulseState .exposeOn
     MemoryOk s ∧ isLive s = true ∧ s.lidOpen = false ∧ PulseOf s .exposeOn shot { ticks := 684, intensity := .full }
       ∧ s.exposure.scan = .idle ∧ s.control.stand ≠ .stopped)
    ∧ (ScanRuns (scanState .lit .meterOn shot) shot ∧ ScanRuns (scanState .dark .idle task) task
        ∧ (scanState .lit .meterOn shot).control.stand ≠ .stopped)
    ∧ (idle.lamp.mode = .idle ∧ idle.exposure.scan = .idle ∧ idle.gate.shot = none ∧ idle.control.stand = .stopped
        ∧ run.control.stand ≠ .stopped ∧ idle.lamp.mode ≠ .exposeOn)
    ∧ (let s := poke [(0x5C16, 2)] (pulseState .exposeOn)
       PulseOf s .exposeOn shot { ticks := 684, intensity := .full } ∧ s.lamp.threshold ≤ (100 : AdcCode).toNat
         ∧ (99 : AdcCode).toNat < s.lamp.threshold ∧ s.lamp.lowCount + 1 < lampCount s
         ∧ lampCount (pulseState .exposeOn) ≤ (pulseState .exposeOn).lamp.lowCount + 1 ∧ LampMayEnd s)
    ∧ (run.lamp.mode ≠ .exposeOn ∧ run.converter.converting ≠ some .lamp
        ∧ { run with converter := { Converter.reset with converting := some .lamp } }.converter.converting = some .lamp) := by
  decide

theorem witness_supply :
    let f := fun s => poke [(0x5C0C, 600), (0x5C0E, 700), (0x5C10, 2)] s
    let sup := fun g b a s => { f s with supply := { sag := g, below := b, above := a } }
    started State.reset = false ∧ SupplyMayEnd (f run) ∧ SupplyMayEnd (sup false 1 0 (pulseState .wait))
      ∧ (started (f run) = true ∧ fallingThreshold (f run) ≤ (600 : AdcCode).toNat
        ∧ (599 : AdcCode).toNat < fallingThreshold (f run) ∧ (f run).supply.below + 1 < supplyCount (f run))
      ∧ (let s := sup true 0 0 run
         s.supply.sag = true ∧ (700 : AdcCode).toNat ≤ risingThreshold s ∧ risingThreshold s < (701 : AdcCode).toNat
           ∧ s.supply.above + 1 < supplyCount s)
      ∧ (let s := sup true 0 1 run
         s.supply.sag = true ∧ supplyCount s ≤ s.supply.above + 1)
      ∧ (EntersSag (sup false 1 0 run) 599 ∧ run.gate.shot = none ∧ run.control.stand ≠ .holdPending)
      ∧ (EntersSag (sup false 1 0 (pulseState .wait)) 599
        ∧ PulseOf (sup false 1 0 (pulseState .wait)) .wait shot { ticks := 684, intensity := .full })
      ∧ (EntersSag (sup false 1 0 (scanState .lit .meterOn shot)) 599
        ∧ ScanRuns (sup false 1 0 (scanState .lit .meterOn shot)) shot) := by decide

theorem witness_door_opens :
    (let s := pulseState .exposeOn
     MemoryOk s ∧ DoorOpens s .a ∧ ¬ Moving s.backA ∧ s.backA.shutter.command = .open ∧ exposing s = true
       ∧ s.lamp.trigger = some .a ∧ s.backA.live ≠ none ∧ s.gate.shot = some shot ∧ shot.back = .a
       ∧ s.gate.phase.step = .exposing ∧ (∃ f ∈ shot.frames, f.recorded = false))
    ∧ (let s := filmState .winding 20 run
       MemoryOk s ∧ DoorOpens s .a ∧ Moving s.backA ∧ s.backA.live = some .first ∧ s.backA.state ≠ .rewinding
         ∧ s.gate.phase.step ≠ .exposing) := by decide

theorem witness_door_closes :
    let s := { run with backA := { run.backA with state := .doorOpen, levels := { run.backA.levels with doorOpen := true } } }
    let p := setByte 0x5800 1 { s with backA := { s.backA with handSecond := .prepared } }
    (MemoryOk s ∧ isLive s = true ∧ s.backA.levels.doorOpen = true ∧ s.backA.state = .doorOpen
      ∧ sheetHand s ⟨.a, .first⟩ ≠ .prepared ∧ sheetHand s ⟨.a, .second⟩ ≠ .prepared)
    ∧ (MemoryOk p ∧ sheetHand p ⟨.a, .second⟩ = .prepared ∧ sheetHand p ⟨.a, .first⟩ ≠ .prepared
      ∧ (⟨.a, .second⟩ : Sheet) ∉ p.watch.sheetMarks ∧ sheetProfile p ⟨.a, .second⟩ ≤ 7
      ∧ byteAt p (profileBase (sheetProfile p ⟨.a, .second⟩)) ≠ 0) := by decide

theorem witness_motor :
    let s := fun d f => { run with backA := { run.backA with
      motor := { run.backA.motor with start := d, ramping := true }, levels := { run.backA.levels with filmOut := f } } }
    (MotorMayStart (s .forward false) ∧ (s .forward false).backA.motor.start = .forward)
    ∧ (MotorMayStart (s .reverse false) ∧ (s .reverse false).backA.levels.filmOut = false)
    ∧ (MotorMayStart (s .reverse true) ∧ (s .reverse true).backA.levels.filmOut = true)
    ∧ (¬ MotorMayStart (pulseState .exposeOn) ∧ run.backA.motor.start = .stopped)
    ∧ (s .stopped false).backA.motor.ramping = true ∧ run.backA.motor.ramping = false := by decide

/-- Film wound forward on back A with n perforations counted. -/
def windState (st : BackState) (n : Nat) (p : GatePhase) : State :=
  let s := exposingAt p st
  let u := winding s.backA
  { s with backA := { u with gateFrame := 10, motor := { u.motor with perforations := n } } }

theorem witness_perforations :
    (MemoryOk (windState .loading 0 .idle) ∧ Winds (windState .loading 0 .idle) .a .loading 0
      ∧ Winds (windState .winding 6 .idle) .a .winding 6)
    ∧ (Winds (windState .loading 21 .idle) .a .loading 21 ∧ Winds (windState .winding 5 .idle) .a .winding 5)
    ∧ (Winds (windState .loading 23 .idle) .a .loading 23 ∧ (windState .loading 23 .idle).gate.phase ≠ .frameWait)
    ∧ (Winds (windState .winding 7 .idle) .a .winding 7 ∧ (windState .winding 7 .idle).gate.phase ≠ .frameWait)
    ∧ (Winds (windState .winding 7 .frameWait) .a .winding 7
      ∧ ExposesNext (windState .winding 7 .frameWait) shot { frame := 11, position := 0, copy := 1, recorded := false }
      ∧ 11 = (windState .winding 7 .frameWait).backA.gateFrame + 1)
    ∧ (isLive run = true ∧ run.backA.motor.direction ≠ .forward) := by decide

theorem witness_stall :
    let s := fun k p => atGate p shot { filmState .winding k run with backA := winding (loaded .winding k run.backA) }
    (MemoryOk (windState .loading 3 .idle) ∧ (windState .loading 3 .idle).backA.state = .loading
      ∧ (windState .loading 3 .idle).backA.motor.stallTimer ≠ none)
    ∧ (MemoryOk (s 33 .idle) ∧ WindStalls (s 33 .idle) .a .first 33 ∧ (s 33 .idle).gate.phase.step ≠ .exposing
      ∧ 33 + 2 < capacity (s 33 .idle) ⟨.a, .first⟩)
    ∧ (MemoryOk (s 34 .idle) ∧ WindStalls (s 34 .idle) .a .first 34 ∧ capacity (s 34 .idle) ⟨.a, .first⟩ ≤ 34 + 2
      ∧ ∀ e ∈ (s 34 .idle).orders.runList, e.sub ≠ .waitingRoll)
    ∧ (WindStalls (s 33 .frameWait) .a .first 33 ∧ (s 33 .frameWait).gate.shot = some shot
      ∧ (s 33 .frameWait).gate.phase.step = .exposing ∧ ∃ f ∈ shot.frames, f.recorded = false) := by decide

theorem witness_rewind :
    let e := { entry 0 .rewind .atGate with started := true }
    let s := fun a b => { filmState .rewinding 11 run with
      backA := { loaded .rewinding 11 run.backA with
        origin := .left .ready
        motor := { run.backA.motor with direction := .reverse, rewindTimer := a, leaderTimer := b } } }
    (isLive (s (some 5) none) = true ∧ (s (some 5) none).backA.state = .rewinding
      ∧ (s (some 5) none).backA.motor.rewindTimer ≠ none ∧ rewindTask (s (some 5) none) .a = none)
    ∧ (MemoryOk (s none (some 5)) ∧ (s none (some 5)).backA.motor.leaderTimer ≠ none
      ∧ (s none (some 5)).backA.live = some .first)
    ∧ rewindTask (poke [(0x02, 0x0103)] (withOrder e (s none (some 5)))) .a = some e := by decide

/-- The printer in a state with the label 300 at the head of the queue; the order of slot 0 in a sub-state. -/
def printing (p : PrinterState) (sub : SubState) (resend withdrawn : Bool) : State :=
  let s := poke [(0x0218, 72), (0x5014, 72), (0x5910, 12)]
    (withOrder { entry 0 .copy sub with outstanding := 1, withdrawn := withdrawn } run)
  { s with labels := { s.labels with
      queue := [labelOf 300, labelOf 301], printer := p, resend := resend, replyTimer := some 0, inquiryTimer := some 0 } }

theorem witness_printer_timers :
    (let s := { run with labels := { run.labels with transmitter := [.label [], .inquire] } }
     started s = true ∧ s.labels.transmitter = .label [] :: [.inquire])
    ∧ (let s := printing .lost .atGate false false
       started s = true ∧ Inquires s ∧ s.labels.inquiryTimer ≠ none ∧ s.labels.transmitter = [])
    ∧ (let s := printing .printing .atGate false false
       MemoryOk s ∧ ReplyOverdue s (labelOf 300) [labelOf 301] ∧ headWithdrawn s = false ∧ s.labels.resend = false)
    ∧ (let s := printing .printing .atGate true false
       ReplyOverdue s (labelOf 300) [labelOf 301] ∧ headWithdrawn s = false ∧ s.labels.resend = true)
    ∧ (let s := printing .printing .finishing true true
       ReplyOverdue s (labelOf 300) [labelOf 301] ∧ headWithdrawn s = true) := by decide

theorem witness_replies :
    (let s := printing .printing .atGate false false
     MemoryOk s ∧ HeadReplied s 0x2C (labelOf 300) [labelOf 301]
       ∧ findOrder s 0 = some { entry 0 .copy .atGate with outstanding := 1 })
    ∧ HeadReplied (printing .stockOut .atGate false false) 0x2C (labelOf 300) [labelOf 301]
    ∧ (let s := printing .lost .finishing false false
       HeadReplied s 0x2C (labelOf 300) [labelOf 301]
         ∧ findOrder s 0 = some { entry 0 .copy .finishing with outstanding := 1 })
    ∧ ((printing .printing .atGate false false).labels.queue.head? = some (labelOf 300)
        ∧ (0x32 : Byte).toNat ≠ (labelOf 300).sequence % 256)
    ∧ (printing .ready .atGate false false).labels.printer = .ready := by decide

/-- A full queue with the label 300 at its head, and two frames that wait, of which frame 4 of B1 was issued first. -/
def backlog : State :=
  let s := printing .printing .atGate false false
  let s := setByte (frameRecord ⟨.a, .first⟩ 11) 0x12 { s with labels := { s.labels with
    queue := labelOf 300 :: List.replicate 31 (labelOf 301) } }
  setWaitingCount 2 (setLong (frameRecord ⟨.a, .second⟩ 1 + 12) 2 (setByte (frameRecord ⟨.a, .second⟩ 1) 0x0A
    (setLong (frameRecord ⟨.b, .second⟩ 4 + 12) 16777215 (setByte (frameRecord ⟨.b, .second⟩ 4) 0x0A s))))

/-- The frames of `backlog` that wait. -/
theorem backlog_waits : allFrames.filter (fun x => decide (labelCode backlog x.1 x.2 = 1))
    = [(⟨.a, .second⟩, 1), (⟨.b, .second⟩, 4)] := by set_option maxRecDepth 40000 in decide

theorem witness_waits_first : WaitsFirst backlog ⟨.b, .second⟩ 4 := by
  refine ⟨by decide, by decide, by decide, ?_⟩
  intro x j h1 h40 hw hne
  have hall : (x, j) ∈ allFrames := by
    rcases x with ⟨bk, w⟩
    cases bk <;> cases w <;> simp [allFrames, allSheets, sheetsOf, frameNumbers, Config.sheetFrames] <;> omega
  have hin : (x, j) ∈ allFrames.filter (fun x => decide (labelCode backlog x.1 x.2 = 1)) := by
    simp [hall, hw]
  rw [backlog_waits] at hin
  simp only [List.mem_cons, List.not_mem_nil, or_false, Prod.mk.injEq] at hin
  rcases hin with ⟨rfl, rfl⟩ | ⟨rfl, rfl⟩
  · decide
  · exact absurd rfl hne

theorem witness_promotion :
    MemoryOk backlog ∧ HeadReplied backlog 0x2C (labelOf 300) (List.replicate 31 (labelOf 301))
      ∧ findOrder backlog 0 = some { entry 0 .copy .atGate with outstanding := 1 } ∧ 0 < waitingCount backlog
      ∧ labelCode backlog ⟨.a, .first⟩ 11 = 2 ∧ labelCode backlog ⟨.b, .second⟩ 4 = 1
      ∧ issuedBefore (frameSequence backlog ⟨.b, .second⟩ 4) (frameSequence backlog ⟨.a, .second⟩ 1) = true := by
  set_option maxRecDepth 20000 in decide

/-- The frame that waits first is promoted to the tail of the full queue (R157). -/
theorem test_promotion :
    ((after (.ack 0x2C) backlog).labels.queue.getLast?.map LabelEntry.frame) = some 4 ∧ waitingCount (after (.ack 0x2C) backlog) = 1 := by
  set_option maxRecDepth 40000 in decide

/-! ### States for the clauses on stand tasks, homings, RESERVING, surcharges and withdrawn heads -/

/-- A stand task of slot 0 in the intake queue, of a kind and back choice, with tray position 5. -/
def taskFiled (kind back : Nat) : State :=
  poke [(0x02, kind + 256 * back), (0x20, 5)] (setIntake [0] (recordHand 0 .filed run))

theorem witness_task_taken : ∀ kind back, kind = 2 ∧ back = 0 ∨ kind = 3 ∧ back = 1 →
    MemoryOk (taskFiled kind back) ∧ TakeDue (taskFiled kind back) 0
      ∧ checkOrder (taskFiled kind back) 0 = .inr (if kind = 2 then .calibrate else .rewind) := by
  intro kind back h
  rcases h with ⟨rfl, rfl⟩ | ⟨rfl, rfl⟩ <;>
    exact ⟨by decide, ⟨by decide, by decide, .inr ⟨by decide, by decide⟩, by decide, by decide⟩, by decide⟩

theorem witness_marked_take : ∀ found, found = 0 ∨ found = 1 →
    MemoryOk (setIntake [0] (marked .filed found)) ∧ MarkedTakeDue (setIntake [0] (marked .filed found)) 0 := by
  intro found h
  rcases h with rfl | rfl <;>
    exact ⟨by decide, by decide, by decide, .inr ⟨by decide, by decide⟩, by decide, by decide⟩

/-- A CALIBRATE task of slot 0, with tray position 5, behind a COPY order; the tray at a position with its home switch open or closed. -/
def calibrateWaits (p : Nat) (home : Bool) : State :=
  poke [(0x20, 5)] (setRunList [entry 1 .copy .waitingRun, entry 0 .calibrate .waitingRun]
    (recordHand 0 .taken (recordHand 1 .taken { run with feeder := { run.feeder with position := p, home := home } })))

theorem witness_calibrate_first : ∀ p home, p = 1 ∨ p = 5 ∨ p = 0 → home = true ∨ home = false →
    MemoryOk (calibrateWaits p home)
      ∧ CalibrateIsFirst (calibrateWaits p home) [entry 1 .copy .waitingRun] [] (entry 0 .calibrate .waitingRun)
      ∧ (calibrateWaits p home).lamp.mode = .idle ∧ (calibrateWaits p home).feeder.drive = .stopped := by
  intro p home hp hh
  rcases hp with rfl | rfl | rfl <;> rcases hh with rfl | rfl <;> decide

theorem witness_rewind_with_door_open :
    let e := entry 0 .rewind .waitingRun
    let s := poke [(0x02, 0x0103)] (withOrder e { run with backA := { run.backA with
      state := .jammed, levels := { run.backA.levels with doorOpen := true } } })
    MemoryOk s ∧ ChoiceOverOne s e ∧ e.kind = .rewind ∧ e.started = false ∧ backChoice s 0 = backCode .a
      ∧ s.backA.state ∈ [BackState.ready, .rollEnd, .stale, .jammed, .orphanFilm] ∧ s.backA.levels.doorOpen = true
      ∧ s.backA.live = none := by decide

/-- A choice, a RUN after a feed timeout and a homing run with the tray at position 0. -/
theorem witness_feeds_from_zero :
    (∀ home, home = true ∨ home = false →
      let s := { copyState 33 with feeder := { Feeder.reset with home := home } }
      let e := entry 0 .copy .waitingRun
      MemoryOk s ∧ ChoiceOverMany s ∧ s.orders.runList = [] ++ e :: [] ∧ NextIs s e 0 3 ∧ BackServes s 0 3 .a .first
        ∧ inLine s .a = true ∧ recordedHand s 0 ≠ .withdraw ∧ s.lamp.mode = .idle ∧ s.feeder.position = 0
        ∧ s.feeder.drive = .stopped)
    ∧ (∀ home, home = true ∨ home = false →
      let s := restAt .feedTimedOut { run with feeder := { Feeder.reset with home := home } }
      MemoryOk s ∧ RestsHeld s shot ∧ s.carriage.state ≠ .fault ∧ s.gate.phase = .feedTimedOut ∧ s.feeder.position = 0)
    ∧ (∀ q, q = 1 ∨ q = 80 →
      let s := atGate .feedMoving shot { run with feeder := { Feeder.reset with drive := .homing, target := some q } }
      MemoryOk s ∧ s.control.startUp = .ended ∧ s.feeder.drive = .homing ∧ s.feeder.target = some q ∧ s.lamp.mode = .idle
        ∧ s.gate.phase = .feedMoving ∧ s.control.stand = .running ∧ recordedHand s shot.slot ≠ .withdraw) := by
  refine ⟨?_, ?_, ?_⟩
  · intro home h; rcases h with rfl | rfl <;> set_option maxRecDepth 20000 in decide
  · intro home h; rcases h with rfl | rfl <;> decide
  · intro q h; rcases h with rfl | rfl <;> decide

/-- The carriage wait of a shot on a back while the carriage homes. -/
def waitsHoming (bk : Back) (used : Nat) : State :=
  let s := setByte 0x4006 used (poke [(0x0A, 1), (0x20, 0x0101), (0x22, 0x0200)] (withOrder (entry 0 .copy .atGate)
    (atGate .shiftWait { shot with frames := [], back := bk } (filmState .ready 11 run))))
  { s with carriage := { Carriage.reset with state := .homing, homingTimer := some 5 } }

theorem witness_homing_ends_for_a_shot :
    (MemoryOk (waitsHoming .b 10) ∧ WaitsForHoming (waitsHoming .b 10) { shot with frames := [], back := .b })
    ∧ (let s := { waitsHoming .a 10 with gate := { (waitsHoming .a 10).gate with rested := true } }
       MemoryOk s ∧ s.control.startUp = .ended ∧ s.carriage.state = .homing ∧ s.gate.phase = .shiftWait ∧ s.gate.rested = true)
    ∧ (let s := after (.zeroingEnd (inputs false)) (after .resetRelease State.reset)
       MemoryOk s ∧ CarriageHomesAtStartUp s ∧ s.carriage.homingTimer ≠ none ∧ s.feeder.drive = .homing)
    ∧ (let s := after .feederHomeSwitch (after (.zeroingEnd (inputs false)) (after .resetRelease State.reset))
       MemoryOk s ∧ CarriageHomesAtStartUp s ∧ s.carriage.homingTimer ≠ none ∧ s.feeder.drive ≠ .homing) := by decide

/-- The shot of two copies with no frame reserved. -/
def unreserved : ShotRecord := { shot with frames := [] }

/-- The end of METERING for a back in line, with a number of frames used. -/
def meteringInLine (used : Nat) : State :=
  setByte 0x4006 used (poke [(0x0A, 1), (0x20, 0x0101), (0x22, 0x0200), (0x5C42, 119), (0x5C44, 119), (0x5C46, 119)]
    { scanState .lit .meterOn unreserved with backA := loaded .ready 11 run.backA
                                              mem := (filmState .ready 11 run).mem })

theorem witness_reserving_elsewhere :
    (∀ used, used = 10 ∨ used = 35 →
      let s := meteringInLine used
      MemoryOk s ∧ MeteringEnds s unreserved ⟨0, 0, 0⟩ 0 0 ∧ s.control.stand = .running ∧ inLine s .a = true
        ∧ (used = 10 → CanTake s { unreserved with plans := plansOf s unreserved 0 }
            ∧ SetIsPlanned s { unreserved with plans := plansOf s unreserved 0 } ∧ capacity s ⟨.a, .first⟩ ≤ 40)
        ∧ (used = 35 → ¬ CanTake s { unreserved with plans := plansOf s unreserved 0 }))
    ∧ (∀ used, used = 10 ∨ used = 35 →
      let s := waitsHoming .a used
      MemoryOk s ∧ WaitsForHoming s unreserved
        ∧ (used = 10 → CanTake s unreserved ∧ SetIsPlanned s unreserved ∧ capacity s ⟨.a, .first⟩ ≤ 40)
        ∧ (used = 35 → ¬ CanTake s unreserved))
    ∧ (∀ p used, p = .meterEnd ∨ p = .shiftWait ∨ p = .shiftEnd → used = 10 ∨ used = 35 →
      let s := setByte 0x4006 used (poke [(0x0A, 1), (0x20, 0x0101), (0x22, 0x0200)]
        (atGate p unreserved (stand .held (filmState .ready 11 { run with gate := { run.gate with rested := true } }))))
      MemoryOk s ∧ RestsBeforeReserving s unreserved
        ∧ (used = 10 → CanTake s unreserved ∧ SetIsPlanned s unreserved ∧ capacity s ⟨.a, .first⟩ ≤ 40)
        ∧ (used = 35 → ¬ CanTake s unreserved)) := by
  refine ⟨?_, ?_, ?_⟩
  · intro used h
    rcases h with rfl | rfl <;> set_option maxRecDepth 20000 in decide
  · intro used h
    rcases h with rfl | rfl <;> set_option maxRecDepth 20000 in decide
  · intro p used hp h
    rcases hp with rfl | rfl | rfl <;> rcases h with rfl | rfl <;> set_option maxRecDepth 20000 in decide

theorem witness_lamp_wait_zero :
    let s := shutterOf .open (exposingAt .passage .ready)
    let h := { s with exposure := { s.exposure with holder := some { ticks := 684, intensity := .full } } }
    MemoryOk h ∧ ShutterOpening h .a shot ∧ h.exposure.holder ≠ none ∧ h.lidOpen = false ∧ h.supply.sag = false
      ∧ lampWait h = 0 ∧ NothingMoves h := by decide

/-- With a lamp wait of 0 the lamp goes on at the trigger (R141). -/
theorem test_lamp_wait_zero :
    let s := shutterOf .open (exposingAt .passage .ready)
    let t := after (.shutterOpenSwitch .a)
      { s with exposure := { s.exposure with holder := some { ticks := 684, intensity := .full } } }
    t.lamp.mode = .exposeOn ∧ t.lamp.counter = 684 ∧ t.lamp.output = .full := by decide

theorem witness_label_sourced :
    LabelSourced (lastState .good 36 2 0) ⟨.a, .first⟩ 11 ∧ LabelSourced (closingState .good) ⟨.a, .first⟩ 11
      ∧ LabelSourced backlog ⟨.b, .second⟩ 4 := by decide

theorem witness_open_timeout_is_partial : shot.tally.length < shot.planned := by decide

/-- A RUSH order with a frame EXPOSED and a surcharge of 500 ends: the amounts have room, and the account's spent may pass its limit. -/
theorem witness_rush_surcharge :
    let s := fun (s : State) => poke [(0x0206, 1), (0x5912, 500)] s
    let e := { entry 0 .copy .waitingRun with rush := true }
    (∀ k, k = 0 ∨ k = 16777000 →
      let w := setLong 0x5010 k (s (labelled .lost [] (withdrawing e .idle)))
      WithdrawalDue w 0 e ∧ e.sub ≠ .atGate ∧ accountIndex w 0 ≤ 63 ∧ EntriesNamed w 0 ∧ e.outstanding ≤ skippedLabels w 0
        ∧ 1 ≤ framesExposed w 0 ∧ rushSurcharge w = 500 ∧ charged w 0 + (0 + 500) ≤ 16777215)
    ∧ (let a := s (printing .printing .finishing false false)
       HeadReplied a 0x2C (labelOf 300) [labelOf 301] ∧ 1 ≤ framesExposed a 0 ∧ charged a 0 + (12 + 500) ≤ 16777215)
    ∧ (let c := s (lastState (.spoiled .lamp) 36 1 0)
       1 ≤ framesExposed c 0 ∧ charged c 0 + (0 + 500) ≤ 16777215) := by
  refine ⟨?_, by set_option maxRecDepth 20000 in decide, by set_option maxRecDepth 20000 in decide⟩
  intro k h
  rcases h with rfl | rfl <;> set_option maxRecDepth 20000 in decide

/-- The ACK of the last label of a RUSH order with a frame EXPOSED charges its price and the surcharge (R42, R180). -/
theorem test_surcharge_at_the_last_label :
    let s := poke [(0x0206, 1), (0x5912, 500)] (printing .printing .finishing false false)
    let s := setRunList (s.orders.runList.map fun e => { e with rush := true }) s
    let t := after (.ack 0x2C) s
    charged t 0 = 512 ∧ spent t 0 = 512 ∧ remaining t 0 = 0 := by set_option maxRecDepth 20000 in decide

/-- A withdrawn order's head on its frame, with the order on its way and with its last label, on a printer in a state. -/
def withdrawnHead (p : PrinterState) (sub : SubState) (labels : Nat) (resend : Bool) : State :=
  let s := printing p sub resend true
  setRunList [{ entry 0 .copy sub with outstanding := labels, withdrawn := true }] s

theorem witness_withdrawn_head :
    ∀ p resend, p = .printing ∨ p = .stockOut → resend = true ∨ resend = false →
      let s := fun labels => withdrawnHead p .finishing labels resend
      MemoryOk (s 1) ∧ started (s 1) = true ∧ headWithdrawn (s 1) = true ∧ (s 1).labels.breakSeen = false
        ∧ (s 1).labels.queue = labelOf 300 :: [labelOf 301] ∧ (s 1).labels.replyTimer ≠ none
        ∧ HeadOnRecord (s 1) (labelOf 300) ∧ (s 1).labels.printer = p ∧ waitingCount (s 1) = 0
        ∧ findOrder (s 1) 0 = some { entry 0 .copy .finishing with outstanding := 1, withdrawn := true }
        ∧ MemoryOk (s 2) ∧ HeadOnRecord (s 2) (labelOf 300) ∧ headWithdrawn (s 2) = true
        ∧ findOrder (s 2) 0 = some { entry 0 .copy .finishing with outstanding := 2, withdrawn := true }
        ∧ labelPrice (s 2) ≤ remaining (s 2) 0 := by
  intro p resend hp hr
  rcases hp with rfl | rfl <;> rcases hr with rfl | rfl <;> set_option maxRecDepth 20000 in decide

/-- A break skips the head of a withdrawn order and completes it WITHDRAWN (R165, R167). -/
theorem test_break_skips_the_head :
    let t := after .lineBreak (withdrawnHead .printing .finishing 1 false)
    labelCode t ⟨.a, .first⟩ 11 = 5 ∧ byteAt t (outcome 0) = 3 ∧ t.labels.printer = .stockOut ∧ remaining t 0 = 0 := by
  set_option maxRecDepth 20000 in decide

theorem witness_bytes_on_line :
    ({ run with labels := { run.labels with transmitter := [.inquire] } } : State).labels.transmitter.head? = some .inquire
      ∧ (∃ m, ({ run with labels := { run.labels with transmitter := [.label (labelMessage (labelOf 300)), .inquire] } }
          : State).labels.transmitter.head? = some (.label m))
      ∧ (labelOf 300).line1.length ≤ 24 ∧ (composeLabel labelState ⟨.a, .first⟩ 15).line3.length ≤ 24 := by
  refine ⟨by decide, ⟨_, rfl⟩, by decide, by decide⟩

/-- A conversion in progress goes on through a stand reset, and the requests that wait are dropped (R114, R135). -/
theorem test_stand_reset_keeps_the_conversion :
    (after .standReset { run with converter := { Converter.reset with converting := some .supply, supply := true, lamp := true } }).converter
      = { converting := some .supply, supply := false, lamp := false, sinceSupply := Converter.reset.sinceSupply } := by decide

theorem witness_label_text :
    (65535 < 65536 ∧ 40 < 100 ∧ (3 : Nat) ≠ 1) ∧ (0x51 : Byte) ∉ [0x4F, 0x41, 0x52, 0x46, 0x42, 0x43, 0x50, 0x54]
      ∧ (0x41 : Byte) ≠ 0x5E ∧ (characters labelState (shotEntry 4 3 + 6) 12).length < 12 := by
  set_option maxRecDepth 20000 in decide

theorem witness_received :
    (started run = true ∧ run.labels.receiver = .idle)
    ∧ (after (.receivedByte 0x06) run).labels.receiver = .awaitingAck
    ∧ (after (.receivedByte 0x15) run).labels.receiver = .awaitingNak
    ∧ (MemoryOk run ∧ Inquires run ∧ run.labels.queue = [])
    ∧ (let s := printing .lost .atGate false false
       Inquires s ∧ s.labels.queue = labelOf 300 :: [labelOf 301])
    ∧ ¬ Inquires (printing .printing .atGate false false)
    ∧ (run.labels.breakSeen = false ∧ headWithdrawn run = false)
    ∧ (after .lineBreak run).labels.breakSeen = true := by decide

theorem witness_issue_order :
    (16777215 ≤ 16777215 ∧ (16777215 : Nat) ≠ 1 ∧ ((1 : Int) - 16777215) % 16777216 ≠ 8388608) ∧ 1 ≤ 8388606 := by decide

/-- The laws hold of a stand with an order at the gate, and its step answers a next state. -/
theorem witness_laws :
    MemoryOk (exposingAt .armed .ready) ∧ MotionLaw (pulseState .exposeOn)
      ∧ step (exposingAt .armed .ready) = .next (tick (exposingAt .armed .ready)) := by
  refine ⟨by decide, by decide, rfl⟩

/-- An exposure in progress meets the law of exposures. -/
theorem witness_exposure_law : ExposureLaw (pulseState .exposeOn) := by
  refine ⟨?_, ?_, by decide, ?_⟩
  · intro bk; cases bk <;> decide
  · intro bk; cases bk <;> decide
  · intro _; exact ⟨.a, by decide, by decide, by decide, by decide⟩

/-- An order at the gate meets the law of hands. -/
theorem witness_hands_law : HandsLaw (exposingAt .armed .ready) where
  intake := by decide
  runs := by unfold Running; decide
  intakeOnce := by decide
  runsOnce := by decide
  gate := by
    intro r h
    obtain rfl : shot = r := by simpa [exposingAt, atGate, withOrder] using h
    exact ⟨entry 0 .copy .atGate, by unfold AtGate; decide⟩

/-- One frame EXPOSED and the next RESERVED for a shot that is armed on back A; the order's 342 cents stand in its account. -/
def lawState : State :=
  let r := { shot with
    planned := 1, frames := [{ frame := 2, position := 0, copy := 1, recorded := false }] }
  let s := poke [(0x0A, 1), (0x20, 0x0101), (0x22, 0x0100), (0x0218, 342), (0x5014, 342), (0x4006, 2), (0x4008, 1)]
    (withOrder (entry 0 .copy .atGate) (atGate .armed r (filmState .ready 2 run)))
  setByte (frameRecord ⟨.a, .first⟩ 2) 0x41 (setByte (frameRecord ⟨.a, .first⟩ 1) 0x42 s)

theorem witness_hands_of_law : HandsLaw lawState where
  intake := by decide
  runs := by unfold Running; decide
  intakeOnce := by decide
  runsOnce := by decide
  gate := by
    intro r h
    refine ⟨entry 0 .copy .atGate, ?_⟩
    have hr : r.slot = 0 ∧ r.calibrate = false := by
      obtain rfl := Option.some.inj (show some _ = some r from h)
      exact ⟨rfl, rfl⟩
    unfold AtGate
    refine ⟨by rw [hr.1]; rfl, rfl, .inl ⟨hr.2, rfl⟩, by decide⟩

/-- The state meets the law of commitments. -/
theorem witness_commitment_law : CommitmentLaw lawState where
  memory := by decide
  hands := witness_hands_of_law
  agree := fun _ => by
    refine ⟨by decide, by decide, ?_⟩
    set_option maxRecDepth 20000 in decide

theorem witness_exposure_of_law : ExposureLaw lawState := by
  refine ⟨?_, ?_, by decide, fun h => absurd h (by decide)⟩
  · intro bk; cases bk <;> decide
  · intro bk; cases bk <;> decide

/-- The sheets of the state: A0 in use, and three CLEAR sheets. -/
theorem witness_sheet_forms : SheetInUse lawState ⟨.a, .first⟩ ∧ SheetUnused lawState ⟨.a, .second⟩
    ∧ SheetUnused lawState ⟨.b, .first⟩ ∧ SheetUnused lawState ⟨.b, .second⟩ := by
  set_option maxRecDepth 20000 in refine ⟨?_, by decide, by decide, by decide⟩
  refine ⟨by decide, by decide, ?_, by set_option maxRecDepth 20000 in decide⟩
  intro k hk
  have hk' : k ∈ List.range' 1 40 := hk
  set_option maxRecDepth 20000 in revert k; decide

/-- The state meets the law of sheets. -/
theorem witness_sheet_law : SheetLaw lawState where
  memory := by decide
  hands := witness_hands_of_law
  exposure := witness_exposure_of_law
  agree := fun _ => by
    obtain ⟨h1, h2, h3, h4⟩ := witness_sheet_forms
    refine ⟨?_, ?_, by decide, ?_, ?_⟩
    · intro sh h
      simp only [allSheets, sheetsOf, List.cons_append, List.nil_append, List.mem_cons, List.not_mem_nil, or_false] at h
      rcases h with rfl | rfl | rfl | rfl
      · exact h1
      · exact h2
      · exact h3
      · exact h4
    · intro bk w h
      cases bk
      · obtain rfl : Which.first = w := Option.some.inj h
        set_option maxRecDepth 20000 in exact ⟨rfl, by decide⟩
      · exact absurd (show none = some w from h) (by simp)
    · intro _
      refine ⟨_, rfl, rfl, rfl, by decide, by decide, by decide, ?_⟩
      exact ⟨_, .head _, rfl, rfl, rfl⟩
    · intro r _ h
      exact absurd rfl h

end Sys2Proof.Tests
end

section
/-! SUPPORT. Quiet changes: what most of the part's operations do, as the laws of memory, hands and commitments see it. -/

namespace Sys2Proof.Proofs

open Sys2Proof Sys2Proof.Machine Sys2Proof.Safety Sys2Proof.Laws

/-! ### Bytes that a change keeps -/

/-- An insertion leaves every other address, in a canonical memory or not. -/
theorem read_insert_other {m : Memory} {a b : Nat} {v : Byte} (hb : b ≠ a) :
    Memory.read (Memory.insert m a v) b = Memory.read m b := by
  induction m with
  | nil =>
    unfold Memory.insert
    split <;> simp [Memory.read, hb.symm]
  | cons c m ih =>
    unfold Memory.insert
    split
    · split <;> simp [Memory.read, hb.symm]
    · split
      · next _ hc => split <;> simp [Memory.read, hb.symm, ← hc]
      · simp [Memory.read, ih]

/-- A write leaves every other address, in a canonical memory or not. -/
theorem read_set_other {m : Memory} {a b : Nat} {v : Byte} (hb : b ≠ a) :
    Memory.read (Memory.write m a v) b = Memory.read m b := by
  unfold Memory.write
  split
  · exact read_insert_other hb
  · rfl

/-- Every byte of a set of addresses reads as before. -/
def Keeps (K : Nat → Prop) (s t : State) : Prop := ∀ a, K a → Memory.read t.mem a = Memory.read s.mem a

/-- No byte of the set lies in the `n` bytes from `a`. -/
def Apart (K : Nat → Prop) (a n : Nat) : Prop := ∀ b, a ≤ b → b < a + n → ¬ K b

namespace Keeps

variable {K : Nat → Prop} {s t u : State}

theorem refl (s : State) : Keeps K s s := fun _ _ => rfl

theorem trans (h : Keeps K s t) (k : Keeps K t u) : Keeps K s u := fun a ha => (k a ha).trans (h a ha)

/-- A change of no byte. -/
theorem same (h : Keeps K s t) (hm : u.mem = t.mem) : Keeps K s u := fun a ha => by rw [hm]; exact h a ha

theorem byteAt (h : Keeps K s t) {a : Nat} (ha : K a) : byteAt t a = byteAt s a := by
  unfold Machine.byteAt
  rw [h a ha]

theorem wordAt (h : Keeps K s t) {a : Nat} (h0 : K a) (h1 : K (a + 1)) : wordAt t a = wordAt s a := by
  unfold Machine.wordAt
  rw [h.byteAt h0, h.byteAt h1]

theorem longAt (h : Keeps K s t) {a : Nat} (h0 : K a) (h1 : K (a + 1)) (h2 : K (a + 2)) : longAt t a = longAt s a := by
  unfold Machine.longAt
  rw [h.wordAt h0 h1, h.byteAt h2]

theorem setByte {a n : Nat} (h : Keeps K s t) (ha : Apart K a 1) : Keeps K s (setByte a n t) :=
  h.trans fun b hb => read_set_other fun e => ha b (by omega) (by omega) hb

theorem setWord {a n : Nat} (h : Keeps K s t) (ha : Apart K a 2) : Keeps K s (setWord a n t) :=
  (h.setByte fun b h1 h2 => ha b h1 (by omega)).setByte fun b h1 h2 => ha b (by omega) (by omega)

theorem setLong {a n : Nat} (h : Keeps K s t) (ha : Apart K a 4) : Keeps K s (setLong a n t) :=
  (h.setWord fun b h1 h2 => ha b h1 (by omega)).setWord fun b h1 h2 => ha b (by omega) (by omega)

theorem zeroBytes {a n : Nat} (h : Keeps K s t) (ha : Apart K a n) : Keeps K s (zeroBytes a (a + n) t) :=
  h.trans fun b hb => by
    unfold Machine.zeroBytes
    rw [read_zero, if_neg fun e => ha b e.1 e.2 hb]

theorem report {a n : Nat} (h : Keeps K s t) (ha : Apart K (Config.report + a) 1) : Keeps K s (report a n t) := h.setByte ha

theorem raise {f : Flag} (h : Keeps K s t) : Keeps K s (raise f t) := h.same rfl

theorem recordHand {n : Slot} {x : SlotHand} (h : Keeps K s t) : Keeps K s (recordHand n x t) := h.same rfl

theorem setRunList {l : List OrderEntry} (h : Keeps K s t) : Keeps K s (setRunList l t) := h.same rfl

theorem writeHand {n : Slot} {x : SlotHand} (h : Keeps K s t) (ha : Apart K (slotBase n) 2) : Keeps K s (writeHand n x t) :=
  (h.setWord ha).recordHand

theorem ite {c : Prop} [Decidable c] (h : c → Keeps K s t) (k : ¬ c → Keeps K s u) :
    Keeps K s (if c then t else u) := by
  split
  · exact h ‹_›
  · exact k ‹_›

theorem foldl {α : Type} {f : State → α → State} {l : List α} (hf : ∀ t, ∀ x ∈ l, Keeps K s t → Keeps K s (f t x))
    (h : Keeps K s t) : Keeps K s (l.foldl f t) := by
  induction l generalizing t with
  | nil => exact h
  | cons x l ih => exact ih (fun t y hy => hf t y (.tail _ hy)) (hf _ _ (.head _) h)

end Keeps

/-! ### The bytes that the law of commitments reads -/

/-- A slot's account index (06H), its remaining commitment (218H to 21BH), and an account's committed (14H to 17H). -/
def Amount (a : Nat) : Prop :=
  a < 0x4000 ∧ (a % 0x400 = 6 ∨ 0x218 ≤ a % 0x400 ∧ a % 0x400 < 0x21C)
    ∨ 0x5000 ≤ a ∧ a < 0x5800 ∧ 0x14 ≤ a % 0x20 ∧ a % 0x20 < 0x18

/-- No byte of the law of commitments lies in the `n` bytes from `a`. -/
abbrev Spare (a n : Nat) : Prop := Apart Amount a n

theorem slotBase_eq (n : Slot) : slotBase n = n.val * 0x400 := rfl

theorem outcome_eq (n : Slot) : outcome n = n.val * 0x400 + 0x200 := rfl

theorem shotOutcome_eq (n : Slot) (i : Nat) : shotOutcome n i = n.val * 0x400 + 0x220 + i % 24 * 0x10 := rfl

theorem accountBase_eq (i : Nat) : accountBase i = 0x5000 + i * 0x20 := rfl

theorem sheetIndex_lt (sh : Sheet) : sheetIndex sh < 4 := by
  obtain ⟨bk, w⟩ := sh
  cases bk <;> cases w <;> decide

theorem sheetBase_eq (sh : Sheet) : sheetBase sh = 0x4000 + sheetIndex sh * 0x400 := rfl

theorem frameRecord_eq (sh : Sheet) (k : Nat) :
    frameRecord sh k = 0x4000 + sheetIndex sh * 0x400 + 0x40 + (k - 1) % 40 * 0x10 := rfl

/-- Everything from the film profiles on. -/
theorem spare_above {a n : Nat} (h : 0x5800 ≤ a) : Spare a n := by
  intro b hb _
  unfold Amount
  omega

theorem spare_report {k n : Nat} : Spare (Config.report + k) n := spare_above (by unfold Config.report; omega)

theorem spare_sheet {sh : Sheet} {j n : Nat} (h : j + n ≤ 0x400) : Spare (sheetBase sh + j) n := by
  have := sheetIndex_lt sh
  intro b hb hb'
  rw [sheetBase_eq] at hb hb'
  unfold Amount
  omega

theorem spare_sheetHand {sh : Sheet} : Spare (sheetBase sh) 2 := spare_sheet (j := 0) (by decide)

theorem spare_frame {sh : Sheet} {k j n : Nat} (h : j + n ≤ 0x10) : Spare (frameRecord sh k + j) n := by
  have := sheetIndex_lt sh
  intro b hb hb'
  rw [frameRecord_eq] at hb hb'
  unfold Amount
  omega

theorem spare_frameState {sh : Sheet} {k : Nat} : Spare (frameRecord sh k) 1 := spare_frame (j := 0) (by decide)

theorem spare_outcome {n : Slot} {j m : Nat} (h : j + m ≤ 0x18 ∨ 0x1C ≤ j ∧ j + m ≤ 0x200) :
    Spare (outcome n + j) m := by
  have := n.isLt
  intro b hb hb'
  rw [outcome_eq] at hb hb'
  unfold Amount
  omega

theorem spare_orderState {n : Slot} : Spare (outcome n) 1 := spare_outcome (j := 0) (.inl (by decide))

theorem spare_shot {n : Slot} {i j m : Nat} (h : j + m ≤ 0x10) : Spare (shotOutcome n i + j) m := by
  have := n.isLt
  intro b hb hb'
  rw [shotOutcome_eq] at hb hb'
  unfold Amount
  omega

theorem spare_shotCode {n : Slot} {i m : Nat} (h : m ≤ 0x10) : Spare (shotOutcome n i) m := by
  simpa using spare_shot (n := n) (i := i) (j := 0) (m := m) (by omega)

theorem spare_slotHand {n : Slot} : Spare (slotBase n) 2 := by
  have := n.isLt
  intro b hb hb'
  rw [slotBase_eq] at hb hb'
  unfold Amount
  omega

theorem spare_account {i j m : Nat} (h : j + m ≤ 0x14 ∨ 0x18 ≤ j ∧ j + m ≤ 0x20) : Spare (accountBase i + j) m := by
  intro b hb hb'
  rw [accountBase_eq] at hb hb'
  unfold Amount
  omega

theorem amount_account {n : Slot} : Amount (slotBase n + 6) := by
  have := n.isLt
  rw [slotBase_eq]
  unfold Amount
  omega

theorem amount_remaining {n : Slot} {j : Nat} (h : j < 4) : Amount (outcome n + 0x18 + j) := by
  have := n.isLt
  rw [outcome_eq]
  unfold Amount
  omega

theorem amount_committed {i : Account} {j : Nat} (h : j < 4) : Amount (accountBase i.val + 0x14 + j) := by
  have := i.isLt
  rw [accountBase_eq]
  unfold Amount
  omega

/-! ### Quiet changes -/

/-- What the law of hands reads of an order of the run list. -/
def entryKey (e : OrderEntry) : Slot × OrderKind × SubState × Bool := (e.slot, e.kind, e.sub, e.started)

/-- What the law of hands reads of the work at the gate. -/
def workKey (r : ShotRecord) : Slot × Bool := (r.slot, r.calibrate)

/-- A change that keeps the canonical form and every amount, the hands, the intake queue, the run list and the work at the gate as
the laws see them, and whether the zeroing has ended. -/
structure Quiet (s t : State) : Prop where
  memory : MemoryOk s → MemoryOk t
  amounts : Keeps Amount s t
  recorded : t.orders.recorded = s.orders.recorded
  intake : t.orders.intake = s.orders.intake
  entries : t.orders.runList.map entryKey = s.orders.runList.map entryKey
  work : t.gate.shot.map workKey = s.gate.shot.map workKey
  live : isLive t = isLive s

namespace Quiet

variable {s t u : State}

theorem refl (s : State) : Quiet s s := ⟨id, .refl _, rfl, rfl, rfl, rfl, rfl⟩

theorem trans (h : Quiet s t) (k : Quiet t u) : Quiet s u where
  memory m := k.memory (h.memory m)
  amounts := h.amounts.trans k.amounts
  recorded := k.recorded.trans h.recorded
  intake := k.intake.trans h.intake
  entries := k.entries.trans h.entries
  work := k.work.trans h.work
  live := k.live.trans h.live

/-- A change of none of the parts that the laws read. -/
theorem same (h : Quiet s t) (hm : u.mem = t.mem) (ho : u.orders = t.orders) (hg : u.gate.shot = t.gate.shot)
    (hc : u.control.startUp = t.control.startUp) : Quiet s u :=
  h.trans
    { memory := fun m => by rw [MemoryOk, hm]; exact m
      amounts := (Keeps.refl t).same hm
      recorded := by rw [ho]
      intake := by rw [ho]
      entries := by rw [ho]
      work := by rw [hg]
      live := by unfold isLive; rw [hc] }

/-- The same, for both branches of a test. -/
theorem ite {c : Prop} [Decidable c] (h : c → Quiet s t) (k : ¬ c → Quiet s u) : Quiet s (if c then t else u) := by
  split
  · exact h ‹_›
  · exact k ‹_›

theorem foldl {α : Type} {f : State → α → State} (hf : ∀ t x, Quiet s t → Quiet s (f t x)) :
    ∀ (l : List α) {t : State}, Quiet s t → Quiet s (l.foldl f t)
  | [], _, h => h
  | _ :: l, _, h => foldl hf l (hf _ _ h)

/-! ### Common memory -/

theorem setByte {a n : Nat} (h : Quiet s t) (ha : Spare a 1) : Quiet s (setByte a n t) :=
  h.trans
    { memory := memoryOk_setByte
      amounts := (Keeps.refl t).setByte ha
      recorded := rfl, intake := rfl, entries := rfl, work := rfl, live := rfl }

theorem setWord {a n : Nat} (h : Quiet s t) (ha : Spare a 2) : Quiet s (setWord a n t) :=
  (h.setByte fun b h1 h2 => ha b h1 (by omega)).setByte fun b h1 h2 => ha b (by omega) (by omega)

theorem setLong {a n : Nat} (h : Quiet s t) (ha : Spare a 4) : Quiet s (setLong a n t) :=
  (h.setWord fun b h1 h2 => ha b h1 (by omega)).setWord fun b h1 h2 => ha b (by omega) (by omega)

theorem zeroBytes {a n : Nat} (h : Quiet s t) (ha : Spare a n) : Quiet s (zeroBytes a (a + n) t) :=
  h.trans
    { memory := memoryOk_zeroBytes
      amounts := (Keeps.refl t).zeroBytes ha
      recorded := rfl, intake := rfl, entries := rfl, work := rfl, live := rfl }

theorem raiseByte {a : Nat} (h : Quiet s t) (ha : Spare a 1) : Quiet s (raiseByte a t) := h.setByte ha

theorem raiseWord {a : Nat} (h : Quiet s t) (ha : Spare a 2) : Quiet s (raiseWord a t) := h.setWord ha

theorem report {a n : Nat} (h : Quiet s t) : Quiet s (report a n t) := h.setByte spare_report

theorem setWaitingCount {n : Nat} (h : Quiet s t) : Quiet s (setWaitingCount n t) := h.report

/-! ### The records of the state -/

theorem setBack {bk : Back} {x : BackUnit} (h : Quiet s t) : Quiet s (setBack bk x t) :=
  h.same (by simp) (by simp) (by simp) (by simp)

theorem recordSheetHand {sh : Sheet} {x : SheetHand} (h : Quiet s t) : Quiet s (recordSheetHand sh x t) :=
  h.same (by simp) (by simp) (by simp) (by simp)

theorem enterCarriage {c : CarriageState} (h : Quiet s t) : Quiet s (enterCarriage c t) :=
  (h.same rfl rfl rfl rfl : Quiet s { t with carriage := { t.carriage with state := c } }).report

theorem setPosition {p : Nat} (h : Quiet s t) : Quiet s (setPosition p t) :=
  (h.same rfl rfl rfl rfl : Quiet s { t with feeder := { t.feeder with position := p } }).report

theorem enterBack {bk : Back} {st : BackState} (h : Quiet s t) : Quiet s (enterBack bk st t) := h.setBack.report

theorem setLive {bk : Back} {w : Option Which} (h : Quiet s t) : Quiet s (setLive bk w t) := h.setBack.report

theorem setGateFrame {bk : Back} {k : Nat} (h : Quiet s t) : Quiet s (setGateFrame bk k t) := h.setBack

theorem setFaultCount {n : Nat} (h : Quiet s t) : Quiet s (setFaultCount n t) :=
  (h.same rfl rfl rfl rfl : Quiet s { t with lamp := { t.lamp with faultCount := n } }).report

theorem setStand {st : StandState} {c : HoldCause} (h : Quiet s t) : Quiet s (setStand st c t) :=
  (h.same rfl rfl rfl rfl : Quiet s { t with control := { t.control with stand := st, cause := c } }).report.report

theorem setResetCause {c : ResetCause} (h : Quiet s t) : Quiet s (setResetCause c t) :=
  (h.same rfl rfl rfl rfl : Quiet s { t with control := { t.control with resetCause := c } }).report

theorem setQueue {q : List LabelEntry} (h : Quiet s t) : Quiet s (setQueue q t) :=
  (h.same rfl rfl rfl rfl : Quiet s { t with labels := { t.labels with queue := q } }).report

theorem setErrors {n : Nat} (h : Quiet s t) : Quiet s (setErrors n t) :=
  (h.same rfl rfl rfl rfl : Quiet s { t with labels := { t.labels with errors := n } }).setWord spare_report

theorem raise {f : Flag} (h : Quiet s t) : Quiet s (raise f t) := h.same rfl rfl rfl rfl

theorem readNotice (h : Quiet s t) : Quiet s (readNotice t) := h.same rfl rfl rfl rfl

theorem writeNotice {v : Word} (h : Quiet s t) : Quiet s (writeNotice v t) := h.same rfl rfl rfl rfl

theorem writeEnables {v : Word} (h : Quiet s t) : Quiet s (writeEnables v t) := h.same rfl rfl rfl rfl

/-! ### Charges -/

theorem raiseSpent {i x : Nat} (h : Quiet s t) : Quiet s (raiseSpent i x t) := by
  unfold Machine.raiseSpent setSaturated setSpent
  refine ite (fun _ => ?_) fun _ => ?_
  · exact (h.setLong (spare_account (.inl (by decide)))).setWord (spare_account (.inl (by decide)))
  · exact h.setLong (spare_account (.inl (by decide)))

theorem raiseFrames {i : Nat} (h : Quiet s t) : Quiet s (raiseFrames i t) :=
  h.setLong (spare_account (.inr (by decide)))

theorem setCharged {n : Slot} {x : Nat} (h : Quiet s t) : Quiet s (setCharged n x t) :=
  h.setLong (spare_outcome (.inl (by decide)))

theorem settleStep {i : Nat} (h : Quiet s t) : Quiet s (settleStep i t) :=
  ((((h.setWord (spare_account (.inl (by decide)))).setWord (spare_account (.inl (by decide)))).setLong
    (spare_account (.inr (by decide)))).setLong (spare_account (.inl (by decide)))).setWord
      (spare_account (.inl (by decide)))

/-! ### Sheets and frame records -/

theorem setFrameState {sh : Sheet} {k : Nat} {f : FrameState} (h : Quiet s t) : Quiet s (setFrameState sh k f t) :=
  h.setByte spare_frameState

theorem setLabelState {sh : Sheet} {k : Nat} {l : LabelState} (h : Quiet s t) : Quiet s (setLabelState sh k l t) :=
  h.setByte spare_frameState

theorem setSpoilCause {sh : Sheet} {k : Nat} {c : SpoilCause} (h : Quiet s t) : Quiet s (setSpoilCause sh k c t) :=
  h.setByte (spare_frame (by decide))

theorem setFrameCharge {sh : Sheet} {k x : Nat} (h : Quiet s t) : Quiet s (setFrameCharge sh k x t) :=
  h.setWord (spare_frame (by decide))

theorem setLabelCharge {sh : Sheet} {k x : Nat} (h : Quiet s t) : Quiet s (setLabelCharge sh k x t) :=
  h.setWord (spare_frame (by decide))

theorem setFrameSequence {sh : Sheet} {k x : Nat} (h : Quiet s t) : Quiet s (setFrameSequence sh k x t) :=
  h.setLong (spare_frame (by decide))

theorem closeFrame {sh : Sheet} {k : Nat} {f : FrameState} (h : Quiet s t) : Quiet s (closeFrame sh k f t) := by
  have hs : sheetCount f ≤ 0x0A := by cases f <;> decide
  exact ite (fun _ => h.setFrameState.raiseByte (spare_sheet (by omega))) fun _ => h.setFrameState

theorem dropReserved {sh : Sheet} {k : Nat} (h : Quiet s t) : Quiet s (dropReserved sh k t) :=
  ite (fun _ => h.closeFrame) fun _ => h

theorem dropAllReserved {sh : Sheet} {x : Option Nat} (h : Quiet s t) : Quiet s (dropAllReserved sh x t) :=
  foldl (fun _ _ k => ite (fun _ => k) fun _ => k.dropReserved) _ h

theorem reserveFrame {sh : Sheet} {n : Slot} {shot : Nat} {p : PositionPlan} {copy : Nat} (h : Quiet s t) :
    Quiet s (reserveFrame sh n shot p copy t) := by
  have h3 (x y z : Nat) := ((h.setByte (n := x) (spare_frame (sh := sh) (k := framesUsed t sh + 1) (j := 1) (by decide))).setByte
    (n := y) (spare_frame (sh := sh) (k := framesUsed t sh + 1) (j := 2) (by decide))).setByte (n := z)
      (spare_frame (sh := sh) (k := framesUsed t sh + 1) (j := 3) (by decide))
  exact (((((((h3 _ _ _).setWord (spare_frame (by decide))).setWord (spare_frame (by decide))).setWord
    (spare_frame (by decide))).setWord (spare_frame (by decide))).setLong (spare_frame (by decide))).setByte
      spare_frameState).setByte (spare_sheet (by decide))

theorem issueSequence (h : Quiet s t) : Quiet s (issueSequence t) := h.setLong spare_report

theorem dropAbove {sh : Sheet} {k j : Nat} (h : Quiet s t) : Quiet s (dropAbove sh k j t) :=
  ite (fun _ => h.setFrameState) fun _ => h

theorem cutCapacity {sh : Sheet} {k : Nat} (h : Quiet s t) : Quiet s (cutCapacity sh k t) :=
  ((((foldl (fun _ _ k => k.dropAbove) frameNumbers h).setByte (spare_sheet (by decide))).setByte
    (spare_sheet (by decide))).setByte (spare_sheet (by decide))).setByte (spare_sheet (by decide))

theorem writeSheetHand {sh : Sheet} {x : SheetHand} (h : Quiet s t) : Quiet s (writeSheetHand sh x t) :=
  (h.setWord spare_sheetHand).recordSheetHand

theorem retireFrame {sh : Sheet} {k : Nat} (h : Quiet s t) : Quiet s (retireFrame sh k t) :=
  ite (fun _ => h.closeFrame) fun _ => h

theorem retireSheet {sh : Sheet} {c : RetireCause} (h : Quiet s t) : Quiet s (retireSheet sh c t) :=
  ((((foldl (fun _ _ k => k.retireFrame) frameNumbers h).setByte (spare_sheet (by decide))).setByte
    (spare_sheet (by decide))).writeSheetHand).setLive.raise

theorem retireLive {bk : Back} {c : RetireCause} (h : Quiet s t) : Quiet s (retireLive bk c t) := by
  unfold Machine.retireLive
  split
  · exact h.retireSheet
  · exact h

theorem clearSheet {sh : Sheet} (h : Quiet s t) : Quiet s (clearSheet sh t) :=
  (h.zeroBytes (n := 0x2BA) (spare_sheet (by decide))).recordSheetHand

theorem sheetHandRule {sh : Sheet} (h : Quiet s t) : Quiet s (sheetHandRule sh t) :=
  ite (fun _ => h) fun _ => ite (fun _ => h.recordSheetHand) fun _ => ite (fun _ => h.recordSheetHand) fun _ =>
    ite (fun _ => h.clearSheet) fun _ => (h.setWord spare_sheetHand).raise

theorem handleSheetMark {sh : Sheet} (h : Quiet s t) : Quiet s (handleSheetMark sh t) :=
  ite (fun _ => sheetHandRule (h.same rfl rfl rfl rfl)) fun _ => h

/-! ### Scans and the converter -/

theorem endConversion {q : Requester} (h : Quiet s t) : Quiet s (endConversion q t) := by
  rw [endConversion_only]
  exact h.same rfl rfl rfl rfl

theorem startScan {j : ScanJob} (h : Quiet s t) : Quiet s (startScan j t) := h.same rfl rfl rfl rfl

theorem endScan (h : Quiet s t) : Quiet s (endScan t) := h.same rfl rfl rfl rfl

theorem requestRound (h : Quiet s t) : Quiet s (requestRound t) := h.same rfl rfl rfl rfl

theorem convert {c : Nat} (h : Quiet s t) : Quiet s (convert c t) := by
  unfold Machine.convert
  dsimp only
  split <;> exact h.same rfl rfl rfl rfl

theorem loadHolder {p : Pulse} (h : Quiet s t) : Quiet s (loadHolder p t) := h.same rfl rfl rfl rfl

theorem emptyHolder (h : Quiet s t) : Quiet s (emptyHolder t) := h.same rfl rfl rfl rfl

theorem writeMeterResult {n : Slot} {i : Nat} {r : MeterResult} (h : Quiet s t) :
    Quiet s (writeMeterResult n i r t) :=
  (((((h.setByte (spare_shot (by decide))).setByte (spare_shot (by decide))).setByte (spare_shot (by decide))).setByte
    (spare_shot (by decide))).setWord (spare_shot (by decide))).setByte (spare_shot (by decide))

theorem storeCalibration {r l : Rgb} (h : Quiet s t) : Quiet s (storeCalibration r l t) := by
  have hs (j : Nat) : Spare (Config.calibration + j) 2 := spare_above (by unfold Config.calibration; omega)
  exact (((((((h.setWord (hs _)).setWord (hs _)).setWord (hs _)).setWord (hs _)).setWord (hs _)).setWord (hs _)).setWord
    (hs 0)).raise

theorem writeOpenLevels {n : Slot} {l : Rgb} (h : Quiet s t) : Quiet s (writeOpenLevels n l t) :=
  ((h.setByte (spare_shot (by decide))).setByte (spare_shot (by decide))).setByte (spare_shot (by decide))

/-! ### Orders -/

/-- A change of the entries of a slot that keeps what the laws read of them. -/
theorem updateOrder {n : Slot} {f : OrderEntry → OrderEntry} (h : Quiet s t) (hf : ∀ e, entryKey (f e) = entryKey e) :
    Quiet s (updateOrder n f t) :=
  h.trans
    { Quiet.refl t with
      entries := by
        simp only [Machine.updateOrder, setRunList_runList, List.map_map]
        refine List.map_congr_left fun e _ => ?_
        dsimp only [Function.comp_apply]
        split
        · exact hf e
        · rfl }

theorem setChoice {c : Option ShotChoice} (h : Quiet s t) : Quiet s (setChoice c t) :=
  h.trans ⟨id, .refl _, rfl, rfl, rfl, rfl, rfl⟩

theorem refreshWanted (h : Quiet s t) : Quiet s (refreshWanted t) := by
  unfold Machine.refreshWanted
  split <;> exact h.report.report

theorem setShotCode {n : Slot} {i : Nat} {c : ShotCode} (h : Quiet s t) : Quiet s (setShotCode n i c t) :=
  h.setByte (spare_shotCode (by decide))

theorem raiseShotsDone {n : Slot} (h : Quiet s t) : Quiet s (raiseShotsDone n t) :=
  h.raiseWord (spare_outcome (.inl (by decide)))

theorem writeBareOutcome {n : Slot} {i : Nat} {c : ShotCode} (h : Quiet s t) : Quiet s (writeBareOutcome n i c t) :=
  ((h.zeroBytes (spare_shotCode (by decide))).setShotCode).setByte (spare_shot (by decide))

theorem closePending {n : Slot} {c : ShotCode} (h : Quiet s t) : Quiet s (closePending n c t) :=
  foldl (fun _ _ k => ite (fun _ => k.setShotCode) fun _ => k) _ h

/-! ### Labels -/

theorem setLine {l : List Transmission} (h : Quiet s t) : Quiet s (setLine l t) := h.same rfl rfl rfl rfl

theorem sendInquire (h : Quiet s t) : Quiet s (sendInquire t) :=
  ite (fun _ => h.setLine) fun _ => h.same rfl rfl rfl rfl

theorem enterPrinter {p : PrinterState} (h : Quiet s t) : Quiet s (enterPrinter p t) :=
  report (h.same rfl rfl rfl rfl)

theorem enterInquiring {p : PrinterState} (h : Quiet s t) : Quiet s (enterInquiring p t) := h.enterPrinter.sendInquire

theorem sendMessage {e : LabelEntry} (h : Quiet s t) : Quiet s (sendMessage e t) := h.same rfl rfl rfl rfl

theorem trySend (h : Quiet s t) : Quiet s (trySend t) := by
  unfold Machine.trySend
  split
  · exact sendMessage (h.enterPrinter.same rfl rfl rfl rfl)
  · exact h

theorem enterReady (h : Quiet s t) : Quiet s (enterReady t) := h.enterPrinter.trySend

theorem appendLabel {sh : Sheet} {k : Nat} (h : Quiet s t) : Quiet s (appendLabel sh k t) := h.setQueue.setLabelState

theorem promoteOne (h : Quiet s t) : Quiet s (promoteOne t) := by
  unfold Machine.promoteOne
  refine ite (fun _ => ?_) fun _ => h
  split
  · exact h.appendLabel.setWaitingCount
  · exact h

theorem repeatN {f : State → State} (hf : ∀ t, Quiet s t → Quiet s (f t)) :
    ∀ (n : Nat) {t : State}, Quiet s t → Quiet s (repeatN f n t)
  | 0, _, h => h
  | n + 1, _, h => repeatN hf n (hf _ h)

theorem promoteLabels (h : Quiet s t) : Quiet s (promoteLabels t) := repeatN (fun _ k => k.promoteOne) _ h

theorem raiseOutstanding {n : Slot} (h : Quiet s t) : Quiet s (raiseOutstanding n t) := h.updateOrder fun _ => rfl

theorem enterLabel {sh : Sheet} {k : Nat} (h : Quiet s t) : Quiet s (enterLabel sh k t) :=
  (ite (fun _ => h.appendLabel) fun _ => h.setLabelState.setWaitingCount).raiseOutstanding.trySend

theorem afterReply (h : Quiet s t) : Quiet s (afterReply t) := ite (fun _ => h.same rfl rfl rfl rfl) fun _ => h.enterReady

theorem takeReady (h : Quiet s t) : Quiet s (takeReady t) := ite (fun _ => h.enterReady) fun _ => h

theorem setReceiver {r : Receiver} (h : Quiet s t) : Quiet s (setReceiver r t) := h.same rfl rfl rfl rfl

theorem holdByte {b : Option Byte} (h : Quiet s t) : Quiet s (holdByte b t) := h.same rfl rfl rfl rfl

theorem discardByte (h : Quiet s t) : Quiet s (discardByte t) := h.setReceiver.setErrors

theorem resetLabels (h : Quiet s t) : Quiet s (resetLabels t) := by
  have skipQueued : ∀ l : List LabelEntry,
      Quiet s (l.foldl (fun s e => Machine.setLabelState e.sheet e.frame .skipped s) t) :=
    fun l => foldl (fun _ _ k => k.setLabelState) l h
  have skipWaiting (u : State) (hu : Quiet s u) : ∀ l : List (Sheet × Nat),
      Quiet s (l.foldl (fun s x => Machine.setLabelState x.1 x.2 .skipped s) u) :=
    fun l => foldl (fun _ _ k => k.setLabelState) l hu
  exact enterInquiring ((skipWaiting _ (skipQueued _) _).setQueue.setWaitingCount.setErrors.same rfl rfl rfl rfl)

/-! ### Holds, pulses and drives -/

theorem enterHeld {c : HoldCause} (h : Quiet s t) : Quiet s (enterHeld c t) := h.setStand.raise

theorem holdStand {c : HoldCause} (h : Quiet s t) : Quiet s (holdStand c t) := by
  rw [holdStand_spec]
  exact ite (fun _ => h) fun _ => h.enterHeld

theorem endPulse (h : Quiet s t) : Quiet s (endPulse t) := h.same rfl rfl rfl rfl

theorem commandClose {bk : Back} (h : Quiet s t) : Quiet s (commandClose bk t) := h.setBack

/-- A new shot record of the same work. -/
theorem setShot {r : ShotRecord} (h : Quiet s t) (hr : t.gate.shot.map workKey = some (workKey r)) :
    Quiet s (setShot r t) :=
  h.trans ⟨id, .refl _, rfl, rfl, rfl, hr.symm, rfl⟩

theorem reportPulse {p : PendingResult} (h : Quiet s t) : Quiet s (reportPulse p t) := by
  unfold Machine.reportPulse
  split
  · next r hr => exact ite (fun _ => (h.setShot (r := { r with result := p }) (by rw [hr]; rfl)).commandClose) fun _ => h
  · exact h

theorem cutPulse {c : SpoilCause} (h : Quiet s t) : Quiet s (cutPulse c t) := h.endPulse.reportPulse

theorem setPhase {p : GatePhase} (h : Quiet s t) : Quiet s (setPhase p t) := h.same rfl rfl rfl rfl

theorem setSettle {x : Timer} (h : Quiet s t) : Quiet s (setSettle x t) := h.same rfl rfl rfl rfl

theorem abandonScan (h : Quiet s t) : Quiet s (abandonScan t) := by
  unfold Machine.abandonScan
  refine ite (fun _ => h) fun _ => ite (fun _ => ?_) fun _ => ?_
  · exact (ite (fun _ => h.endScan.endPulse) fun _ => h.endScan).setPhase
  · exact ite (fun _ => h.endScan.endPulse) fun _ => h.endScan

theorem startDrive (h : Quiet s t) : Quiet s (startDrive t) := by
  unfold Machine.startDrive
  split
  · exact h
  · exact h.endPulse.abandonScan
  · exact h.cutPulse
  · exact h.cutPulse

theorem switchOn (h : Quiet s t) : Quiet s (switchOn t) := by
  unfold Machine.switchOn
  split
  · exact ite (fun _ => h.same rfl rfl rfl rfl) fun _ => h
  · exact h

theorem trigger {bk : Back} (h : Quiet s t) : Quiet s (trigger bk t) := by
  unfold Machine.trigger
  split
  · refine ite (fun _ => h.emptyHolder.reportPulse) fun _ => ite (fun _ => h.emptyHolder.reportPulse) fun _ =>
      ite (fun _ => switchOn (h.emptyHolder.same rfl rfl rfl rfl)) fun _ => h.emptyHolder.same rfl rfl rfl rfl
  · exact h

theorem startHoming (h : Quiet s t) : Quiet s (startHoming t) :=
  ite (fun _ => enterCarriage (h.same rfl rfl rfl rfl)) fun _ => enterCarriage (h.startDrive.same rfl rfl rfl rfl)

theorem startShift {bk : Back} (h : Quiet s t) : Quiet s (startShift bk t) :=
  enterCarriage (h.startDrive.same rfl rfl rfl rfl)

theorem carriageFault (h : Quiet s t) : Quiet s (carriageFault t) :=
  holdStand (enterCarriage (h.same rfl rfl rfl rfl))

theorem stopFeeder (h : Quiet s t) : Quiet s (stopFeeder t) := h.same rfl rfl rfl rfl

theorem driveToTarget (h : Quiet s t) : Quiet s (driveToTarget t) := by
  unfold Machine.driveToTarget
  split
  · exact h.stopFeeder
  · exact ite (fun _ => h.stopFeeder) fun _ => h.startDrive.same rfl rfl rfl rfl

theorem feederHomed (h : Quiet s t) : Quiet s (feederHomed t) := h.setPosition.driveToTarget

theorem homeFeeder {x : Option Nat} (h : Quiet s t) : Quiet s (homeFeeder x t) := by
  have ht : Quiet s { t with feeder := { t.feeder with target := x } } := h.same rfl rfl rfl rfl
  exact ite (fun _ => ht.feederHomed) fun _ => ht.startDrive.same rfl rfl rfl rfl

theorem moveFeeder {x : Nat} (h : Quiet s t) : Quiet s (moveFeeder x t) :=
  ite (fun _ => h.homeFeeder) fun _ => driveToTarget (h.same rfl rfl rfl rfl)

theorem feederPulse (h : Quiet s t) : Quiet s (feederPulse t) := by
  unfold Machine.feederPulse
  split
  · exact h
  · exact driveToTarget (setPosition (h.same rfl rfl rfl rfl))

/-! ### Back Units -/

theorem setMotor {bk : Back} {m : Motor} (h : Quiet s t) : Quiet s (setMotor bk m t) := h.setBack

theorem setShutter {bk : Back} {x : Shutter} (h : Quiet s t) : Quiet s (setShutter bk x t) := h.setBack

theorem setLevels {bk : Back} {x : BackLevels} (h : Quiet s t) : Quiet s (setLevels bk x t) := h.setBack

theorem startMotor {bk : Back} (h : Quiet s t) : Quiet s (startMotor bk t) := ite (fun _ => h.setMotor) fun _ => h

theorem callMotor {bk : Back} {d : Direction} (h : Quiet s t) : Quiet s (callMotor bk d t) := h.setMotor.startMotor

theorem stopMotor {bk : Back} (h : Quiet s t) : Quiet s (stopMotor bk t) := h.setMotor

theorem enterReadyBack {bk : Back} (h : Quiet s t) : Quiet s (enterReadyBack bk t) := h.setBack.enterBack

theorem jamBack {bk : Back} (h : Quiet s t) : Quiet s (jamBack bk t) := by
  unfold Machine.jamBack
  split
  · exact h.dropAllReserved.stopMotor.setShutter.enterBack.raise
  · exact h.stopMotor.setShutter.enterBack.raise

theorem beginRewind {bk : Back} {o : RewindOrigin} (h : Quiet s t) : Quiet s (beginRewind bk o t) :=
  h.setBack.enterBack.callMotor

theorem enterRollEnd {bk : Back} (h : Quiet s t) : Quiet s (enterRollEnd bk t) :=
  ite (fun _ => h.enterBack.beginRewind) fun _ => h.enterBack

theorem windOn {bk : Back} (h : Quiet s t) : Quiet s (windOn bk t) := by
  unfold Machine.windOn
  split
  · exact h
  · exact ite (fun _ => h.enterRollEnd) fun _ => h.enterBack.callMotor

theorem refuseSheet {sh : Sheet} (h : Quiet s t) : Quiet s (refuseSheet sh t) := h.writeSheetHand.raise

/-! ### The Gate Sequencer -/

theorem dropShotFrames {r : ShotRecord} (h : Quiet s t) : Quiet s (dropShotFrames r t) :=
  foldl (fun _ _ k => k.dropReserved) _ h

theorem restIfHeld (h : Quiet s t) : Quiet s (restIfHeld t) :=
  ite (fun _ => emptyHolder (h.same rfl rfl rfl rfl)) fun _ => h

theorem takePendingHold (h : Quiet s t) : Quiet s (takePendingHold t) := ite (fun _ => h.enterHeld) fun _ => h

theorem frameLoop (h : Quiet s t) : Quiet s (frameLoop t) := by
  unfold Machine.frameLoop
  split
  · exact h
  · split
    · exact h
    · exact ite (fun _ => ite (fun _ => h.setSettle) fun _ => ite (fun _ => h.windOn) fun _ => h)
        fun _ => ite (fun _ => h.windOn) fun _ => h

theorem writeFirstFrame {r : ShotRecord} {k : Nat} (h : Quiet s t) : Quiet s (writeFirstFrame r k t) :=
  ((h.setByte (spare_shot (by decide))).setWord (spare_shot (by decide))).setByte (spare_shot (by decide))

theorem reserveNext {p : PositionPlan} {copy : Nat} (h : Quiet s t) : Quiet s (reserveNext p copy t) := by
  refine h.trans ?_
  unfold Machine.reserveNext
  split
  · exact refl t
  · next r hr =>
    have reserved : Quiet t (Machine.reserveFrame (shotSheet r) r.slot r.shot p copy t) := (refl t).reserveFrame
    have started := ite (c := r.frames = []) (fun _ => reserved.writeFirstFrame (r := r)
      (k := framesUsed t (shotSheet r) + 1)) fun _ => reserved
    exact ite (fun _ => started.setShot (by rw [started.work, hr]; rfl)) fun _ => refl t

theorem writeSpoiled {r : ShotRecord} {f : SetFrame} {c : SpoilCause} (h : Quiet s t)
    (hr : t.gate.shot.map workKey = some (workKey r)) : Quiet s (writeSpoiled r f c t) := by
  have closed : Quiet t (Machine.closeFrame (shotSheet r) f.frame .spoiled
      (Machine.setSpoilCause (shotSheet r) f.frame c t)) := (refl t).setSpoilCause.closeFrame
  exact h.trans (((closed.setShot (r := markRecorded f.frame r) (by rw [closed.work, hr]; rfl)).raiseByte
    (spare_shot (by decide))).raiseWord (spare_outcome (.inl (by decide))))

theorem countLampFault (h : Quiet s t) : Quiet s (countLampFault t) :=
  ite (fun _ => h.setFaultCount.holdStand) fun _ => h.setFaultCount

theorem reshoot {f : SetFrame} {c : SpoilCause} (h : Quiet s t) : Quiet s (reshoot f c t) := by
  unfold Machine.reshoot
  split
  · exact h
  · next r hr =>
    split
    · exact h
    · exact ite (fun _ => ((h.setShot (by rw [hr]; rfl)).reserveNext).setByte (spare_shot (by decide))) fun _ => h

theorem recordSpoiled {r : ShotRecord} {f : SetFrame} {c : SpoilCause} (h : Quiet s t)
    (hr : t.gate.shot.map workKey = some (workKey r)) : Quiet s (recordSpoiled r f c t) :=
  (ite (fun _ => (h.writeSpoiled hr).countLampFault) fun _ => h.writeSpoiled hr).reshoot

theorem tellUsed {bk : Back} (h : Quiet s t) : Quiet s (tellUsed bk t) := ite (fun _ => h) fun _ => h.windOn

theorem setResult {p : PendingResult} (h : Quiet s t) : Quiet s (setResult p t) := by
  unfold Machine.setResult
  split
  · next r hr => exact h.setShot (by rw [hr]; rfl)
  · exact h

/-! ### Resets, the port and the passing of time -/

theorem resetLamp (h : Quiet s t) : Quiet s (resetLamp t) := setFaultCount (h.endPulse.same rfl rfl rfl rfl)

theorem resetConverter (h : Quiet s t) : Quiet s (resetConverter t) := h.same rfl rfl rfl rfl

theorem resetBack {bk : Back} (h : Quiet s t) : Quiet s (resetBack bk t) := by
  unfold Machine.resetBack
  refine setBack (ite (fun _ => h.jamBack) fun _ => ite (fun _ => h.enterBack.commandClose) fun _ => h)

theorem resetCarriage (h : Quiet s t) : Quiet s (resetCarriage t) :=
  ite (fun _ => h) fun _ => enterCarriage (h.same rfl rfl rfl rfl)

theorem clearMarks (h : Quiet s t) : Quiet s (clearMarks t) := h.same rfl rfl rfl rfl

theorem endStandReset (h : Quiet s t) : Quiet s (endStandReset t) :=
  setResetCause (h.same rfl rfl rfl rfl)

theorem tryEndStartUp (h : Quiet s t) : Quiet s (tryEndStartUp t) := by
  unfold Machine.tryEndStartUp
  refine ite (fun hs => enterInquiring (h.trans ?_)) fun _ => h
  exact ⟨id, .refl _, rfl, rfl, rfl, rfl, by unfold isLive; rw [hs.1]⟩

theorem markWritten {a : Nat} (h : Quiet s t) : Quiet s (markWritten a t) :=
  ite (fun _ => h.same rfl rfl rfl rfl) fun _ => ite (fun _ => h.same rfl rfl rfl rfl) fun _ =>
    ite (fun _ => h.same rfl rfl rfl rfl) fun _ => h

theorem dropWrite {a : Nat} (h : Quiet s t) : Quiet s (dropWrite a t) := (h.setWord spare_report).raise

theorem tick (s : State) : Quiet s (tick s) := (refl s).same rfl rfl rfl rfl

/-! ### Commands -/

theorem beginScan (h : Quiet s t) : Quiet s (beginScan t) := by
  unfold Machine.beginScan
  split
  · exact h
  · exact h.startScan.setPhase

theorem startMeter (h : Quiet s t) : Quiet s (startMeter t) := h.same rfl rfl rfl rfl

theorem closeEnd {bk : Back} (h : Quiet s t) : Quiet s (closeEnd bk t) := by
  cases bk <;> exact h.same rfl rfl rfl rfl

theorem stopAtLine {bk : Back} (h : Quiet s t) : Quiet s (stopAtLine bk t) := enterCarriage (h.same rfl rfl rfl rfl)

theorem armFrame (h : Quiet s t) : Quiet s (armFrame t) := by
  unfold Machine.armFrame
  split
  · exact h
  · refine ite (fun _ => ?_) fun _ => h
    split
    · exact h.loadHolder.setPhase.setSettle
    · exact h

theorem commandOpen {bk : Back} (h : Quiet s t) : Quiet s (commandOpen bk t) := h.setShutter

theorem openShutter (h : Quiet s t) : Quiet s (openShutter t) := by
  unfold Machine.openShutter
  split
  · exact h
  · next r hr => exact ite (fun _ => (h.setShot (by rw [hr]; rfl)).setPhase.commandOpen) fun _ => h

theorem shutterLevels {bk : Back} {x y : Bool} (h : Quiet s t) : Quiet s (shutterLevels bk x y t) := h.setBack

theorem shutterOpened {bk : Back} (h : Quiet s t) : Quiet s (shutterOpened bk t) :=
  ite (fun _ => (enterBack (h.setShutter)).trigger) fun _ => enterBack h.setShutter

theorem shutterSeenClosed {bk : Back} (h : Quiet s t) : Quiet s (shutterSeenClosed bk t) := h.setShutter

theorem staleClosed {bk : Back} (h : Quiet s t) : Quiet s (staleClosed bk t) := h.setShutter

theorem senseLamp {c : Nat} (h : Quiet s t) : Quiet s (senseLamp c t) :=
  ite (fun _ => cutPulse (h.same rfl rfl rfl rfl)) fun _ => h.same rfl rfl rfl rfl

theorem dropShutter {bk : Back} (h : Quiet s t) : Quiet s (dropShutter bk t) := ite (fun _ => h.setShutter) fun _ => h

theorem endExposureOf {bk : Back} (h : Quiet s t) : Quiet s (endExposureOf bk t) := ite (fun _ => h.endPulse) fun _ => h

theorem doorState {bk : Back} (h : Quiet s t) : Quiet s (doorState bk t) := ite (fun _ => h.jamBack) fun _ => h.enterBack

theorem endWind {bk : Back} {k : Nat} (h : Quiet s t) : Quiet s (endWind bk k t) :=
  h.stopMotor.setGateFrame.enterReadyBack

theorem windPerforation {bk : Back} {a b c : Nat} (h : Quiet s t) : Quiet s (windPerforation bk a b c t) :=
  ite (fun _ => ite (fun _ => h.setMotor.endWind.frameLoop) fun _ => h.setMotor.endWind) fun _ => h.setMotor

theorem perforate {bk : Back} (h : Quiet s t) : Quiet s (perforate bk t) :=
  ite (fun _ => ite (fun _ => h.setLevels.windPerforation) fun _ =>
    ite (fun _ => h.setLevels.windPerforation) fun _ => h.setLevels) fun _ => h.setLevels

theorem stallLoading {bk : Back} (h : Quiet s t) : Quiet s (stallLoading bk t) := h.setGateFrame.jamBack

theorem endTransmission (h : Quiet s t) : Quiet s (endTransmission t) := by
  unfold Machine.endTransmission
  split
  · exact h
  · exact setLine (ite (fun _ => h.same rfl rfl rfl rfl) fun _ => h)

theorem losePrinter (h : Quiet s t) : Quiet s (losePrinter t) := h.enterInquiring.raise

theorem resendHead (h : Quiet s t) : Quiet s (resendHead t) := by
  unfold Machine.resendHead
  split
  · exact h
  · exact sendMessage (h.same rfl rfl rfl rfl)

end Quiet

end Sys2Proof.Proofs
end

section
/-! SUPPORT. The laws of memory form, hands and commitments as one family, and the primitive changes of orders, hands, work and
amounts that keep them. -/

namespace Sys2Proof.Proofs

open Sys2Proof Sys2Proof.Machine Sys2Proof.Safety Sys2Proof.Laws

variable {s t : State} {n m : Slot}

/-! ### The run list -/

theorem findOrder_some {e : OrderEntry} (h : findOrder s n = some e) : e ∈ s.orders.runList ∧ e.slot = n :=
  ⟨List.mem_of_find?_eq_some h, by simpa using List.find?_some h⟩

/-- One order of a slot at most. -/
theorem entry_unique (h : HandsLaw s) {e f : OrderEntry} (he : e ∈ s.orders.runList) (hf : f ∈ s.orders.runList)
    (hs : e.slot = f.slot) : e = f :=
  List.inj_on_of_nodup_map h.runsOnce he hf hs

theorem running_iff : Running s n ↔ n ∈ s.orders.runList.map OrderEntry.slot := by
  simp only [Running, List.mem_map]

/-- The slots of the run list, from the keys of its entries. -/
theorem slots_of_keys (l : List OrderEntry) : l.map OrderEntry.slot = (l.map entryKey).map Prod.fst := by
  rw [List.map_map]
  rfl

/-- The work at the gate, if any, belongs to another slot. -/
def OffGate (s : State) (n : Slot) : Prop := ∀ r, s.gate.shot = some r → r.slot ≠ n

theorem offGate_of_idle (h : s.gate.shot = none) : OffGate s n := fun r hr => by simp [h] at hr

theorem OffGate.same (h : OffGate s n) (hg : t.gate.shot = s.gate.shot) : OffGate t n := fun r hr => h r (hg ▸ hr)

theorem OffGate.quiet (h : OffGate s n) (q : Quiet s t) : OffGate t n := by
  intro r hr
  have hw := q.work
  rw [hr] at hw
  obtain ⟨r', hr', hk⟩ := Option.map_eq_some_iff.mp hw.symm
  have hs : r'.slot = r.slot := congrArg Prod.fst hk
  exact hs ▸ h r' hr'

/-- The work at the gate belongs to no order that the gate's order cannot be. -/
theorem offGate_of_entry (h : HandsLaw s) {e : OrderEntry} (he : e ∈ s.orders.runList)
    (hn : e.sub ≠ .atGate ∨ e.kind = .rewind ∨ e.kind ≠ .copy ∧ e.started = false) : OffGate s e.slot := by
  intro r hr hs
  obtain ⟨f, hfs, hsub, hkind, hf⟩ := h.gate r hr
  obtain rfl : f = e := entry_unique h hf he (hfs.trans hs)
  rcases hn with hn | hn | ⟨hn, hst⟩
  · exact hn hsub
  · rcases hkind with ⟨-, hk⟩ | ⟨-, hk, -⟩ <;> simp [hn] at hk
  · rcases hkind with ⟨-, hk⟩ | ⟨-, -, hk⟩
    · exact hn hk
    · simp [hst] at hk

/-! ### The law of hands under the primitive changes -/

/-- The law reads only the orders and the work at the gate. -/
theorem hands_same (h : HandsLaw s) (ho : t.orders = s.orders) (hg : t.gate.shot = s.gate.shot) : HandsLaw t where
  intake n := by unfold recordedHand; rw [ho]; exact h.intake n
  runs n := by unfold Running recordedHand; rw [ho]; exact h.runs n
  intakeOnce := by rw [ho]; exact h.intakeOnce
  runsOnce := by rw [ho]; exact h.runsOnce
  gate r hr := by
    obtain ⟨e, he⟩ := h.gate r (hg ▸ hr)
    exact ⟨e, by unfold AtGate; rw [ho]; exact he⟩

theorem hands_quiet (h : HandsLaw s) (q : Quiet s t) : HandsLaw t where
  intake n := by unfold recordedHand; rw [q.intake, q.recorded]; exact h.intake n
  runs n := by
    rw [running_iff, slots_of_keys, q.entries, ← slots_of_keys, ← running_iff]
    unfold recordedHand
    rw [q.recorded]
    exact h.runs n
  intakeOnce := by rw [q.intake]; exact h.intakeOnce
  runsOnce := by rw [slots_of_keys, q.entries, ← slots_of_keys]; exact h.runsOnce
  gate r hr := by
    have hw := q.work
    rw [hr] at hw
    obtain ⟨r', hr', hk⟩ := Option.map_eq_some_iff.mp hw.symm
    simp only [workKey, Prod.mk.injEq] at hk
    obtain ⟨e, hes, hsub, hkind, he⟩ := h.gate r' hr'
    have hmem : entryKey e ∈ t.orders.runList.map entryKey := q.entries ▸ List.mem_map_of_mem he
    obtain ⟨f, hf, hfe⟩ := List.mem_map.mp hmem
    simp only [entryKey, Prod.mk.injEq] at hfe
    refine ⟨f, ?_, ?_, ?_, hf⟩
    · rw [hfe.1, hes, hk.1]
    · rw [hfe.2.2.1, hsub]
    · rw [hfe.2.1, hfe.2.2.2, ← hk.2]
      exact hkind

theorem hands_setShot (h : HandsLaw s) {r : ShotRecord} (hr : ∃ e, AtGate s r e) : HandsLaw (setShot r s) where
  intake := h.intake
  runs := h.runs
  intakeOnce := h.intakeOnce
  runsOnce := h.runsOnce
  gate x hx := by
    obtain rfl : r = x := Option.some.inj hx
    exact hr

theorem mem_updateOrder {f : OrderEntry → OrderEntry} {e : OrderEntry} (he : e ∈ s.orders.runList) :
    (if e.slot = n then f e else e) ∈ (updateOrder n f s).orders.runList :=
  List.mem_map_of_mem (f := fun e => if e.slot = n then f e else e) he

theorem mem_updateOrder_other {f : OrderEntry → OrderEntry} {e : OrderEntry} (he : e ∈ s.orders.runList) (hn : e.slot ≠ n) :
    e ∈ (updateOrder n f s).orders.runList := by
  simpa [hn] using mem_updateOrder (n := n) (f := f) he

theorem slots_updateOrder {f : OrderEntry → OrderEntry} (hf : ∀ e, (f e).slot = e.slot) :
    (updateOrder n f s).orders.runList.map OrderEntry.slot = s.orders.runList.map OrderEntry.slot := by
  simp only [updateOrder, setRunList_runList, List.map_map]
  refine List.map_congr_left fun e _ => ?_
  dsimp only [Function.comp_apply]
  split
  · exact hf e
  · rfl

theorem hands_updateOrder (h : HandsLaw s) {f : OrderEntry → OrderEntry} (hf : ∀ e, (f e).slot = e.slot)
    (hg : OffGate s n) : HandsLaw (updateOrder n f s) where
  intake := h.intake
  runs m := by
    rw [running_iff, slots_updateOrder hf, ← running_iff]
    exact h.runs m
  intakeOnce := h.intakeOnce
  runsOnce := by rw [slots_updateOrder hf]; exact h.runsOnce
  gate r hr := by
    obtain ⟨e, hes, hsub, hkind, he⟩ := h.gate r hr
    exact ⟨e, hes, hsub, hkind, mem_updateOrder_other he (hes ▸ hg r hr)⟩

theorem finishOrder_gate (n : Slot) (o : OrderState) (s : State) : (finishOrder n o s).gate = s.gate := by
  unfold finishOrder
  dsimp only
  rw [refreshWanted_only_mem]
  simp [writeHand]

theorem recordedHand_set (h : SlotHand) (v : Vector SlotHand 16) (m : Slot) :
    (v.set n.val h n.isLt)[m.val] = if m = n then h else v[m.val] := by
  rw [Vector.getElem_set]
  by_cases hm : m = n
  · simp [hm]
  · rw [if_neg fun e => hm (Fin.ext e.symm), if_neg hm]

theorem recordedHand_finishOrder (n m : Slot) (o : OrderState) (s : State) :
    recordedHand (finishOrder n o s) m = if m = n then .done else recordedHand s m := by
  unfold recordedHand
  rw [finishOrder_orders]
  exact recordedHand_set _ _ _

theorem hands_finishOrder (h : HandsLaw s) {o : OrderState} (hr : Running s n) (hg : OffGate s n) :
    HandsLaw (finishOrder n o s) where
  intake m := by
    rw [recordedHand_finishOrder, finishOrder_orders]
    dsimp only
    rw [h.intake m]
    split
    · next hm =>
      have := (h.runs n).mp hr
      rw [hm]
      aesop
    · rfl
  runs m := by
    unfold Running
    rw [recordedHand_finishOrder, finishOrder_orders]
    dsimp only
    simp only [List.mem_filter, decide_eq_true_eq]
    have hm := h.runs m
    unfold Running at hm
    split
    · next he => subst he; simp
    · next hne =>
      rw [← hm]
      constructor
      · rintro ⟨e, ⟨he, -⟩, rfl⟩
        exact ⟨e, he, rfl⟩
      · rintro ⟨e, he, rfl⟩
        exact ⟨e, ⟨he, hne⟩, rfl⟩
  intakeOnce := by rw [finishOrder_orders]; exact h.intakeOnce
  runsOnce := by
    rw [finishOrder_orders]
    exact h.runsOnce.sublist (List.filter_sublist.map _)
  gate r hr' := by
    rw [finishOrder_gate] at hr'
    obtain ⟨e, hes, hsub, hkind, he⟩ := h.gate r hr'
    refine ⟨e, hes, hsub, hkind, ?_⟩
    rw [finishOrder_orders]
    exact List.mem_filter.mpr ⟨he, by simpa [hes] using hg r hr'⟩

/-! ### Reading amounts -/

theorem byteAt_lt (s : State) (a : Nat) : byteAt s a < 256 := (Memory.read s.mem a).isLt

theorem longAt_lt (s : State) (a : Nat) : longAt s a < 16777216 := by
  have h0 := byteAt_lt s a
  have h1 := byteAt_lt s (a + 1)
  have h2 := byteAt_lt s (a + 2)
  unfold longAt wordAt
  omega

/-- A 24-bit field outside the one written. -/
theorem longAt_setLong_other {a b x : Nat} (hb : b + 4 ≤ a ∨ a + 4 ≤ b) : longAt (setLong a x s) b = longAt s b :=
  have k : Keeps (fun c => b ≤ c ∧ c < b + 4) s (setLong a x s) := (Keeps.refl s).setLong fun c _ _ => by omega
  k.longAt (by omega) (by omega) (by omega)

theorem byteAt_setLong_apart {a b x : Nat} (hb : b < a ∨ a + 4 ≤ b) : byteAt (setLong a x s) b = byteAt s b :=
  have k : Keeps (fun c => c = b) s (setLong a x s) := (Keeps.refl s).setLong fun c _ _ => by omega
  k.byteAt rfl

theorem accountIndex_lt (s : State) (n : Slot) : accountIndex s n < 256 := byteAt_lt _ _

theorem remaining_lt (s : State) (n : Slot) : remaining s n < 16777216 := longAt_lt _ _

theorem committed_lt (s : State) (i : Nat) : committed s i < 16777216 := longAt_lt _ _

theorem remaining_setRemaining (h : MemoryOk s) {x : Nat} (hx : x < 16777216) :
    remaining (setRemaining n x s) m = if m = n then x else remaining s m := by
  have hn := n.isLt
  have hm := m.isLt
  unfold remaining setRemaining
  split
  · next e =>
    subst e
    exact longAt_setLong_same h (by rw [outcome_eq]; unfold Config.memorySize; omega) hx
  · next e =>
    have : m.val ≠ n.val := fun c => e (Fin.ext c)
    exact longAt_setLong_other (by rw [outcome_eq, outcome_eq]; omega)

theorem accountIndex_setRemaining {x : Nat} : accountIndex (setRemaining n x s) m = accountIndex s m := by
  have hn := n.isLt
  have hm := m.isLt
  exact byteAt_setLong_apart (by rw [outcome_eq, slotBase_eq]; omega)

theorem committed_setRemaining {i x : Nat} : committed (setRemaining n x s) i = committed s i := by
  have hn := n.isLt
  exact longAt_setLong_other (by rw [outcome_eq, accountBase_eq]; omega)

theorem remaining_setCommitted {i x : Nat} : remaining (setCommitted i x s) n = remaining s n := by
  have hn := n.isLt
  exact longAt_setLong_other (by rw [outcome_eq, accountBase_eq]; omega)

theorem accountIndex_setCommitted {i x : Nat} : accountIndex (setCommitted i x s) n = accountIndex s n := by
  have hn := n.isLt
  exact byteAt_setLong_apart (by rw [accountBase_eq, slotBase_eq]; omega)

theorem committed_setCommitted (h : MemoryOk s) {i j x : Nat} (hi : i < 256) (hx : x < 16777216) :
    committed (setCommitted i x s) j = if j = i then x else committed s j := by
  unfold committed setCommitted
  split
  · next e =>
    subst e
    exact longAt_setLong_same h (by rw [accountBase_eq]; unfold Config.memorySize; omega) hx
  · exact longAt_setLong_other (by rw [accountBase_eq, accountBase_eq]; omega)

/-! ### Lowering a commitment -/

theorem remaining_lowerCommitment (h : MemoryOk s) (x : Nat) :
    remaining (lowerCommitment n x s) m = if m = n then remaining s n - min x (remaining s n) else remaining s m := by
  have := remaining_lt s n
  unfold lowerCommitment
  rw [remaining_setCommitted, remaining_setRemaining h (by omega)]

theorem accountIndex_lowerCommitment (x : Nat) : accountIndex (lowerCommitment n x s) m = accountIndex s m := by
  unfold lowerCommitment
  rw [accountIndex_setCommitted, accountIndex_setRemaining]

theorem committed_lowerCommitment (h : MemoryOk s) (x i : Nat) :
    committed (lowerCommitment n x s) i
      = if i = accountIndex s n then committed s i - min x (remaining s n) else committed s i := by
  have := accountIndex_lt s n
  have := committed_lt s (accountIndex s n)
  unfold lowerCommitment
  dsimp only
  rw [accountIndex_setRemaining, committed_setRemaining,
    committed_setCommitted (s := setRemaining n _ s) (memoryOk_setLong h) ‹accountIndex s n < 256› (by omega),
    committed_setRemaining]
  split
  · next e => rw [e]
  · rfl

/-! ### Sums of commitments -/

/-- The amounts of a list of slots that are charged to an account. -/
def due (account amount : Slot → Nat) (i : Nat) (l : List Slot) : Nat :=
  (l.map fun n => if account n = i then amount n else 0).sum

theorem due_cons (account amount : Slot → Nat) (i : Nat) (n : Slot) (l : List Slot) :
    due account amount i (n :: l) = (if account n = i then amount n else 0) + due account amount i l := by
  simp [due]

theorem commitments_eq (s : State) (i : Account) :
    commitments s i = due (accountIndex s) (remaining s) i.val (s.orders.runList.map OrderEntry.slot) := by
  unfold commitments
  induction s.orders.runList with
  | nil => rfl
  | cons e l ih =>
    rw [List.map_cons, due_cons, List.filter_cons]
    by_cases he : accountIndex s e.slot = i.val <;> simp [he, ih]

theorem due_congr {account amount account' amount' : Slot → Nat} {i : Nat} {l : List Slot}
    (h : ∀ n ∈ l, account' n = account n ∧ amount' n = amount n) :
    due account' amount' i l = due account amount i l := by
  unfold due
  rw [List.map_congr_left fun n hn => by rw [(h n hn).1, (h n hn).2]]

theorem due_perm {account amount : Slot → Nat} {i : Nat} {l l' : List Slot} (h : l.Perm l') :
    due account amount i l = due account amount i l' := (h.map _).sum_eq

/-- A slot without an amount can leave the list. -/
theorem due_drop {account amount : Slot → Nat} {i : Nat} {n : Slot} (l : List Slot) (h : amount n = 0) :
    due account amount i (l.filter fun m => decide (m ≠ n)) = due account amount i l := by
  induction l with
  | nil => rfl
  | cons m l ih =>
    rw [due_cons, List.filter_cons]
    by_cases hm : m = n
    · rw [if_neg (by simp [hm]), ih, hm, h]
      simp
    · simp only [ne_eq, hm, not_false_eq_true, decide_true, if_true]
      rw [due_cons, ih]

/-- One slot's amount is part of the sum. -/
theorem le_due {account amount : Slot → Nat} {n : Slot} {l : List Slot} (h : n ∈ l) :
    amount n ≤ due account amount (account n) l :=
  List.le_sum_of_mem (List.mem_map.mpr ⟨n, h, if_pos rfl⟩)

/-- The sum follows a change of one slot's amount. -/
theorem due_change {account amount amount' : Slot → Nat} {i : Nat} {n : Slot} {l : List Slot} (hl : l.Nodup) (hn : n ∈ l)
    (h : ∀ m, m ≠ n → amount' m = amount m) :
    due account amount' i l + (if account n = i then amount n else 0)
      = due account amount i l + (if account n = i then amount' n else 0) := by
  induction l with
  | nil => simp at hn
  | cons m l ih =>
    obtain ⟨hm, hl⟩ := List.nodup_cons.mp hl
    rw [due_cons, due_cons]
    by_cases e : m = n
    · subst e
      have : due account amount' i l = due account amount i l :=
        due_congr fun x hx => ⟨rfl, h x fun c => hm (c ▸ hx)⟩
      omega
    · have := ih hl ((List.mem_cons.mp hn).resolve_left fun c => e c.symm)
      rw [h m e]
      omega

/-! ### The law of commitments under the primitive changes -/

/-- The slots and kinds of the run list. -/
def orderKinds (s : State) : List (Slot × OrderKind) := s.orders.runList.map fun e => (e.slot, e.kind)

theorem slots_of_kinds (s : State) : s.orders.runList.map OrderEntry.slot = (orderKinds s).map Prod.fst := by
  unfold orderKinds
  rw [List.map_map]
  rfl

theorem accountIndex_keeps (h : Keeps Amount s t) (n : Slot) : accountIndex t n = accountIndex s n :=
  h.byteAt amount_account

theorem remaining_keeps (h : Keeps Amount s t) (n : Slot) : remaining t n = remaining s n :=
  h.longAt (amount_remaining (j := 0) (by decide)) (amount_remaining (by decide)) (amount_remaining (by decide))

theorem committed_keeps (h : Keeps Amount s t) (i : Account) : committed t i.val = committed s i.val :=
  h.longAt (amount_committed (j := 0) (by decide)) (amount_committed (by decide)) (amount_committed (by decide))

/-- The law reads only the amounts and the slots and kinds of the run list. -/
theorem agree_keeps (h : CommitmentsAgree s) (hb : Keeps Amount s t) (hk : orderKinds t = orderKinds s) :
    CommitmentsAgree t where
  accounts e he hc := by
    have hmem : (e.slot, e.kind) ∈ orderKinds s := hk ▸ List.mem_map_of_mem (f := fun e => (e.slot, e.kind)) he
    obtain ⟨f, hf, hfe⟩ := List.mem_map.mp hmem
    simp only [Prod.mk.injEq] at hfe
    rw [accountIndex_keeps hb, ← hfe.1]
    exact h.accounts f hf (hfe.2.trans hc)
  settled n hn := by
    rw [remaining_keeps hb]
    refine h.settled n fun e he hs hc => ?_
    have hmem : (e.slot, e.kind) ∈ orderKinds t := hk ▸ List.mem_map_of_mem (f := fun e => (e.slot, e.kind)) he
    obtain ⟨f, hf, hfe⟩ := List.mem_map.mp hmem
    simp only [Prod.mk.injEq] at hfe
    exact hn f hf (hfe.1.trans hs) (hfe.2.trans hc)
  sums i := by
    rw [committed_keeps hb, h.sums i, commitments_eq, commitments_eq, slots_of_kinds, slots_of_kinds, hk]
    exact due_congr fun n _ => ⟨(accountIndex_keeps hb n).symm, (remaining_keeps hb n).symm⟩

theorem orderKinds_quiet (q : Quiet s t) : orderKinds t = orderKinds s := by
  have h : ∀ u : State, orderKinds u = (u.orders.runList.map entryKey).map fun k => (k.1, k.2.1) := fun u => by
    rw [List.map_map]
    rfl
  rw [h, h, q.entries]

theorem orderKinds_updateOrder {f : OrderEntry → OrderEntry} (hs : ∀ e, (f e).slot = e.slot) (hk : ∀ e, (f e).kind = e.kind) :
    orderKinds (updateOrder n f s) = orderKinds s := by
  simp only [orderKinds, updateOrder, setRunList_runList, List.map_map]
  refine List.map_congr_left fun e _ => ?_
  dsimp only [Function.comp_apply]
  split
  · rw [hs, hk]
  · rfl

/-- A slot whose order, if any, is no COPY order has no commitment left. -/
theorem remaining_eq_zero (h : HandsLaw s) (ha : CommitmentsAgree s) {e : OrderEntry} (he : e ∈ s.orders.runList)
    (hk : e.kind ≠ .copy) : remaining s e.slot = 0 :=
  ha.settled e.slot fun _ hf hs hc => hk (entry_unique h hf he hs ▸ hc)

/-- Lowering an order's commitment lowers its account's committed by as much; a slot without a COPY order has nothing to lower
(R178, R179). -/
theorem agree_lowerCommitment (m : MemoryOk s) (h : HandsLaw s) (ha : CommitmentsAgree s) (x : Nat) :
    CommitmentsAgree (lowerCommitment n x s) := by
  have ho : (lowerCommitment n x s).orders = s.orders := by rw [lowerCommitment_only_mem]
  refine ⟨?_, ?_, ?_⟩
  · intro e he hc
    rw [ho] at he
    rw [accountIndex_lowerCommitment]
    exact ha.accounts e he hc
  · intro k hk
    rw [ho] at hk
    rw [remaining_lowerCommitment m]
    have hz := ha.settled k hk
    split
    · next e => rw [← e, hz, Nat.zero_sub]
    · exact hz
  · intro i
    rw [commitments_eq, ho, committed_lowerCommitment m, ha.sums i, commitments_eq,
      due_congr (account := accountIndex s) (account' := accountIndex (lowerCommitment n x s))
        (amount := remaining (lowerCommitment n x s)) fun k _ => ⟨accountIndex_lowerCommitment x, rfl⟩]
    by_cases hn : n ∈ s.orders.runList.map OrderEntry.slot
    · have hc := due_change (account := accountIndex s) (amount := remaining s)
        (amount' := remaining (lowerCommitment n x s)) (i := i.val) h.runsOnce hn fun k hk => by
          rw [remaining_lowerCommitment m, if_neg hk]
      rw [remaining_lowerCommitment m, if_pos rfl] at hc
      by_cases hi : i.val = accountIndex s n
      · have hle := le_due (account := accountIndex s) (amount := remaining s) hn
        rw [← hi] at hle
        rw [if_pos hi]
        rw [if_pos hi.symm, if_pos hi.symm] at hc
        omega
      · rw [if_neg hi]
        rw [if_neg fun c => hi c.symm, if_neg fun c => hi c.symm] at hc
        omega
    · have hz : remaining s n = 0 := ha.settled n fun e he hs _ => hn (List.mem_map.mpr ⟨e, he, hs⟩)
      have hd := due_congr (account := accountIndex s) (account' := accountIndex s) (amount := remaining s)
        (amount' := remaining (lowerCommitment n x s)) (i := i.val) (l := s.orders.runList.map OrderEntry.slot) fun k _ =>
          ⟨rfl, by rw [remaining_lowerCommitment m]; split
                   · next e => rw [e, hz, Nat.zero_sub]
                   · rfl⟩
      rw [hd, hz]
      split <;> simp

theorem keeps_finishOrder (n : Slot) (o : OrderState) (s : State) : Keeps Amount s (finishOrder n o s) := by
  have hb : Keeps Amount s (writeHand n .done (setByte (outcome n + 0x01) 0 (setByte (outcome n) o.code s))) :=
    (((Keeps.refl s).setByte spare_orderState).setByte (spare_outcome (.inl (by decide)))).writeHand spare_slotHand
  exact hb.setRunList.raise.trans (Quiet.refl _).refreshWanted.amounts

/-- An order with nothing left of its commitment leaves the run list. -/
theorem agree_finishOrder (ha : CommitmentsAgree s) {o : OrderState} (hz : remaining s n = 0) :
    CommitmentsAgree (finishOrder n o s) := by
  have hb := keeps_finishOrder n o s
  have hl : (finishOrder n o s).orders.runList = s.orders.runList.filter fun e => decide (e.slot ≠ n) := by
    rw [finishOrder_orders]
  refine ⟨?_, ?_, ?_⟩
  · intro e he hc
    rw [hl] at he
    rw [accountIndex_keeps hb]
    exact ha.accounts e (List.mem_of_mem_filter he) hc
  · intro k hk
    rw [remaining_keeps hb]
    by_cases hkn : k = n
    · rw [hkn, hz]
    · refine ha.settled k fun e he hs => hk e ?_ hs
      rw [hl]
      exact List.mem_filter.mpr ⟨he, by simpa [hs] using hkn⟩
  · intro i
    have hd : (s.orders.runList.filter fun e => decide (e.slot ≠ n)).map OrderEntry.slot
        = (s.orders.runList.map OrderEntry.slot).filter fun m => decide (m ≠ n) := by
      rw [List.filter_map]
      rfl
    rw [committed_keeps hb, ha.sums i, commitments_eq, commitments_eq, hl, hd,
      due_congr fun k _ => ⟨accountIndex_keeps hb k, remaining_keeps hb k⟩, due_drop _ hz]

/-! ### The three laws as one family -/

/-- The three laws that every step is shown to keep here. -/
inductive Law where
  | form
  | hands
  | commitments

/-- The state meets a law: the canonical form of common memory, the law of hands, or the law of commitments. -/
def Meets : Law → State → Prop
  | .form, s => MemoryOk s
  | .hands, s => HandsLaw s
  | .commitments, s => CommitmentLaw s

variable {l : Law}

theorem Meets.hands (h : Meets l s) (hl : l ≠ .form) : HandsLaw s := by
  cases l with
  | form => exact absurd rfl hl
  | hands => exact h
  | commitments => exact CommitmentLaw.hands h

/-- A change keeps a law when it keeps what the law is made of. -/
theorem Meets.step (h : Meets l s) (hm : MemoryOk s → MemoryOk t) (hh : l ≠ .form → HandsLaw s → HandsLaw t)
    (hl : isLive t = isLive s)
    (ha : l = .commitments → MemoryOk s → HandsLaw s → isLive s = true → CommitmentsAgree s → CommitmentsAgree t) :
    Meets l t := by
  cases l with
  | form => exact hm h
  | hands => exact hh (by simp) h
  | commitments =>
    obtain ⟨m, hands, agree⟩ := h
    exact ⟨hm m, hh (by simp) hands, fun lt => ha rfl m hands (hl ▸ lt) (agree (hl ▸ lt))⟩

/-- A quiet change keeps every law. -/
theorem Meets.quiet (h : Meets l s) (q : Quiet s t) : Meets l t :=
  h.step q.memory (fun _ hs => hands_quiet hs q) q.live fun _ _ _ _ ha => agree_keeps ha q.amounts (orderKinds_quiet q)

/-! ### The primitive changes keep the laws -/

theorem Meets.ite {c : Prop} [Decidable c] {a b : State} (h : c → Meets l a) (k : ¬ c → Meets l b) :
    Meets l (if c then a else b) := by
  split
  · exact h ‹_›
  · exact k ‹_›

theorem Meets.lowerCommitment {x : Nat} (h : Meets l s) : Meets l (lowerCommitment n x s) := by
  have ho := lowerCommitment_only_mem n x s
  refine h.step memoryOk_lowerCommitment (fun _ hs => hands_same hs (by rw [ho]) (by rw [ho])) ?_
    fun _ m hs _ ha => agree_lowerCommitment m hs ha x
  unfold isLive
  rw [ho]

theorem Meets.release {x : Nat} (h : Meets l s) : Meets l (release n x s) := h.lowerCommitment

theorem Meets.charge {x : Nat} (h : Meets l s) : Meets l (charge n x s) :=
  Meets.quiet (Meets.lowerCommitment (h.quiet (Quiet.refl s).setCharged)) (Quiet.refl _).raiseSpent

theorem Meets.chargeFrame {x : Nat} (h : Meets l s) : Meets l (chargeFrame n x s) :=
  h.charge.quiet (Quiet.refl _).raiseFrames

/-- The gate becomes idle. -/
theorem Meets.clearGate (h : Meets l s) : Meets l (clearGate s) :=
  h.step id (fun _ hs =>
    { intake := hs.intake, runs := hs.runs, intakeOnce := hs.intakeOnce, runsOnce := hs.runsOnce
      gate := fun _ hr => nomatch hr }) rfl fun _ _ _ _ ha => agree_keeps ha (.refl s) rfl

/-- New work takes the gate. -/
theorem Meets.setShot {r : ShotRecord} (h : Meets l s) (hr : l ≠ .form → ∃ e, AtGate s r e) : Meets l (setShot r s) :=
  h.step id (fun hl hs => hands_setShot hs (hr hl)) rfl fun _ _ _ _ ha => agree_keeps ha (.refl s) rfl

/-- A change of the progress of an order that is not at the gate. -/
theorem Meets.updateOrder {f : OrderEntry → OrderEntry} (h : Meets l s) (hs : ∀ e, (f e).slot = e.slot)
    (hk : ∀ e, (f e).kind = e.kind) (hg : l ≠ .form → OffGate s n) : Meets l (updateOrder n f s) :=
  h.step id (fun hl hands => hands_updateOrder hands hs (hg hl)) rfl
    fun _ _ _ _ ha => agree_keeps ha (.refl s) (orderKinds_updateOrder hs hk)

theorem Meets.setSub {sub : SubState} (h : Meets l s) (hg : l ≠ .form → OffGate s n) : Meets l (setSub n sub s) :=
  (h.updateOrder (f := fun e => { e with sub := sub }) (fun _ => rfl) (fun _ => rfl) hg).quiet
    ((Quiet.refl _).setByte (spare_outcome (j := 1) (.inl (by decide))))

theorem finishOrder_live (n : Slot) (o : OrderState) (s : State) : isLive (finishOrder n o s) = isLive s := by
  unfold finishOrder isLive
  dsimp only
  rw [refreshWanted_only_mem]
  simp [writeHand]

/-- An order that is not at the gate and has nothing left of its commitment ends. -/
theorem Meets.finishOrder {o : OrderState} (h : Meets l s) (hr : l ≠ .form → Running s n ∧ OffGate s n)
    (hz : l = .commitments → MemoryOk s → HandsLaw s → CommitmentsAgree s → remaining s n = 0) :
    Meets l (finishOrder n o s) :=
  h.step memoryOk_finishOrder (fun hl hs => hands_finishOrder hs (hr hl).1 (hr hl).2) (finishOrder_live n o s)
    fun hl m hs _ ha => agree_finishOrder ha (hz hl m hs ha)

/-- A stand task that is not at the gate ends. -/
theorem Meets.finishTask {o : OrderState} {e : OrderEntry} (h : Meets l s) (hk : e.kind ≠ .copy)
    (he : l ≠ .form → e ∈ s.orders.runList ∧ OffGate s e.slot) : Meets l (Machine.finishOrder e.slot o s) :=
  h.finishOrder (fun hl => ⟨⟨e, (he hl).1, rfl⟩, (he hl).2⟩)
    fun hl _ hs ha => remaining_eq_zero hs ha (he (by simp [hl])).1 hk

end Sys2Proof.Proofs
end

section
/-! SUPPORT. Every shared operation keeps the laws of memory form, hands and commitments. -/

namespace Sys2Proof.Proofs

open Sys2Proof Sys2Proof.Machine Sys2Proof.Safety Sys2Proof.Laws

variable {s t : State} {n m : Slot} {l : Law}

/-- An invariant of every step of a fold holds at its end. -/
theorem foldl_keeps {α : Type} {I : State → Prop} {f : State → α → State} {xs : List α}
    (hf : ∀ t, ∀ x ∈ xs, I t → I (f t x)) (h : I s) : I (xs.foldl f s) := by
  induction xs generalizing s with
  | nil => exact h
  | cons x xs ih => exact ih (fun t y hy => hf t y (.tail _ hy)) (hf s x (.head _) h)

theorem foldl_gate {α : Type} {f : State → α → State} (hf : ∀ t x, (f t x).gate = t.gate) (xs : List α) (s : State) :
    (xs.foldl f s).gate = s.gate :=
  foldl_keeps (I := fun t => t.gate = s.gate) (fun t x _ h => (hf t x).trans h) rfl

/-! ### The end of an order -/

theorem settleSurcharge_only_mem (e : OrderEntry) (s : State) :
    settleSurcharge e s = { s with mem := (settleSurcharge e s).mem } := by
  unfold settleSurcharge
  split
  · split
    · exact charge_only_mem _ _ _
    · exact release_only_mem _ _ _
  · rfl

theorem Meets.settleSurcharge {e : OrderEntry} (h : Meets l s) : Meets l (settleSurcharge e s) :=
  ite (fun _ => ite (fun _ => h.charge) fun _ => h.release) fun _ => h

theorem remaining_release_all (h : MemoryOk s) : remaining (release n (remaining s n) s) n = 0 := by
  unfold release
  rw [remaining_lowerCommitment h, if_pos rfl]
  omega

/-- A COPY order that is not at the gate completes. -/
theorem Meets.completeCopy (h : Meets l s) (hg : l ≠ .form → OffGate s n) : Meets l (completeCopy n s) := by
  unfold Machine.completeCopy
  split
  · exact h
  · next e he =>
    obtain ⟨hmem, hslot⟩ := findOrder_some he
    have paid : Meets l (Machine.settleSurcharge e s) := h.settleSurcharge
    refine (paid.release).finishOrder (fun hl => ⟨⟨e, ?_, hslot⟩, (hg hl).same ?_⟩) fun hl _ _ _ => ?_
    · rw [release_only_mem, settleSurcharge_only_mem]
      exact hmem
    · rw [release_only_mem, settleSurcharge_only_mem]
    · subst hl
      exact remaining_release_all (CommitmentLaw.memory paid)

theorem setSub_gate (n : Slot) (sub : SubState) (s : State) : (setSub n sub s).gate = s.gate := by
  unfold setSub updateOrder
  rw [setByte_gate, setRunList_gate]

theorem refreshWanted_gate (s : State) : (refreshWanted s).gate = s.gate := by rw [refreshWanted_only_mem]

theorem completeCopy_gate (n : Slot) (s : State) : (completeCopy n s).gate = s.gate := by
  unfold completeCopy
  split
  · rfl
  · dsimp only
    rw [finishOrder_gate, release_only_mem, settleSurcharge_only_mem]

theorem afterShot_gate (n : Slot) (s : State) : (afterShot n s).gate = s.gate := by
  unfold afterShot
  split
  · rfl
  · split
    · rw [refreshWanted_gate, setSub_gate]
    · split
      · rw [refreshWanted_gate, setSub_gate]
      · exact completeCopy_gate n s

/-- An order that is not at the gate goes on after a shot. -/
theorem Meets.afterShot (h : Meets l s) (hg : l ≠ .form → OffGate s n) : Meets l (afterShot n s) := by
  unfold Machine.afterShot
  split
  · exact h
  · exact ite (fun _ => (h.setSub hg).quiet (Quiet.refl _).refreshWanted) fun _ =>
      ite (fun _ => (h.setSub hg).quiet (Quiet.refl _).refreshWanted) fun _ => h.completeCopy hg

theorem Meets.labelSettled (h : Meets l s) : Meets l (labelSettled n s) := by
  unfold Machine.labelSettled
  have lowered : Meets l (Machine.updateOrder n (fun e => { e with outstanding := e.outstanding - 1 }) s) :=
    h.quiet ((Quiet.refl s).updateOrder fun _ => rfl)
  dsimp only
  split
  · exact lowered
  · next e he =>
    obtain ⟨hmem, rfl⟩ := findOrder_some he
    exact ite (fun hf => lowered.completeCopy fun hl =>
      offGate_of_entry (lowered.hands hl) hmem (.inl (by simp [hf.1]))) fun _ => lowered

theorem rewindTask_some {bk : Back} {e : OrderEntry} (h : rewindTask s bk = some e) :
    e ∈ s.orders.runList ∧ e.kind = .rewind ∧ e.started = true := by
  refine ⟨List.mem_of_find?_eq_some h, ?_⟩
  have := List.find?_some h
  simp only [Bool.and_eq_true, decide_eq_true_eq] at this
  exact ⟨this.1.1, this.1.2⟩

theorem Meets.endRewindTask {bk : Back} {o : OrderState} (h : Meets l s) : Meets l (endRewindTask bk o s) := by
  unfold Machine.endRewindTask
  split
  · next e he =>
    obtain ⟨hmem, hk, -⟩ := rewindTask_some he
    exact h.finishTask (by simp [hk]) fun hl => ⟨hmem, offGate_of_entry (h.hands hl) hmem (.inr (.inl hk))⟩
  · exact h

/-! ### Shots that end without a frame, and waiting orders -/

theorem writeBareOutcome_only_mem (n : Slot) (i : Nat) (c : ShotCode) (s : State) :
    writeBareOutcome n i c s = { s with mem := (writeBareOutcome n i c s).mem } :=
  only_mem_trans (only_mem_trans (t := zeroBytes (shotOutcome n i) (shotOutcome n i + 0x10) s) rfl (setByte_only_mem _ _ _))
    (setByte_only_mem _ _ _)

theorem endBareShot_only_mem (n : Slot) (i : Nat) (c : ShotCode) (s : State) :
    endBareShot n i c s = { s with mem := (endBareShot n i c s).mem } :=
  only_mem_trans (only_mem_trans (writeBareOutcome_only_mem n i c s) (setWord_only_mem _ _ _)) (release_only_mem _ _ _)

theorem Meets.endBareShot {i : Nat} {c : ShotCode} (h : Meets l s) : Meets l (endBareShot n i c s) :=
  Meets.release (h.quiet (Quiet.refl s).writeBareOutcome.raiseShotsDone)

theorem Meets.exceedNext (h : Meets l s) (hg : l ≠ .form → OffGate s n) : Meets l (exceedNext n s) := by
  unfold Machine.exceedNext
  split
  · exact h.endBareShot.afterShot fun hl => (hg hl).same (by rw [endBareShot_only_mem])
  · exact h

theorem exceedNext_gate (n : Slot) (s : State) : (exceedNext n s).gate = s.gate := by
  unfold exceedNext
  split
  · rw [afterShot_gate, endBareShot_only_mem]
  · rfl

theorem Meets.waitForRoll (h : Meets l s) (hg : l ≠ .form → OffGate s n) : Meets l (waitForRoll n s) :=
  (h.setSub hg).quiet (Quiet.refl _).raise.refreshWanted

theorem Meets.sheetWentLive {bk : Back} {sh : Sheet} (h : Meets l s) : Meets l (sheetWentLive bk sh s) := by
  refine quiet (s := s.orders.runList.foldl _ s) (And.left (foldl_keeps
    (I := fun t => Meets l t ∧ t.gate = s.gate) ?_ ⟨h, rfl⟩)) (Quiet.refl _).refreshWanted
  intro t e he ⟨ht, hg⟩
  split
  · next hc =>
    exact ⟨ht.setSub fun hl => (offGate_of_entry (h.hands hl) he (.inl (by simp [hc.1]))).same (by rw [hg]),
      (setSub_gate _ _ _).trans hg⟩
  · exact ⟨ht, hg⟩

theorem Meets.capacityWasCut {bk : Back} (h : Meets l s) : Meets l (capacityWasCut bk s) := by
  refine And.left (foldl_keeps (I := fun t => Meets l t ∧ t.gate = s.gate) ?_ ⟨h, rfl⟩)
  intro t e he ⟨ht, hg⟩
  split
  · next hc =>
    exact ⟨ht.exceedNext fun hl => (offGate_of_entry (h.hands hl) he (.inl (by simp [hc.1]))).same (by rw [hg]),
      (exceedNext_gate _ _).trans hg⟩
  · exact ⟨ht, hg⟩

/-! ### Labels -/

theorem Meets.skipLabel {sh : Sheet} {k : Nat} (h : Meets l s) : Meets l (skipLabel sh k s) :=
  (h.quiet (Quiet.refl s).setLabelState).release.quiet ((Quiet.refl _).raiseWord (spare_outcome (j := 0x0C) (.inl (by decide))))

theorem Meets.skipHead (h : Meets l s) : Meets l (skipHead s) := by
  unfold Machine.skipHead
  split
  · exact h
  · exact ((h.quiet (Quiet.refl s).setQueue).skipLabel.labelSettled).quiet (Quiet.refl _).promoteLabels

theorem Meets.takeAck {q : Byte} (h : Meets l s) : Meets l (takeAck q s) := by
  unfold Machine.takeAck
  refine ite (fun _ => ?_) fun _ => h
  split
  · exact h
  · next e rest _ =>
    have printed : Meets l (setQueue rest (setLabelState e.sheet e.frame .printed
        (setLabelCharge e.sheet e.frame (labelPrice s) s))) :=
      h.quiet (Quiet.refl s).setLabelCharge.setLabelState.setQueue
    exact ((printed.charge.quiet ((Quiet.refl _).raiseWord (spare_outcome (j := 0x0A) (.inl (by decide))))).labelSettled).quiet
      (Quiet.refl _).promoteLabels.afterReply

theorem Meets.takeNak {q : Byte} (h : Meets l s) : Meets l (takeNak q s) := by
  unfold Machine.takeNak
  refine ite (fun _ => ?_) fun _ => h
  split
  · exact h
  · next e rest _ =>
    have failed : Meets l (setQueue rest (setLabelState e.sheet e.frame .failed s)) :=
      h.quiet (Quiet.refl s).setLabelState.setQueue
    exact ((failed.release.quiet ((Quiet.refl _).raiseWord (spare_outcome (j := 0x0C) (.inl (by decide))))).labelSettled).quiet
      (Quiet.refl _).promoteLabels.afterReply

theorem Meets.readHeld (h : Meets l s) : Meets l (readHeld s) := by
  unfold Machine.readHeld
  split
  · exact h
  · dsimp only
    split
    · exact Meets.takeAck (h.quiet (Quiet.refl s).holdByte.setReceiver)
    · exact Meets.takeNak (h.quiet (Quiet.refl s).holdByte.setReceiver)
    · exact h.quiet (Quiet.ite (fun _ => (Quiet.refl s).holdByte.setReceiver) fun _ =>
        Quiet.ite (fun _ => (Quiet.refl s).holdByte.setReceiver) fun _ =>
          Quiet.ite (fun _ => (Quiet.refl s).holdByte.takeReady) fun _ => (Quiet.refl s).holdByte)

theorem Meets.receiveByte {c : Byte} (h : Meets l s) : Meets l (receiveByte c s) :=
  Meets.readHeld (h.quiet (Quiet.refl s).holdByte)

theorem Meets.takeBreak (h : Meets l s) : Meets l (takeBreak s) := by
  have counted : Quiet s (raise .labelStock (discardByte { s with labels := { s.labels with breakSeen := true } })) := by
    refine Quiet.raise (Quiet.discardByte ?_)
    exact (Quiet.refl s).same rfl rfl rfl rfl
  exact ite (fun _ => h.quiet counted) fun _ =>
    ite (fun _ => (h.quiet counted.enterInquiring).skipHead) fun _ => h.quiet counted.enterInquiring

theorem Meets.skipWithdrawn {sh : Sheet} {k : Nat} (h : Meets l s) : Meets l (skipWithdrawn n sh k s) :=
  h.skipLabel.quiet ((Quiet.refl _).updateOrder fun _ => rfl)

theorem Meets.skipWaiting (h : Meets l s) : Meets l (skipWaiting n s) :=
  foldl_keeps (fun _ _ _ ht => ht.skipWithdrawn.quiet (Quiet.refl _).setWaitingCount) h

theorem Meets.skipOrderLabels (h : Meets l s) : Meets l (skipOrderLabels n s) := by
  have emptied (q : List LabelEntry) : Meets l (setQueue q (Machine.skipWaiting n s)) :=
    h.skipWaiting.quiet (Quiet.refl _).setQueue
  exact quiet (foldl_keeps (I := Meets l) (fun _ _ _ ht => ht.skipWithdrawn) (emptied _)) (Quiet.refl _).promoteLabels

theorem skipWithdrawn_gate (n : Slot) (sh : Sheet) (k : Nat) (s : State) : (skipWithdrawn n sh k s).gate = s.gate := by
  unfold skipWithdrawn skipLabel raiseWord updateOrder
  dsimp only
  rw [setRunList_gate, setWord_gate, release_only_mem]
  simp [setLabelState]

theorem promoteOne_gate (s : State) : (promoteOne s).gate = s.gate := by
  unfold promoteOne
  split
  · split <;> rfl
  · rfl

theorem repeatN_gate {f : State → State} (hf : ∀ s, (f s).gate = s.gate) (k : Nat) (s : State) :
    (repeatN f k s).gate = s.gate := by
  induction k generalizing s with
  | zero => rfl
  | succ k ih => exact (ih (f s)).trans (hf s)

theorem skipWaiting_gate (n : Slot) (s : State) : (skipWaiting n s).gate = s.gate := by
  unfold skipWaiting
  rw [foldl_gate]
  intro t x
  unfold setWaitingCount report
  rw [setByte_gate, skipWithdrawn_gate]

theorem skipOrderLabels_gate (n : Slot) (s : State) : (skipOrderLabels n s).gate = s.gate := by
  unfold skipOrderLabels promoteLabels
  rw [repeatN_gate promoteOne_gate, foldl_gate fun t e => by rw [skipWithdrawn_gate], setQueue_gate, skipWaiting_gate]

/-! ### Back Units -/

theorem Meets.promoteSheet {sh : Sheet} (h : Meets l s) : Meets l (promoteSheet sh s) := by
  have live : Quiet s (callMotor sh.back .forward (enterBack sh.back .loading (setLive sh.back (some sh.which)
      (writeSheetHand sh .live (setByte (sheetBase sh + 0x05) (promotedCapacity (capacity s sh)) s))))) :=
    ((Quiet.refl s).setByte (spare_sheet (by decide))).writeSheetHand.setLive.enterBack.callMotor
  exact Meets.sheetWentLive (h.quiet live)

theorem Meets.examineSheet {sh : Sheet} (h : Meets l s) : Meets l (examineSheet sh s) := by
  have marked : Meets l (handleSheetMark sh s) := h.quiet (Quiet.refl s).handleSheetMark
  exact ite (fun _ => ite (fun _ => ite (fun _ => marked.promoteSheet) fun _ => marked.quiet (Quiet.refl _).refuseSheet)
    fun _ => marked) fun _ => h

theorem Meets.lookForSheet {bk : Back} (h : Meets l s) : Meets l (lookForSheet bk s) := h.examineSheet.examineSheet

theorem Meets.commandRewind {bk : Back} (h : Meets l s) : Meets l (commandRewind bk s) :=
  ite (fun _ => (h.quiet (Quiet.refl s).jamBack).endRewindTask) fun _ => h.quiet (Quiet.refl s).beginRewind

/-! ### Withdrawals and frame boundaries -/

theorem Meets.withdrawOrder (h : Meets l s) (hg : l ≠ .form → OffGate s n) : Meets l (withdrawOrder n s) := by
  have closed : Quiet s (closePending n .withdrawn (Machine.updateOrder n (fun e => { e with withdrawn := true }) s)) :=
    Quiet.closePending ((Quiet.refl s).updateOrder (f := fun e => { e with withdrawn := true }) fun _ => rfl)
  have skipped := (h.quiet closed).skipOrderLabels (n := n)
  have off (hl : l ≠ .form) := ((hg hl).quiet closed).same (congrArg Gate.shot (skipOrderLabels_gate n _))
  unfold Machine.withdrawOrder
  dsimp only
  split
  · exact skipped
  · exact ite (fun _ => skipped.completeCopy off) fun _ => (skipped.setSub off).quiet (Quiet.refl _).refreshWanted

theorem Meets.releaseMissing {r : ShotRecord} (h : Meets l s) : Meets l (releaseMissing r s) := h.release

theorem Meets.stopShot {r : ShotRecord} (h : Meets l s) : Meets l (stopShot r s) := by
  have released : Meets l (Machine.releaseMissing r (dropShotFrames r s)) :=
    (h.quiet (Quiet.refl s).dropShotFrames).releaseMissing
  exact (ite (fun _ => released.quiet (Quiet.refl _).setShotCode)
    fun _ => released.quiet (Quiet.refl _).setShotCode.raiseShotsDone).clearGate

theorem Meets.withdrawAtGate (h : Meets l s) : Meets l (withdrawAtGate s) := by
  unfold Machine.withdrawAtGate
  split
  · exact h
  · exact ite (fun _ => h.stopShot.withdrawOrder fun _ => offGate_of_idle rfl) fun _ => h

theorem Meets.reachBoundary (h : Meets l s) : Meets l (reachBoundary s) :=
  ite (fun _ => h.withdrawAtGate.quiet (Quiet.refl _).takePendingHold.restIfHeld) fun _ => h

theorem Meets.requestWithdrawal (h : Meets l s) : Meets l (requestWithdrawal n s) := by
  unfold Machine.requestWithdrawal
  split
  · exact h
  · next e he =>
    obtain ⟨hmem, rfl⟩ := findOrder_some he
    refine ite (fun _ => ite (fun _ => ite (fun _ => h.withdrawAtGate) fun _ => h) fun hsub => ?_) fun hk =>
      ite (fun _ => h) fun hst => ?_
    · exact h.withdrawOrder fun hl => offGate_of_entry (h.hands hl) hmem (.inl hsub)
    · exact h.finishTask hk fun hl => ⟨hmem, offGate_of_entry (h.hands hl) hmem (.inr (.inr ⟨hk, by simpa using hst⟩))⟩

/-! ### Shot ends and the sequencer's steps -/

theorem Meets.orderGoesOn (h : Meets l s) (hg : l ≠ .form → OffGate s n) : Meets l (orderGoesOn n s) :=
  ite (fun _ => h.withdrawOrder hg) fun _ => h.afterShot hg

theorem Meets.endShot {early : Bool} (h : Meets l s) : Meets l (endShot early s) := by
  unfold Machine.endShot
  split
  · exact h
  · next r _ =>
    have released : Meets l (Machine.releaseMissing r (dropShotFrames r s)) :=
      (h.quiet (Quiet.refl s).dropShotFrames).releaseMissing
    exact ((released.quiet (Quiet.refl _).setShotCode.raiseShotsDone).clearGate.orderGoesOn
      fun _ => offGate_of_idle rfl).reachBoundary

theorem Meets.failShot {bk : Back} (h : Meets l s) : Meets l (failShot bk s) := by
  unfold Machine.failShot
  split
  · exact h
  · exact ite (fun _ => h.endShot) fun _ => h

theorem Meets.beginPassage (h : Meets l s) : Meets l (beginPassage s) := by
  have waiting : Meets l (Machine.reachBoundary (setPhase .frameWait s)) := (h.quiet (Quiet.refl s).setPhase).reachBoundary
  exact ite (fun _ => waiting.quiet (Quiet.refl _).frameLoop) fun _ => waiting

theorem Meets.returnShot (h : Meets l s) : Meets l (returnShot s) := by
  unfold Machine.returnShot
  split
  · exact h
  · exact (h.clearGate.setSub fun _ => offGate_of_idle rfl).reachBoundary

theorem Meets.reserveShot (h : Meets l s) : Meets l (reserveShot s) := by
  unfold Machine.reserveShot
  split
  · exact h
  · next r _ =>
    have reserved : Meets l ((setPairs s r).foldl (fun s x => reserveNext x.1 x.2 s) (setPhase .reserving s)) :=
      h.quiet (Quiet.foldl (fun _ _ q => q.reserveNext) _ (Quiet.refl s).setPhase)
    exact ite (fun _ => ite (fun _ => reserved.beginPassage) fun _ => ite (fun _ => reserved.returnShot) fun _ =>
      reserved.endShot) fun _ => h.returnShot

theorem Meets.endShift (h : Meets l s) : Meets l (endShift s) := by
  have ended : Meets l (Machine.reachBoundary { s with gate := { s.gate with phase := .shiftEnd, shiftTimer := none } }) :=
    Meets.reachBoundary (h.quiet ((Quiet.refl s).same rfl rfl rfl rfl))
  exact ite (fun _ => ended.reserveShot) fun _ => ended

theorem Meets.shiftStep (h : Meets l s) : Meets l (shiftStep s) := by
  unfold Machine.shiftStep
  split
  · exact h
  · next r _ =>
    exact ite (fun _ => h.endShift) fun _ => ite
      (fun _ => h.quiet ((Quiet.refl s).startShift.same rfl rfl rfl rfl)) fun _ => h.quiet (Quiet.refl s).setPhase

theorem Meets.endMetering (h : Meets l s) : Meets l (endMetering s) := by
  have ended : Meets l (Machine.reachBoundary (setPhase .meterEnd s)) := (h.quiet (Quiet.refl s).setPhase).reachBoundary
  exact ite (fun _ => (ended.quiet (Quiet.refl _).setPhase).shiftStep) fun _ => ended

theorem Meets.carriageArrived (h : Meets l s) : Meets l (carriageArrived s) := ite (fun _ => h.shiftStep) fun _ => h

theorem Meets.shiftArrived (h : Meets l s) : Meets l (shiftArrived s) :=
  ite (fun _ => ite (fun _ => reachBoundary (h.quiet ((Quiet.refl s).same rfl rfl rfl rfl))) fun _ => h.endShift) fun _ => h

theorem Meets.arrive (h : Meets l s) : Meets l (arrive s) := reachBoundary (h.quiet ((Quiet.refl s).same rfl rfl rfl rfl))

theorem Meets.startFeeding (h : Meets l s) : Meets l (startFeeding s) := by
  unfold Machine.startFeeding
  split
  · exact h
  · exact ite (fun _ => h.arrive) fun _ => ite (fun _ => (h.quiet (Quiet.refl s).moveFeeder).arrive)
      fun _ => h.quiet ((Quiet.refl s).moveFeeder.same rfl rfl rfl rfl)

theorem Meets.feederArrived (h : Meets l s) : Meets l (feederArrived s) := ite (fun _ => h.arrive) fun _ => h

theorem Meets.recordExposed {r : ShotRecord} {f : SetFrame} (h : Meets l s)
    (hr : s.gate.shot.map workKey = some (workKey r)) : Meets l (recordExposed r f s) := by
  have numbered := (Quiet.refl s).issueSequence.setFrameSequence (sh := shotSheet r) (k := f.frame)
    (x := sequenceCounter (issueSequence s))
  have closed := (numbered.setFrameCharge (sh := shotSheet r) (k := f.frame) (x := framePrice (Machine.setFrameSequence
    (shotSheet r) f.frame (sequenceCounter (issueSequence s)) (issueSequence s)) (orderProfile (Machine.setFrameSequence
    (shotSheet r) f.frame (sequenceCounter (issueSequence s)) (issueSequence s)) r.slot))).closeFrame
      (sh := shotSheet r) (k := f.frame) (f := .exposed)
  have tallied := ((closed.setShot (r := markRecorded f.frame { r with tally := r.tally ++ [(f.position, f.copy)] })
    (by rw [closed.work, hr]; rfl)).raiseByte (spare_shot (n := r.slot) (i := r.shot) (j := 5) (by decide))).raiseWord
      (spare_outcome (n := r.slot) (j := 6) (.inl (by decide)))
  exact (h.quiet tallied).chargeFrame.quiet (Quiet.refl _).enterLabel.setFaultCount

theorem Meets.recordFrame (h : Meets l s) : Meets l (recordFrame s) := by
  unfold Machine.recordFrame
  split
  · exact h
  · next r hr =>
    have hk : s.gate.shot.map workKey = some (workKey r) := by rw [hr]; rfl
    split
    · exact h.recordExposed hk
    · exact h.quiet ((Quiet.refl s).recordSpoiled hk)
    · exact h
    · exact h

theorem Meets.afterRecording {bk : Back} (h : Meets l s) : Meets l (afterRecording bk s) := by
  have told : Meets l (tellUsed bk s) := h.quiet (Quiet.refl s).tellUsed
  unfold Machine.afterRecording
  dsimp only
  split
  · exact told
  · exact ite (fun _ => told.endShot) fun _ => ite (fun _ => told.endShot) fun _ => told.beginPassage

theorem Meets.finishPassage {bk : Back} (h : Meets l s) : Meets l (finishPassage bk s) := h.recordFrame.afterRecording

theorem Meets.resume (h : Meets l s) : Meets l (resume s) := by
  have risen : Quiet s { s with gate := { s.gate with rested := false } } := (Quiet.refl s).same rfl rfl rfl rfl
  have r := h.quiet risen
  unfold Machine.resume
  refine ite (fun _ => ?_) fun _ => h
  dsimp only
  split
  · exact r.startFeeding
  · exact (r.quiet (Quiet.refl _).setPhase).shiftStep
  · exact r.shiftStep
  · exact r.reserveShot
  · exact h.quiet risen.frameLoop
  · exact h.quiet risen.setPhase.frameLoop
  all_goals exact r

/-! ### Hands -/

/-- The recorded hand of a slot and the intake queue change together. -/
theorem hands_record {x : SlotHand} {I : List Slot} (h : HandsLaw s) (ht : t.orders =
      { s.orders with recorded := s.orders.recorded.set n.val x n.isLt, intake := I }) (hg : t.gate.shot = s.gate.shot)
    (hi : ∀ m, m ∈ I ↔ if m = n then x = .filed else m ∈ s.orders.intake) (hI : I.Nodup)
    (hr : Running s n ↔ x = .taken ∨ x = .withdraw) : HandsLaw t where
  intake m := by
    unfold recordedHand
    rw [ht]
    dsimp only
    rw [recordedHand_set, hi m]
    split
    · rfl
    · exact h.intake m
  runs m := by
    unfold Running recordedHand at *
    rw [ht]
    dsimp only
    rw [recordedHand_set]
    split
    · next e => rw [e]; exact hr
    · exact h.runs m
  intakeOnce := by rw [ht]; exact hI
  runsOnce := by rw [ht]; exact h.runsOnce
  gate r hr' := by
    obtain ⟨e, he⟩ := h.gate r (hg ▸ hr')
    exact ⟨e, by unfold AtGate; rw [ht]; exact he⟩

theorem Meets.hand {x : SlotHand} {I : List Slot} (h : Meets l s)
    (hi : l ≠ .form → (∀ m, m ∈ I ↔ if m = n then x = .filed else m ∈ s.orders.intake) ∧ I.Nodup)
    (hr : l ≠ .form → (Running s n ↔ x = .taken ∨ x = .withdraw)) : Meets l (recordHand n x (setIntake I s)) :=
  h.step id (fun hl hs => hands_record hs rfl rfl (hi hl).1 (hi hl).2 (hr hl)) rfl
    fun _ _ _ _ ha => agree_keeps ha (.refl s) rfl

theorem mem_dropMember {α : Type} [DecidableEq α] {xs : List α} {x y : α} : y ∈ dropMember xs x ↔ y ∈ xs ∧ y ≠ x := by
  simp [dropMember]

theorem nodup_dropMember {α : Type} [DecidableEq α] {xs : List α} {x : α} (h : xs.Nodup) : (dropMember xs x).Nodup :=
  h.filter _

/-- A hand changes and the intake queue stays: neither value is FILED. -/
theorem Meets.hand_only {x : SlotHand} (h : Meets l s) (hx : x ≠ .filed) (hf : recordedHand s n ≠ .filed)
    (hr : l ≠ .form → (Running s n ↔ x = .taken ∨ x = .withdraw)) : Meets l (recordHand n x s) :=
  h.hand (I := s.orders.intake) (fun hl => ⟨fun m => by
    split
    · next e => rw [e, (h.hands hl).intake n]; simp [hx, hf]
    · rfl, (h.hands hl).intakeOnce⟩) hr

theorem Meets.slotHandRule (h : Meets l s) : Meets l (slotHandRule n s) := by
  have notRunning (hl : l ≠ .form) (hx : recordedHand s n ≠ .taken) (hy : recordedHand s n ≠ .withdraw) : ¬ Running s n := by
    rw [(h.hands hl).runs n]
    simp [hx, hy]
  unfold Machine.slotHandRule
  refine ite (fun _ => h) fun _ => ite (fun hc => ?_) fun _ => ite (fun hc => ?_) fun _ => ite (fun hc => ?_) fun _ =>
    ite (fun hc => ?_) fun _ => ite (fun _ => h.quiet ((Quiet.refl s).setWord spare_slotHand)) fun _ =>
      h.quiet ((Quiet.refl s).setWord spare_slotHand).raise
  · have hx : recordedHand s n ≠ .filed ∧ recordedHand s n ≠ .taken ∧ recordedHand s n ≠ .withdraw := by
      rcases hc.1 with e | e <;> simp [e]
    have fresh (hl : l ≠ .form) : n ∉ s.orders.intake := by
      rw [(h.hands hl).intake n]
      exact hx.1
    refine h.hand (fun hl => ⟨fun m => ?_, ?_⟩) fun hl => by simp [notRunning hl hx.2.1 hx.2.2]
    · by_cases hm : m = n <;> simp [hm]
    · exact List.nodup_append.mpr ⟨(h.hands hl).intakeOnce, List.nodup_singleton _, fun a ha b hb => by
        rw [List.mem_singleton.mp hb]
        exact fun e => fresh hl (e ▸ ha)⟩
  · refine h.hand (fun hl => ⟨fun m => ?_, nodup_dropMember (h.hands hl).intakeOnce⟩) fun hl => by
      simp [notRunning hl (by simp [hc.1]) (by simp [hc.1])]
    rw [mem_dropMember]
    by_cases hm : m = n <;> simp [hm]
  · refine (h.hand_only (by decide) (by simp [hc.1]) fun hl => ?_).requestWithdrawal
    rw [(h.hands hl).runs n]
    simp [hc.1]
  · exact h.hand_only (by decide) (by simp [hc.1]) fun hl => by
      simp [notRunning hl (by simp [hc.1]) (by simp [hc.1])]

theorem Meets.handleSlotMark (h : Meets l s) : Meets l (handleSlotMark n s) :=
  ite (fun _ => slotHandRule (h.quiet ((Quiet.refl s).same rfl rfl rfl rfl))) fun _ => h

end Sys2Proof.Proofs
end

section
/-! SUPPORT. Takes, shot choices, resets and host writes keep the laws of memory form, hands and commitments. -/

namespace Sys2Proof.Proofs

open Sys2Proof Sys2Proof.Machine Sys2Proof.Safety Sys2Proof.Laws

variable {s t : State} {n m : Slot} {l : Law}

/-! ### Takes -/

/-- The new order stands among the old ones. -/
theorem enterRunList_perm (e : OrderEntry) (xs : List OrderEntry) : (enterRunList e xs).Perm (e :: xs) := by
  unfold enterRunList
  split
  · rw [List.append_assoc, List.singleton_append]
    exact List.perm_middle.trans ((List.filter_append_perm (·.rush) xs).cons e)
  · exact List.perm_append_singleton e xs

/-- A FILED slot leaves the intake queue for the run list (R23, R29). -/
theorem hands_enter {e : OrderEntry} {xs : List OrderEntry} (h : HandsLaw s) (hf : recordedHand s e.slot = .filed)
    (ht : t.orders = { s.orders with
      recorded := s.orders.recorded.set e.slot.val .taken e.slot.isLt
      intake := dropMember s.orders.intake e.slot, runList := xs })
    (hx : xs.Perm (e :: s.orders.runList)) (hg : t.gate.shot = s.gate.shot) : HandsLaw t := by
  have fresh : e.slot ∉ s.orders.runList.map OrderEntry.slot := by
    rw [← running_iff, h.runs e.slot, hf]
    decide
  refine ⟨fun m => ?_, fun m => ?_, ?_, ?_, fun r hr => ?_⟩
  · unfold recordedHand
    rw [ht]
    dsimp only
    rw [recordedHand_set, mem_dropMember]
    split
    · next c => simp [c]
    · next c => simpa [c, recordedHand] using h.intake m
  · rw [running_iff, ht, (hx.map OrderEntry.slot).mem_iff]
    unfold recordedHand
    rw [ht]
    dsimp only
    rw [recordedHand_set, List.map_cons, List.mem_cons, ← running_iff]
    split
    · next c => simp [c]
    · next c => simpa [c, recordedHand] using h.runs m
  · rw [ht]
    exact nodup_dropMember h.intakeOnce
  · rw [ht, (hx.map OrderEntry.slot).nodup_iff]
    exact List.nodup_cons.mpr ⟨fresh, h.runsOnce⟩
  · obtain ⟨f, hfs, hsub, hk, hf⟩ := h.gate r (hg ▸ hr)
    exact ⟨f, hfs, hsub, hk, by rw [ht]; exact hx.mem_iff.mpr (.tail _ hf)⟩

theorem accountIndex_of_checked (h : checkOrder s n = .inr .copy) : accountIndex s n ≤ 63 ∧ commitmentFits s n = true := by
  have hc : checkCopy s n = none := by
    unfold checkOrder at h
    split at h
    · cases h
    · split at h
      · cases h
      · assumption
    · split at h <;> cases h
    · split at h <;> cases h
  unfold checkCopy at hc
  dsimp only at hc
  by_cases hi : 63 < accountIndex s n ∨ (accountState s (accountIndex s n) ≠ 1 ∧ accountState s (accountIndex s n) ≠ 2)
  · simp [if_pos hi] at hc
  · refine ⟨by omega, ?_⟩
    by_contra hf
    rw [Bool.not_eq_true] at hf
    simp only [hf, if_true] at hc
    repeat' split at hc
    all_goals cases hc

/-- The commitment of an accepted order (R28). -/
def acceptedAmount (k : OrderKind) (s : State) (n : Slot) : Nat := if k = .copy then planCommitment s n else 0

theorem acceptedAmount_fits {k : OrderKind} (h : checkOrder s n = .inr k) :
    committed s (accountIndex s n) + acceptedAmount k s n < 16777216 := by
  have := committed_lt s (accountIndex s n)
  unfold acceptedAmount
  split
  · next e =>
    subst e
    have hf := (accountIndex_of_checked h).2
    unfold commitmentFits at hf
    have hx := (Bool.and_eq_true _ _ ▸ hf).2
    simp only [Bool.not_eq_true', decide_eq_false_iff_not, Nat.not_lt] at hx
    have : Config.max24 = 16777215 := rfl
    omega
  · omega

/-- The amounts but for those of one slot's outcome area. -/
def AmountBeside (n : Slot) (a : Nat) : Prop := Amount a ∧ ¬ (outcome n ≤ a ∧ a < outcome n + 0x200)

theorem apart_outcome {a k : Nat} (h0 : outcome n ≤ a) (h1 : a + k ≤ outcome n + 0x200) : Apart (AmountBeside n) a k :=
  fun _ hb hb' hk => hk.2 ⟨by omega, by omega⟩

theorem Spare.beside {a k : Nat} (h : Spare a k) : Apart (AmountBeside n) a k := fun b hb hb' hk => h b hb hb' hk.1

theorem Keeps.beside (h : Keeps Amount s t) : Keeps (AmountBeside n) s t := fun a ha => h a ha.1

theorem accountIndex_beside (h : Keeps (AmountBeside n) s t) (m : Slot) : accountIndex t m = accountIndex s m := by
  have := m.isLt
  refine h.byteAt ⟨amount_account, ?_⟩
  rw [outcome_eq, slotBase_eq]
  omega

theorem remaining_beside (h : Keeps (AmountBeside n) s t) (hm : m ≠ n) : remaining t m = remaining s m := by
  have hv : m.val ≠ n.val := fun c => hm (Fin.ext c)
  have k (j : Nat) (hj : j < 4) : AmountBeside n (outcome m + 0x18 + j) :=
    ⟨amount_remaining hj, by rw [outcome_eq, outcome_eq]; omega⟩
  exact h.longAt (k 0 (by decide)) (k 1 (by decide)) (k 2 (by decide))

theorem committed_beside (h : Keeps (AmountBeside n) s t) (i : Account) : committed t i.val = committed s i.val := by
  have k (j : Nat) (hj : j < 4) : AmountBeside n (accountBase i.val + 0x14 + j) :=
    ⟨amount_committed hj, by rw [outcome_eq, accountBase_eq]; omega⟩
  exact h.longAt (k 0 (by decide)) (k 1 (by decide)) (k 2 (by decide))

theorem Quiet.markTrims (h : Quiet s t) : Quiet s (markTrims n t) :=
  Quiet.foldl (fun _ _ q => Quiet.ite (fun _ => q.setByte (spare_shot (by decide))) fun _ => q) _ h

/-- The outcome area of an accepted order before its trims are marked. -/
def clearedOutcome (n : Slot) (x : Nat) (s : State) : State :=
  setRemaining n x (setLong (outcome n + 0x10) x (setByte (outcome n + 0x01) SubState.waitingRun.code
    (zeroBytes (outcome n) (outcome n + 0x200) s)))

theorem openOutcome_eq (n : Slot) (k : OrderKind) (x : Nat) (s : State) :
    openOutcome n k x s = if k = .copy then markTrims n (clearedOutcome n x s) else clearedOutcome n x s := rfl

theorem quiet_openOutcome (n : Slot) (k : OrderKind) (x : Nat) (s : State) :
    Quiet (clearedOutcome n x s) (openOutcome n k x s) := by
  rw [openOutcome_eq]
  exact Quiet.ite (fun _ => (Quiet.refl _).markTrims) fun _ => Quiet.refl _

theorem clearedOutcome_only_mem (n : Slot) (x : Nat) (s : State) :
    clearedOutcome n x s = { s with mem := (clearedOutcome n x s).mem } :=
  only_mem_trans (only_mem_trans (only_mem_trans (t := zeroBytes (outcome n) (outcome n + 0x200) s) rfl
    (setByte_only_mem _ _ _)) (setLong_only_mem _ _ _)) (setLong_only_mem _ _ _)

theorem foldl_only_mem {α : Type} {f : State → α → State} (hf : ∀ t x, f t x = { t with mem := (f t x).mem }) (xs : List α)
    (s : State) : xs.foldl f s = { s with mem := (xs.foldl f s).mem } :=
  foldl_keeps (I := fun t => t = { s with mem := t.mem }) (fun t x _ h => only_mem_trans h (hf t x)) rfl

theorem markTrims_only_mem (n : Slot) (s : State) : markTrims n s = { s with mem := (markTrims n s).mem } :=
  foldl_only_mem (fun t i => by split <;> rfl) _ s

theorem openOutcome_only_mem (n : Slot) (k : OrderKind) (x : Nat) (s : State) :
    openOutcome n k x s = { s with mem := (openOutcome n k x s).mem } := by
  rw [openOutcome_eq]
  split
  · exact only_mem_trans (clearedOutcome_only_mem n x s) (markTrims_only_mem n _)
  · exact clearedOutcome_only_mem n x s

theorem memoryOk_clearedOutcome {x : Nat} (h : MemoryOk s) : MemoryOk (clearedOutcome n x s) :=
  memoryOk_setLong (memoryOk_setLong (memoryOk_setByte (memoryOk_zeroBytes h)))

theorem memoryOk_openOutcome {k : OrderKind} {x : Nat} (h : MemoryOk s) : MemoryOk (openOutcome n k x s) :=
  (quiet_openOutcome n k x s).memory (memoryOk_clearedOutcome h)

theorem remaining_openOutcome (h : MemoryOk s) {k : OrderKind} {x : Nat} (hx : x < 16777216) :
    remaining (openOutcome n k x s) n = x := by
  rw [remaining_keeps (quiet_openOutcome n k x s).amounts]
  unfold clearedOutcome
  rw [remaining_setRemaining (memoryOk_setLong (memoryOk_setByte (memoryOk_zeroBytes h))) hx, if_pos rfl]

theorem keeps_openOutcome (n : Slot) (k : OrderKind) (x : Nat) (s : State) :
    Keeps (AmountBeside n) s (openOutcome n k x s) :=
  ((((Keeps.refl s).zeroBytes (apart_outcome (by omega) (by omega))).setByte (apart_outcome (by omega) (by omega))).setLong
    (apart_outcome (by omega) (by omega))).setLong (apart_outcome (by omega) (by omega)) |>.trans
      (quiet_openOutcome n k x s).amounts.beside

/-- The entry of an accepted order (R29). -/
def acceptedEntry (n : Slot) (k : OrderKind) (s : State) : OrderEntry :=
  { slot := n, kind := k, rush := isRush s n, sub := .waitingRun, started := false, withdrawn := false, outstanding := 0 }

/-- Common memory after the commitment of an accepted order. -/
def committedOutcome (n : Slot) (k : OrderKind) (s : State) : State :=
  let u := openOutcome n k (acceptedAmount k s n) s
  if k = .copy then commit n (acceptedAmount k s n) u else u

theorem acceptOrder_eq (n : Slot) (k : OrderKind) (s : State) :
    acceptOrder n k s
      = setRunList (enterRunList (acceptedEntry n k s) (committedOutcome n k s).orders.runList)
          (writeHand n .taken (committedOutcome n k s)) := rfl

theorem committedOutcome_only_mem (n : Slot) (k : OrderKind) (s : State) :
    committedOutcome n k s = { s with mem := (committedOutcome n k s).mem } := by
  unfold committedOutcome
  dsimp only
  split
  · exact only_mem_trans (openOutcome_only_mem n k _ s) (commit_only_mem n _ _)
  · exact openOutcome_only_mem n k _ s

theorem acceptOrder_orders (n : Slot) (k : OrderKind) (s : State) :
    (acceptOrder n k s).orders = { s.orders with
      recorded := s.orders.recorded.set n.val .taken n.isLt
      runList := enterRunList (acceptedEntry n k s) s.orders.runList } := by
  rw [acceptOrder_eq, committedOutcome_only_mem]
  rfl

theorem acceptOrder_gate (n : Slot) (k : OrderKind) (s : State) : (acceptOrder n k s).gate = s.gate := by
  rw [acceptOrder_eq, committedOutcome_only_mem]
  rfl

theorem acceptOrder_control (n : Slot) (k : OrderKind) (s : State) : (acceptOrder n k s).control = s.control := by
  rw [acceptOrder_eq, committedOutcome_only_mem]
  rfl

theorem keeps_acceptOrder (n : Slot) (k : OrderKind) (s : State) : Keeps Amount (committedOutcome n k s) (acceptOrder n k s) := by
  rw [acceptOrder_eq]
  exact ((Keeps.refl _).setWord spare_slotHand).same rfl

theorem memoryOk_acceptOrder {k : OrderKind} (h : MemoryOk s) : MemoryOk (acceptOrder n k s) := by
  rw [acceptOrder_eq]
  refine memoryOk_setRunList (memoryOk_writeHand ?_)
  unfold committedOutcome
  dsimp only
  split
  · exact memoryOk_commit (memoryOk_openOutcome h)
  · exact memoryOk_openOutcome h

theorem accountIndex_acceptOrder {k : OrderKind} : accountIndex (acceptOrder n k s) m = accountIndex s m := by
  rw [accountIndex_keeps (keeps_acceptOrder n k s), ← accountIndex_beside (keeps_openOutcome n k (acceptedAmount k s n) s)]
  unfold committedOutcome
  dsimp only
  split
  · exact accountIndex_setCommitted
  · rfl

theorem remaining_acceptOrder {k : OrderKind} (h : MemoryOk s) (hc : checkOrder s n = .inr k) :
    remaining (acceptOrder n k s) m = if m = n then acceptedAmount k s n else remaining s m := by
  have hx := acceptedAmount_fits hc
  have opened : remaining (openOutcome n k (acceptedAmount k s n) s) m
      = if m = n then acceptedAmount k s n else remaining s m := by
    split
    · next e =>
      subst e
      exact remaining_openOutcome h (by omega)
    · next e => exact remaining_beside (keeps_openOutcome n k _ s) e
  rw [remaining_keeps (keeps_acceptOrder n k s), ← opened]
  unfold committedOutcome
  dsimp only
  split
  · exact remaining_setCommitted
  · rfl

theorem committed_acceptOrder {k : OrderKind} (h : MemoryOk s) (hc : checkOrder s n = .inr k) (i : Account) :
    committed (acceptOrder n k s) i.val
      = committed s i.val + if accountIndex s n = i.val then acceptedAmount k s n else 0 := by
  have hx := acceptedAmount_fits hc
  have hk := keeps_openOutcome n k (acceptedAmount k s n) s
  rw [committed_keeps (keeps_acceptOrder n k s)]
  unfold committedOutcome
  dsimp only
  split
  · next e =>
    subst e
    have hi := (accountIndex_of_checked hc).1
    have same : committed (openOutcome n .copy (acceptedAmount .copy s n) s) (accountIndex s n)
        = committed s (accountIndex s n) := committed_beside hk ⟨accountIndex s n, by omega⟩
    unfold commit
    rw [accountIndex_beside hk, same, committed_setCommitted (memoryOk_openOutcome h) (by omega) hx, committed_beside hk]
    split
    · next e => rw [if_pos e.symm, e]
    · next e => rw [if_neg fun c => e c.symm, Nat.add_zero]
  · next e => rw [committed_beside hk, acceptedAmount, if_neg e, ite_self, Nat.add_zero]

/-- An accepted order's commitment is added to its account's committed (R28, R178). -/
theorem agree_acceptOrder {k : OrderKind} (mem : MemoryOk s) (ha : CommitmentsAgree s)
    (hn : ¬ Running s n) (hc : checkOrder s n = .inr k) : CommitmentsAgree (acceptOrder n k s) := by
  have hl : (acceptOrder n k s).orders.runList.Perm (acceptedEntry n k s :: s.orders.runList) := by
    rw [acceptOrder_orders]
    exact enterRunList_perm _ _
  refine ⟨fun e he hk => ?_, fun j hj => ?_, fun i => ?_⟩
  · rw [accountIndex_acceptOrder]
    rcases List.mem_cons.mp (hl.mem_iff.mp he) with e' | he
    · subst e'
      obtain rfl : k = .copy := hk
      exact (accountIndex_of_checked hc).1
    · exact ha.accounts e he hk
  · rw [remaining_acceptOrder mem hc]
    split
    · next e =>
      have : k ≠ .copy := hj _ (hl.mem_iff.mpr (.head _)) e.symm
      rw [acceptedAmount, if_neg this]
    · exact ha.settled j fun e he => hj e (hl.mem_iff.mpr (.tail _ he))
  · have fresh : n ∉ s.orders.runList.map OrderEntry.slot := by rwa [← running_iff]
    rw [committed_acceptOrder mem hc, ha.sums i, commitments_eq, commitments_eq, due_perm (hl.map OrderEntry.slot), List.map_cons,
      due_cons, remaining_acceptOrder mem hc, accountIndex_acceptOrder]
    rw [due_congr (account := accountIndex s) (amount := remaining s) fun m hm =>
      ⟨accountIndex_acceptOrder, by
        have e : m ≠ n := fun e => fresh (e ▸ hm)
        rw [remaining_acceptOrder mem hc, if_neg e]⟩]
    simp only [acceptedEntry, if_true]
    exact Nat.add_comm _ _

theorem refuseOrder_orders (n : Slot) (c : RefusalCode) (s : State) :
    (refuseOrder n c s).orders = { s.orders with recorded := s.orders.recorded.set n.val .done n.isLt } := by
  unfold refuseOrder writeHand recordHand
  simp

theorem refuseOrder_gate (n : Slot) (c : RefusalCode) (s : State) : (refuseOrder n c s).gate = s.gate := by
  unfold refuseOrder writeHand
  simp

theorem refuseOrder_live (n : Slot) (c : RefusalCode) (s : State) : isLive (refuseOrder n c s) = isLive s := by
  unfold refuseOrder writeHand isLive
  simp

theorem memoryOk_refuseOrder {c : RefusalCode} (h : MemoryOk s) : MemoryOk (refuseOrder n c s) :=
  memoryOk_raise (memoryOk_writeHand (memoryOk_setByte (memoryOk_setByte (memoryOk_zeroBytes h))))

theorem keeps_refuseOrder (n : Slot) (c : RefusalCode) (s : State) : Keeps (AmountBeside n) s (refuseOrder n c s) :=
  ((((Keeps.refl s).zeroBytes (apart_outcome (by omega) (by omega))).setByte (apart_outcome (by omega) (by omega))).setByte
    (apart_outcome (by omega) (by omega))).writeHand spare_slotHand.beside |>.raise

theorem remaining_refuseOrder (n : Slot) (c : RefusalCode) (s : State) : remaining (refuseOrder n c s) n = 0 := by
  have k : Keeps Amount (zeroBytes (outcome n) (outcome n + 0x200) s) (refuseOrder n c s) :=
    (((Keeps.refl _).setByte spare_orderState).setByte (spare_outcome (.inl (by decide)))).writeHand
      spare_slotHand |>.raise
  rw [remaining_keeps k]
  unfold remaining longAt wordAt
  simp only [byteAt_zeroBytes]
  rw [if_pos (by omega), if_pos (by omega), if_pos (by omega)]

/-- A refused order, which is not in the run list, has no commitment (R26). -/
theorem agree_refuseOrder {c : RefusalCode} (ha : CommitmentsAgree s) (hn : ¬ Running s n) :
    CommitmentsAgree (refuseOrder n c s) := by
  have hk := keeps_refuseOrder n c s
  refine ⟨fun e he hc => ?_, fun j hj => ?_, fun i => ?_⟩
  · rw [refuseOrder_orders] at he
    rw [accountIndex_beside hk]
    exact ha.accounts e he hc
  · rw [refuseOrder_orders] at hj
    by_cases e : j = n
    · rw [e, remaining_refuseOrder]
    · rw [remaining_beside hk e]
      exact ha.settled j hj
  · have fresh : n ∉ s.orders.runList.map OrderEntry.slot := by rwa [← running_iff]
    rw [committed_beside hk, ha.sums i, commitments_eq, commitments_eq, refuseOrder_orders]
    exact (due_congr fun m hm => ⟨accountIndex_beside hk m, remaining_beside hk fun e => fresh (e ▸ hm)⟩).symm

theorem acceptOrder_live (n : Slot) (k : OrderKind) (s : State) : isLive (acceptOrder n k s) = isLive s := by
  unfold isLive
  rw [acceptOrder_control]

theorem memoryOk_setIntake {I : List Slot} (h : MemoryOk s) : MemoryOk (setIntake I s) := h

theorem agree_setIntake {I : List Slot} (ha : CommitmentsAgree s) : CommitmentsAgree (setIntake I s) :=
  agree_keeps ha (.refl s) rfl

/-- A FILED slot is taken: refused, or accepted into the run list (R22, R23). -/
theorem Meets.takeSlot (h : Meets l s) (hf : l ≠ .form → recordedHand s n = .filed) : Meets l (takeSlot n s) := by
  have notRunning (hl : l ≠ .form) : ¬ Running s n := by
    rw [(h.hands hl).runs n, hf hl]
    decide
  unfold Machine.takeSlot
  dsimp only
  split
  · next c _ =>
    refine h.step (fun m => memoryOk_refuseOrder (memoryOk_setIntake m)) (fun hl hs => ?_) (refuseOrder_live n c _)
      fun hl _ _ _ ha =>
      agree_refuseOrder (agree_setIntake ha) (notRunning (by simp [hl]))
    refine hands_record (n := n) (x := .done) hs (refuseOrder_orders n c _) (congrArg Gate.shot (refuseOrder_gate n c _))
      (fun m => ?_) (nodup_dropMember hs.intakeOnce) (by simp [notRunning hl])
    rw [setIntake_intake, mem_dropMember]
    by_cases e : m = n <;> simp [e]
  · next k hk =>
    refine h.step (fun m => memoryOk_acceptOrder (memoryOk_setIntake m)) (fun hl hs => ?_) (acceptOrder_live n k _)
      fun hl mem _ _ ha =>
      agree_acceptOrder (memoryOk_setIntake mem) (agree_setIntake ha) (notRunning (by simp [hl])) hk
    exact hands_enter (e := acceptedEntry n k s) hs (hf hl) (acceptOrder_orders n k _) (enterRunList_perm _ _)
      (congrArg Gate.shot (acceptOrder_gate n k _))

theorem Meets.takeFrom (fuel : Nat) (h : Meets l s) : Meets l (takeFrom fuel s) := by
  induction fuel generalizing s with
  | zero => exact h
  | succ fuel ih =>
    unfold Machine.takeFrom
    split
    · exact h
    · next n _ => exact ite (fun hf => h.handleSlotMark.takeSlot fun _ => hf) fun _ => ih h.handleSlotMark

end Sys2Proof.Proofs
end

section
/-! SUPPORT. Shot choices keep the laws of memory form, hands and commitments. -/

namespace Sys2Proof.Proofs

open Sys2Proof Sys2Proof.Machine Sys2Proof.Safety Sys2Proof.Laws

variable {s t : State} {n m : Slot} {l : Law}

/-! ### Bytes that the end of an order keeps -/

namespace Keeps

variable {K : Nat → Prop}

theorem lowerCommitment {x : Nat} (h : Keeps K s t) (hr : Apart K (outcome n + 0x18) 4)
    (hc : Apart K (accountBase (accountIndex t n) + 0x14) 4) : Keeps K s (lowerCommitment n x t) := by
  unfold Machine.lowerCommitment
  dsimp only
  rw [accountIndex_setRemaining]
  exact (h.setLong hr).setLong hc

theorem release {x : Nat} (h : Keeps K s t) (hr : Apart K (outcome n + 0x18) 4)
    (hc : Apart K (accountBase (accountIndex t n) + 0x14) 4) : Keeps K s (release n x t) := h.lowerCommitment hr hc

theorem raiseSpent {i x : Nat} (h : Keeps K s t) (hm : Apart K (accountBase i + 6) 2) (hs : Apart K (accountBase i + 0x10) 4) :
    Keeps K s (raiseSpent i x t) :=
  ite (fun _ => (h.setLong hs).setWord hm) fun _ => h.setLong hs

theorem refreshWanted (h : Keeps K s t) (h0 : Apart K (Config.report + 0x10) 1) (h1 : Apart K (Config.report + 0x11) 1) :
    Keeps K s (refreshWanted t) := by
  unfold Machine.refreshWanted
  split <;> exact (h.setByte h0).setByte h1

theorem finishOrder {o : OrderState} (h : Keeps K s t) (hh : Apart K (slotBase n) 2) (h0 : Apart K (outcome n) 1)
    (h1 : Apart K (outcome n + 1) 1) (hp : Apart K (Config.report + 0x10) 1) (hf : Apart K (Config.report + 0x11) 1) :
    Keeps K s (finishOrder n o t) :=
  (((h.setByte h0).setByte h1).writeHand hh).setRunList.raise.refreshWanted hp hf

end Keeps

/-- The bytes that the choice of an order's next shot reads: the shot counts and the shot outcomes. -/
def ShotByte (a : Nat) : Prop := a < 0x4000 ∧ (0x0A ≤ a % 0x400 ∧ a % 0x400 < 0x0C ∨ 0x220 ≤ a % 0x400)

theorem nextShot_keeps (h : Keeps ShotByte s t) (n : Slot) : nextShot t n = nextShot s n := by
  have hn := n.isLt
  have count : shotCount t n = shotCount s n :=
    h.wordAt (by rw [slotBase_eq]; unfold ShotByte; omega) (by rw [slotBase_eq]; unfold ShotByte; omega)
  have code (i : Nat) : shotCode t n i = shotCode s n i :=
    h.byteAt (by rw [shotOutcome_eq]; unfold ShotByte; omega)
  unfold nextShot
  simp only [count, code]

theorem apart_shotByte_outcome {j k : Nat} (h : j + k ≤ 0x20) : Apart ShotByte (outcome n + j) k := by
  have := n.isLt
  intro b hb hb'
  rw [outcome_eq] at hb hb'
  unfold ShotByte
  omega

theorem apart_shotByte_above {a k : Nat} (h : 0x4000 ≤ a) : Apart ShotByte a k := by
  intro b hb _
  unfold ShotByte
  omega

theorem apart_shotByte_account {i j k : Nat} : Apart ShotByte (accountBase i + j) k :=
  apart_shotByte_above (by rw [accountBase_eq]; omega)

theorem apart_shotByte_report {j k : Nat} : Apart ShotByte (Config.report + j) k :=
  apart_shotByte_above (by unfold Config.report; omega)

theorem apart_shotByte_hand : Apart ShotByte (slotBase n) 2 := by
  have := n.isLt
  intro b hb hb'
  rw [slotBase_eq] at hb hb'
  unfold ShotByte
  omega

theorem keepsShots_release {x : Nat} (h : Keeps ShotByte s t) : Keeps ShotByte s (release n x t) :=
  h.release (apart_shotByte_outcome (by decide)) apart_shotByte_account

theorem keepsShots_settleSurcharge {e : OrderEntry} (h : Keeps ShotByte s t) : Keeps ShotByte s (settleSurcharge e t) :=
  Keeps.ite (fun _ => Keeps.ite (fun _ => ((h.setLong (apart_shotByte_outcome (by decide))).lowerCommitment
    (apart_shotByte_outcome (by decide)) apart_shotByte_account).raiseSpent apart_shotByte_account apart_shotByte_account)
      fun _ => keepsShots_release h) fun _ => h

theorem nextShot_completeCopy (n m : Slot) (s : State) : nextShot (completeCopy n s) m = nextShot s m := by
  refine nextShot_keeps ?_ m
  unfold completeCopy
  split
  · exact Keeps.refl s
  · exact (keepsShots_release (keepsShots_settleSurcharge (Keeps.refl s))).finishOrder apart_shotByte_hand
      (apart_shotByte_outcome (j := 0) (by decide)) (apart_shotByte_outcome (by decide)) apart_shotByte_report
        apart_shotByte_report

/-! ### What a choice leaves of the other orders -/

/-- A COPY order of the slot is in the run list. -/
def CopyRuns (s : State) (n : Slot) : Prop := ∃ e ∈ s.orders.runList, e.slot = n ∧ e.kind = .copy

theorem mem_setSub {e : OrderEntry} {sub : SubState} (he : e ∈ s.orders.runList) (hs : e.slot = n) :
    { e with sub := sub } ∈ (setSub n sub s).orders.runList := by
  have h := mem_updateOrder (n := n) (f := fun e => { e with sub := sub }) he
  rw [if_pos hs] at h
  exact h

theorem copyRuns_setSub {sub : SubState} (h : CopyRuns s n) : CopyRuns (setSub n sub s) n := by
  obtain ⟨e, he, hs, hk⟩ := h
  exact ⟨_, mem_setSub he hs, hs, hk⟩

theorem CopyRuns.same (h : CopyRuns s n) (ho : t.orders = s.orders) : CopyRuns t n := by
  unfold CopyRuns
  rw [ho]
  exact h

/-- A COPY order whose shot exceeds the roll stays in the run list, or has no shot PENDING. -/
theorem exceedNext_runs (h : CopyRuns s n) : CopyRuns (exceedNext n s) n ∨ nextShot (exceedNext n s) n = none := by
  unfold exceedNext
  split
  · next i _ =>
    have kept : CopyRuns (endBareShot n i .exceedsRoll s) n := h.same (by rw [endBareShot_only_mem])
    unfold afterShot
    split
    · exact .inl kept
    · split
      · exact .inl ((copyRuns_setSub kept).same (by rw [refreshWanted_only_mem]))
      · next hnone =>
        split
        · exact .inl ((copyRuns_setSub kept).same (by rw [refreshWanted_only_mem]))
        · rw [nextShot_completeCopy]
          exact .inr (by simpa using hnone)
  · exact .inl h

/-- Every order of another slot stays in the run list as the laws see it. -/
def KeepsOthers (n : Slot) (s t : State) : Prop :=
  ∀ k ∈ s.orders.runList.map entryKey, k.1 ≠ n → k ∈ t.orders.runList.map entryKey

namespace KeepsOthers

variable {u : State}

theorem refl (s : State) : KeepsOthers n s s := fun _ h _ => h

theorem trans (h : KeepsOthers n s t) (k : KeepsOthers n t u) : KeepsOthers n s u := fun x hx hn => k x (h x hx hn) hn

theorem quiet (h : KeepsOthers n s t) (q : Quiet t u) : KeepsOthers n s u := fun x hx hn => by
  rw [q.entries]
  exact h x hx hn

theorem same (h : KeepsOthers n s t) (ho : u.orders = t.orders) : KeepsOthers n s u := fun x hx hn => by
  rw [ho]
  exact h x hx hn

theorem updateOrder {f : OrderEntry → OrderEntry} (h : KeepsOthers n s t) : KeepsOthers n s (updateOrder n f t) := by
  refine h.trans fun k hk hn => ?_
  obtain ⟨e, he, rfl⟩ := List.mem_map.mp hk
  exact List.mem_map_of_mem (mem_updateOrder_other he hn)

theorem setSub {sub : SubState} (h : KeepsOthers n s t) : KeepsOthers n s (setSub n sub t) :=
  (h.updateOrder (f := fun e => { e with sub := sub })).same rfl

theorem finishOrder {o : OrderState} (h : KeepsOthers n s t) : KeepsOthers n s (finishOrder n o t) := by
  refine h.trans fun k hk hn => ?_
  obtain ⟨e, he, rfl⟩ := List.mem_map.mp hk
  rw [finishOrder_orders]
  exact List.mem_map_of_mem (List.mem_filter.mpr ⟨he, by simpa [entryKey] using hn⟩)

theorem completeCopy (h : KeepsOthers n s t) : KeepsOthers n s (completeCopy n t) := by
  unfold Machine.completeCopy
  split
  · exact h
  · exact (h.same (by rw [release_only_mem, settleSurcharge_only_mem])).finishOrder

theorem afterShot (h : KeepsOthers n s t) : KeepsOthers n s (afterShot n t) := by
  unfold Machine.afterShot
  split
  · exact h
  · split
    · exact h.setSub.quiet (Quiet.refl _).refreshWanted
    · split
      · exact h.setSub.quiet (Quiet.refl _).refreshWanted
      · exact h.completeCopy

theorem exceedNext (h : KeepsOthers n s t) : KeepsOthers n s (exceedNext n t) := by
  unfold Machine.exceedNext
  split
  · exact (h.same (by rw [endBareShot_only_mem])).afterShot
  · exact h

theorem waitForRoll (h : KeepsOthers n s t) : KeepsOthers n s (waitForRoll n t) :=
  h.setSub.quiet (Quiet.refl _).raise.refreshWanted

end KeepsOthers

/-! ### Work that no withdrawal takes from the gate -/

/-- The work at the gate, if any, is a CALIBRATE task or its order is not withdrawn (R38, R40). -/
def StaysAtGate (s : State) : Prop :=
  ∀ r, s.gate.shot = some r → r.calibrate = true ∨ recordedHand s r.slot ≠ .withdraw

theorem StaysAtGate.quiet (h : StaysAtGate s) (q : Quiet s t) : StaysAtGate t := by
  intro r hr
  have hw := q.work
  rw [hr] at hw
  obtain ⟨r', hr', hk⟩ := Option.map_eq_some_iff.mp hw.symm
  simp only [workKey, Prod.mk.injEq] at hk
  unfold recordedHand
  rw [q.recorded, ← hk.1, ← hk.2]
  exact h r' hr'

theorem withdrawAtGate_eq (h : StaysAtGate s) : withdrawAtGate s = s := by
  unfold withdrawAtGate
  split
  · rfl
  · next r hr => exact if_neg fun c => (h r hr).elim (by simp [c.1]) fun k => k c.2

namespace Quiet

theorem reachBoundary (h : Quiet s t) (hw : StaysAtGate t) : Quiet s (reachBoundary t) := by
  unfold Machine.reachBoundary
  rw [withdrawAtGate_eq hw]
  exact ite (fun _ => h.takePendingHold.restIfHeld) fun _ => h

theorem arrive (h : Quiet s t) (hw : StaysAtGate t) : Quiet s (arrive t) :=
  reachBoundary (h.same rfl rfl rfl rfl) hw

theorem startFeeding (h : Quiet s t) (hw : StaysAtGate t) : Quiet s (startFeeding t) := by
  unfold Machine.startFeeding
  split
  · exact h
  · exact ite (fun _ => h.arrive hw) fun _ => ite
      (fun _ => h.moveFeeder.arrive (hw.quiet (Quiet.refl t).moveFeeder)) fun _ => h.moveFeeder.same rfl rfl rfl rfl

end Quiet

/-! ### Stand tasks at a choice (R32) -/

theorem shot_of_gateIdle (h : gateIdle s = true) : s.gate.shot = none := by
  unfold gateIdle at h
  exact of_decide_eq_true (Bool.and_eq_true _ _ ▸ h).2

/-- An order of the run list, from its key. -/
theorem entry_of_key {e : OrderEntry} (h : entryKey e ∈ s.orders.runList.map entryKey) :
    ∃ f ∈ s.orders.runList, f.slot = e.slot ∧ f.kind = e.kind ∧ f.sub = e.sub ∧ f.started = e.started := by
  obtain ⟨f, hf, hk⟩ := List.mem_map.mp h
  simp only [entryKey, Prod.mk.injEq] at hk
  exact ⟨f, hf, hk.1, hk.2.1, hk.2.2.1, hk.2.2.2⟩

/-- The order of a stand task that starts: AT_GATE and started. -/
def startedTask (n : Slot) (s : State) : State :=
  updateOrder n (fun e => { e with started := true }) (setSub n .atGate s)

theorem Meets.startedTask (h : Meets l s) (hg : l ≠ .form → OffGate s n) : Meets l (startedTask n s) :=
  (h.setSub hg).updateOrder (fun _ => rfl) (fun _ => rfl) fun hl => (hg hl).same rfl

theorem mem_startedTask {e : OrderEntry} (he : e ∈ s.orders.runList) (hs : e.slot = n) :
    { e with sub := .atGate, started := true } ∈ (startedTask n s).orders.runList := by
  have h := mem_updateOrder (n := n) (f := fun e => { e with started := true }) (mem_setSub (sub := .atGate) he hs)
  rw [if_pos hs] at h
  exact h

/-- The shot record of a CALIBRATE task (R43, R49). -/
def calibrateRecord (n : Slot) : ShotRecord :=
  { slot := n, shot := 0, calibrate := true, back := .a, which := .first, planned := 0, plans := [], frames := []
    tally := [], reshoots := 0, result := .none }

theorem startCalibrate_eq (n : Slot) (s : State) :
    startCalibrate n s = startFeeding (setShot (calibrateRecord n) (startedTask n s)) := rfl

theorem Meets.startCalibrate (h : Meets l s) (hg : l ≠ .form → OffGate s n)
    (he : l ≠ .form → ∃ e ∈ s.orders.runList, e.slot = n ∧ e.kind = .calibrate) : Meets l (startCalibrate n s) := by
  rw [startCalibrate_eq]
  refine ((h.startedTask hg).setShot fun hl => ?_).startFeeding
  obtain ⟨e, hmem, hs, hk⟩ := he hl
  exact ⟨{ e with sub := .atGate, started := true }, hs, rfl, .inr ⟨rfl, hk, rfl⟩, mem_startedTask hmem hs⟩

theorem Meets.considerRewind {e : OrderEntry} (h : Meets l s) (hk : e.kind = .rewind)
    (he : l ≠ .form → OffGate s e.slot ∧ ∃ f ∈ s.orders.runList, f.slot = e.slot ∧ f.kind = e.kind) :
    Meets l (considerRewind e.slot s) := by
  unfold Machine.considerRewind
  dsimp only
  split
  · exact (h.startedTask fun hl => (he hl).1).commandRewind
  · exact h
  · refine h.finishOrder (fun hl => ?_) fun hl _ hs ha => ?_
    · obtain ⟨hg, f, hf, hfs, -⟩ := he hl
      exact ⟨⟨f, hf, hfs⟩, hg⟩
    · obtain ⟨-, f, hf, hfs, hfk⟩ := he (by simp [hl])
      exact hfs ▸ remaining_eq_zero hs ha hf (by simp [hfk, hk])

theorem Meets.considerTask {e : OrderEntry} (h : Meets l s)
    (he : l ≠ .form → e.started = false → entryKey e ∈ s.orders.runList.map entryKey) : Meets l (considerTask e s) := by
  unfold Machine.considerTask
  refine ite (fun hc => ?_) fun _ => h
  have off : OffGate s e.slot := offGate_of_idle (shot_of_gateIdle hc.1)
  have found (hl : l ≠ .form) : ∃ f ∈ s.orders.runList, f.slot = e.slot ∧ f.kind = e.kind := by
    obtain ⟨f, hf, hs, hk, -⟩ := entry_of_key (he hl hc.2.1)
    exact ⟨f, hf, hs, hk⟩
  split
  · exact h
  · next hk => exact h.startCalibrate (fun _ => off) fun hl => hk ▸ found hl
  · next hk => exact h.considerRewind hk fun hl => ⟨off, found hl⟩

/-- A stand task at a choice leaves every other order that has not started (R32, R44). -/
theorem considerTask_keeps {e : OrderEntry} (h : HandsLaw s) {k : Slot × OrderKind × SubState × Bool}
    (hk : k ∈ s.orders.runList.map entryKey) (hn : k.1 ≠ e.slot) (hst : k.2.2.2 = false) :
    k ∈ (considerTask e s).orders.runList.map entryKey := by
  have started : KeepsOthers e.slot s (startedTask e.slot s) := (KeepsOthers.refl s).setSub.updateOrder
  unfold considerTask
  split
  · next hc =>
    have off : OffGate s e.slot := offGate_of_idle (shot_of_gateIdle hc.1)
    split
    · exact hk
    · rw [startCalibrate_eq]
      refine ((started.same (setShot_orders _ _)).quiet ((Quiet.refl _).startFeeding fun r hr => ?_)) k hk hn
      obtain rfl : calibrateRecord e.slot = r := Option.some.inj hr
      exact .inl rfl
    · unfold considerRewind
      dsimp only
      split
      · unfold commandRewind
        split
        · unfold endRewindTask
          split
          · next f hf =>
            obtain ⟨hmem, -, hfst⟩ := rewindTask_some hf
            have jammed : Quiet (startedTask e.slot s) (jamBack (namedBack s e.slot) (startedTask e.slot s)) :=
              (Quiet.refl _).jamBack
            have hk' := (started.quiet jammed) k hk hn
            have hl := hands_quiet (Meets.startedTask (l := .hands) h fun _ => off) jammed
            refine (KeepsOthers.refl _).finishOrder k hk' fun hkf => ?_
            obtain ⟨g, hg, rfl⟩ := List.mem_map.mp hk'
            obtain rfl : g = f := entry_unique hl hg hmem hkf
            exact absurd hst (by simp [entryKey, hfst])
          · exact started.quiet (Quiet.refl _).jamBack k hk hn
        · exact started.quiet (Quiet.refl _).beginRewind k hk hn
      · exact hk
      · exact (KeepsOthers.refl s).finishOrder k hk hn
  · exact hk

theorem Meets.considerTasks {xs : List OrderEntry} (h : Meets l s)
    (hx : l ≠ .form → (xs.map OrderEntry.slot).Nodup
      ∧ ∀ e ∈ xs, e.started = false → entryKey e ∈ s.orders.runList.map entryKey) :
    Meets l (xs.foldl (fun s e => Machine.considerTask e s) s) := by
  induction xs generalizing s with
  | nil => exact h
  | cons e xs ih =>
    refine ih (h.considerTask fun hl => (hx hl).2 e (.head _)) fun hl => ?_
    obtain ⟨hnodup, hmem⟩ := hx hl
    obtain ⟨hfresh, hnodup⟩ := List.nodup_cons.mp hnodup
    exact ⟨hnodup, fun f hf hst => considerTask_keeps (h.hands hl) (hmem f (.tail _ hf) hst)
      (fun hs => hfresh (List.mem_map.mpr ⟨f, hf, hs⟩)) hst⟩

/-! ### COPY orders at a choice (R33, R34) -/

/-- The shot choice of a shot that is served (R34). -/
def servedChoice (n : Slot) (i : Nat) (bk : Back) (f : Nat) : ShotChoice := { slot := n, shot := i, back := bk, frames := f }

/-- The shot record of a shot that is served (R34). -/
def servedRecord (n : Slot) (i : Nat) (bk : Back) (w : Which) (f : Nat) : ShotRecord :=
  { slot := n, shot := i, calibrate := false, back := bk, which := w, planned := f, plans := [], frames := []
    tally := [], reshoots := 0, result := .none }

theorem Meets.serveShot {i : Nat} {bk : Back} (h : Meets l s) (hg : l ≠ .form → OffGate s n)
    (he : l ≠ .form → CopyRuns s n) : Meets l (serveShot n i bk s) := by
  unfold Machine.serveShot
  split
  · exact h
  · next w _ =>
    have chosen := h.quiet ((Quiet.refl s).setChoice (c := some (servedChoice n i bk (plannedFrames s n i))))
    refine ((chosen.setSub (n := n) (sub := .atGate) fun hl => (hg hl).same rfl).setShot
      (r := servedRecord n i bk w (plannedFrames s n i)) fun hl => ?_).startFeeding
    obtain ⟨e, hmem, hs, hk⟩ := he hl
    exact ⟨{ e with sub := .atGate }, hs, rfl, .inl ⟨rfl, hk⟩, mem_setSub (s := setChoice _ s) hmem hs⟩

theorem Meets.considerShots (fuel : Nat) (h : Meets l s)
    (hi : l ≠ .form → s.gate.shot = none ∧ (CopyRuns s n ∨ nextShot s n = none)) : Meets l (considerShots n fuel s) := by
  induction fuel generalizing s with
  | zero => exact h
  | succ fuel ih =>
    unfold Machine.considerShots
    split
    · exact h
    · next i hn =>
      have off (hl : l ≠ .form) : OffGate s n := offGate_of_idle (hi hl).1
      have runs (hl : l ≠ .form) : CopyRuns s n := (hi hl).2.resolve_right (by simp [hn])
      split
      · exact h.serveShot off runs
      · exact h
      · exact ih (h.exceedNext off) fun hl =>
          ⟨(congrArg Gate.shot (exceedNext_gate n s)).trans (hi hl).1, exceedNext_runs (runs hl)⟩
      · exact h.waitForRoll off

theorem Meets.considerCopy {e : OrderEntry} (h : Meets l s)
    (he : l ≠ .form → entryKey e ∈ s.orders.runList.map entryKey) : Meets l (considerCopy e s) := by
  refine ite (fun hc => h.considerShots 24 fun hl => ⟨shot_of_gateIdle hc.1, .inl ?_⟩) fun _ => h
  obtain ⟨f, hf, hs, hk, -⟩ := entry_of_key (he hl)
  exact ⟨f, hf, hs, hk.trans hc.2.1⟩

theorem recordedHand_completeCopy (h : recordedHand s n ≠ .withdraw) : recordedHand (completeCopy n s) n ≠ .withdraw := by
  unfold completeCopy
  split
  · exact h
  · dsimp only
    rw [recordedHand_finishOrder, if_pos rfl]
    decide

theorem recordedHand_of_orders (h : t.orders = s.orders) : recordedHand t m = recordedHand s m := by
  unfold recordedHand
  rw [h]

theorem recordedHand_refreshWanted (s : State) (m : Slot) : recordedHand (refreshWanted s) m = recordedHand s m :=
  recordedHand_of_orders (by rw [refreshWanted_only_mem])

theorem recordedHand_setSub (sub : SubState) (s : State) : recordedHand (setSub n sub s) m = recordedHand s m := by
  unfold recordedHand setSub updateOrder
  rw [setByte_orders, setRunList_recorded]

theorem recordedHand_exceedNext (h : recordedHand s n ≠ .withdraw) : recordedHand (exceedNext n s) n ≠ .withdraw := by
  unfold exceedNext
  split
  · next i _ =>
    have kept : recordedHand (endBareShot n i .exceedsRoll s) n ≠ .withdraw := by
      have ho : (endBareShot n i .exceedsRoll s).orders = s.orders := by rw [endBareShot_only_mem]
      rwa [recordedHand_of_orders ho]
    unfold afterShot
    split
    · exact kept
    · split
      · rw [recordedHand_refreshWanted, recordedHand_setSub]
        exact kept
      · split
        · rw [recordedHand_refreshWanted, recordedHand_setSub]
          exact kept
        · exact recordedHand_completeCopy kept
  · exact h

theorem KeepsOthers.serveShot {i : Nat} {bk : Back} (h : KeepsOthers n s t) (hw : recordedHand t n ≠ .withdraw) :
    KeepsOthers n s (serveShot n i bk t) := by
  unfold Machine.serveShot
  split
  · exact h
  · next w _ =>
    have served :=
      ((h.quiet ((Quiet.refl t).setChoice (c := some (servedChoice n i bk (plannedFrames t n i))))).setSub (sub := .atGate))
    refine KeepsOthers.quiet (t := setShot (servedRecord n i bk w (plannedFrames t n i)) _) (served.same (setShot_orders _ _))
      ((Quiet.refl _).startFeeding fun r hr => ?_)
    obtain rfl : servedRecord n i bk w (plannedFrames t n i) = r := Option.some.inj hr
    rw [recordedHand_of_orders (setShot_orders _ _), recordedHand_setSub]
    exact .inr hw

theorem KeepsOthers.considerShots (fuel : Nat) (h : KeepsOthers n s t) (hw : recordedHand t n ≠ .withdraw) :
    KeepsOthers n s (considerShots n fuel t) := by
  induction fuel generalizing t with
  | zero => exact h
  | succ fuel ih =>
    unfold Machine.considerShots
    split
    · exact h
    · split
      · exact h.serveShot hw
      · exact h
      · exact ih h.exceedNext (recordedHand_exceedNext hw)
      · exact h.waitForRoll

theorem considerCopy_keeps (e : OrderEntry) (s : State) : KeepsOthers e.slot s (considerCopy e s) := by
  unfold considerCopy
  split
  · next hc => exact (KeepsOthers.refl s).considerShots 24 hc.2.2.2
  · exact .refl s

theorem Meets.considerCopies {xs : List OrderEntry} (h : Meets l s)
    (hx : l ≠ .form → (xs.map OrderEntry.slot).Nodup ∧ ∀ e ∈ xs, entryKey e ∈ s.orders.runList.map entryKey) :
    Meets l (xs.foldl (fun s e => Machine.considerCopy e s) s) := by
  induction xs generalizing s with
  | nil => exact h
  | cons e xs ih =>
    refine ih (h.considerCopy fun hl => (hx hl).2 e (.head _)) fun hl => ?_
    obtain ⟨hnodup, hmem⟩ := hx hl
    obtain ⟨hfresh, hnodup⟩ := List.nodup_cons.mp hnodup
    exact ⟨hnodup, fun f hf => considerCopy_keeps e s _ (hmem f (.tail _ hf))
      fun hs => hfresh (List.mem_map.mpr ⟨f, hf, hs⟩)⟩

theorem Meets.shotChoice (h : Meets l s) : Meets l (shotChoice s) := by
  have tasks : Meets l (s.orders.runList.foldl (fun s e => Machine.considerTask e s) s) :=
    h.considerTasks fun hl => ⟨(h.hands hl).runsOnce, fun _ he _ => List.mem_map_of_mem he⟩
  exact tasks.considerCopies fun hl => ⟨(tasks.hands hl).runsOnce, fun _ he => List.mem_map_of_mem he⟩

end Sys2Proof.Proofs
end

section
/-! SUPPORT. Resets, host writes and the commands keep the laws of memory form, hands and commitments; every step keeps them. -/

namespace Sys2Proof.Proofs

open Sys2Proof Sys2Proof.Machine Sys2Proof.Safety Sys2Proof.Laws Sys2Proof.Claims

variable {s t : State} {n m : Slot} {l : Law}

/-! ### The stand reset -/

theorem Quiet.spoilPassage {r : ShotRecord} (h : Quiet s t) (hr : t.gate.shot = some r) : Quiet s (spoilPassage r t) := by
  unfold Machine.spoilPassage
  split
  · exact h.writeSpoiled (by rw [hr]; rfl)
  · exact h

theorem Meets.resetGate (h : Meets l s) : Meets l (resetGate s) := by
  unfold Machine.resetGate
  split
  · exact h.clearGate
  · next r hr =>
    exact (h.quiet (Quiet.ite (fun _ => (Quiet.refl s).spoilPassage hr) fun _ => Quiet.refl s).dropShotFrames).clearGate

theorem resetGate_shot (s : State) : (resetGate s).gate.shot = none := by
  unfold resetGate
  split <;> rfl

/-- The state an order of the run list ends in, before its end is written. -/
def interrupting (e : OrderEntry) (s : State) : State :=
  if e.kind = .copy then
    release e.slot (remaining (closePending e.slot .interrupted s) e.slot) (closePending e.slot .interrupted s)
  else s

theorem interruptOrder_eq (e : OrderEntry) (s : State) :
    interruptOrder e s = finishOrder e.slot .interrupted (interrupting e s) := rfl

theorem closePending_only_mem (n : Slot) (c : ShotCode) (s : State) :
    closePending n c s = { s with mem := (closePending n c s).mem } :=
  foldl_only_mem (fun t i => by split <;> rfl) _ s

theorem interrupting_only_mem (e : OrderEntry) (s : State) : interrupting e s = { s with mem := (interrupting e s).mem } := by
  unfold interrupting
  split
  · exact only_mem_trans (closePending_only_mem _ _ s) (release_only_mem _ _ _)
  · rfl

theorem Meets.interruptOrder {e : OrderEntry} (h : Meets l s) (he : l ≠ .form → e ∈ s.orders.runList)
    (hg : s.gate.shot = none) : Meets l (interruptOrder e s) := by
  have ho : (interrupting e s).orders = s.orders := by rw [interrupting_only_mem]
  have hw : (interrupting e s).gate = s.gate := by rw [interrupting_only_mem]
  have closed := h.quiet ((Quiet.refl s).closePending (n := e.slot) (c := .interrupted))
  have ended : Meets l (interrupting e s) := ite (fun _ => closed.release) fun _ => h
  rw [interruptOrder_eq]
  refine ended.finishOrder (fun hl => ⟨⟨e, ho ▸ he hl, rfl⟩, offGate_of_idle (hw ▸ hg)⟩) fun hl _ hs ha => ?_
  by_cases hk : e.kind = .copy
  · subst hl
    unfold interrupting
    rw [if_pos hk]
    exact remaining_release_all (CommitmentLaw.memory closed)
  · exact remaining_eq_zero hs ha (ho ▸ he (by simp [hl])) hk

theorem interruptOrder_orders (e : OrderEntry) (s : State) :
    (interruptOrder e s).orders =
      { s.orders with
        recorded := s.orders.recorded.set e.slot.val .done e.slot.isLt
        runList := s.orders.runList.filter fun f => decide (f.slot ≠ e.slot) } := by
  rw [interruptOrder_eq, finishOrder_orders, interrupting_only_mem]

theorem interruptOrder_gate (e : OrderEntry) (s : State) : (interruptOrder e s).gate = s.gate := by
  rw [interruptOrder_eq, finishOrder_gate, interrupting_only_mem]

theorem Meets.interruptOrders {xs : List OrderEntry} (h : Meets l s) (hg : s.gate.shot = none)
    (hx : l ≠ .form → (xs.map OrderEntry.slot).Nodup ∧ ∀ e ∈ xs, e ∈ s.orders.runList) :
    Meets l (xs.foldl (fun s e => Machine.interruptOrder e s) s) := by
  induction xs generalizing s with
  | nil => exact h
  | cons e xs ih =>
    refine ih (h.interruptOrder (fun hl => (hx hl).2 e (.head _)) hg) (by rw [interruptOrder_gate]; exact hg) fun hl => ?_
    obtain ⟨hnodup, hmem⟩ := hx hl
    obtain ⟨hfresh, hnodup⟩ := List.nodup_cons.mp hnodup
    refine ⟨hnodup, fun f hf => ?_⟩
    rw [interruptOrder_orders]
    exact List.mem_filter.mpr ⟨hmem f (.tail _ hf), by simpa using fun hs => hfresh (List.mem_map.mpr ⟨f, hf, hs⟩)⟩

/-- The intake queue is rebuilt from the slots recorded FILED (R46). -/
theorem Meets.rebuildIntake (h : Meets l s) :
    Meets l (setIntake (allSlots.filter fun n => decide (recordedHand s n = .filed)) s) :=
  h.step id (fun _ hs =>
    { intake := fun n => by
        simp only [setIntake_intake, allSlots, List.mem_filter, List.mem_finRange, true_and, decide_eq_true_eq]
        rfl
      runs := hs.runs
      intakeOnce := by
        rw [setIntake_intake]
        exact (List.nodup_finRange 16).filter _
      runsOnce := hs.runsOnce
      gate := hs.gate }) rfl fun _ _ _ _ ha => agree_setIntake ha

theorem Meets.resetOrders (h : Meets l s) (hg : s.gate.shot = none) : Meets l (resetOrders s) := by
  have ended : Meets l (s.orders.runList.foldl (fun s e => Machine.interruptOrder e s) s) :=
    h.interruptOrders hg fun hl => ⟨(h.hands hl).runsOnce, fun _ he => he⟩
  exact Meets.rebuildIntake (ended.quiet (Quiet.refl _).setChoice)

/-- What the blocks but for the Gate Sequencer, the Order Engine and the watch do at a stand reset is quiet. -/
theorem quiet_resetBlocks (s : State) : Quiet s (resetLabels (stopFeeder (resetCarriage (resetBack .b (resetBack .a
    (resetConverter (emptyHolder (endScan (resetLamp s))))))))) :=
  (Quiet.refl s).resetLamp.endScan.emptyHolder.resetConverter.resetBack.resetBack.resetCarriage.stopFeeder.resetLabels

theorem Meets.takeStandReset (h : Meets l s) : Meets l (takeStandReset s) := by
  have stopped : Quiet s
      (setResetCause .none (setStand .stopped .none { s with control := { s.control with resetting := true } })) :=
    Quiet.setResetCause (Quiet.setStand ((Quiet.refl s).same rfl rfl rfl rfl))
  have q := quiet_resetBlocks (Machine.resetGate (setResetCause .none (setStand .stopped .none
    { s with control := { s.control with resetting := true } })))
  have idle := q.work
  rw [resetGate_shot] at idle
  exact (((h.quiet stopped).resetGate.quiet q).resetOrders (by simpa using idle)).quiet (Quiet.refl _).clearMarks

/-! ### Power-on and line resets -/

/-- No order, no hand and no work. -/
theorem hands_empty (ho : s.orders = Orders.reset) (hg : s.gate.shot = none) : HandsLaw s where
  intake n := by
    unfold recordedHand
    rw [ho]
    simp [Orders.reset]
  runs n := by
    unfold Running recordedHand
    rw [ho]
    simp [Orders.reset]
  intakeOnce := by rw [ho]; exact List.nodup_nil
  runsOnce := by rw [ho]; exact List.nodup_nil
  gate r hr := by simp [hg] at hr

theorem Meets.holdInReset {c : ResetCause} (h : Meets l s) : Meets l (holdInReset c s) := by
  cases l with
  | form => exact h
  | hands => exact hands_empty rfl rfl
  | commitments =>
    have mem : MemoryOk s := CommitmentLaw.memory h
    exact ⟨mem, hands_empty rfl rfl, fun hl => Bool.noConfusion hl⟩

/-- A zeroed memory has no order and no amount. -/
theorem agree_zeroed (x : InputLevels) (s : State) : CommitmentsAgree (zeroed x s) where
  accounts _ he := nomatch he
  settled _ _ := rfl
  sums _ := rfl

theorem meets_zeroed (l : Law) (x : InputLevels) (s : State) : Meets l (zeroed x s) := by
  cases l with
  | form => exact wf_reset
  | hands => exact hands_empty rfl rfl
  | commitments => exact ⟨wf_reset, hands_empty rfl rfl, fun _ => agree_zeroed x s⟩

theorem meets_endZeroing (l : Law) (c : ResetCause) (x : InputLevels) (s : State) : Meets l (endZeroing c x s) :=
  (meets_zeroed l x s).quiet
    (Quiet.refl _).setResetCause.enterBack.enterBack.startHoming.homeFeeder.tryEndStartUp

/-! ### Host writes -/

theorem setWord_live (a x : Nat) (s : State) : isLive (setWord a x s) = isLive s := by
  unfold isLive
  rw [setWord_control]

theorem evenAddr_even (a : Addr) : evenAddr a % 2 = 0 := by
  unfold evenAddr
  omega

theorem evenAddr_lt (a : Addr) : evenAddr a + 1 < 0x8000 := by
  have := a.isLt
  unfold evenAddr
  omega

/-- The amounts that no host write reaches: all but the account index of a slot whose order does not run (R4, R16). -/
def HeldAmount (s : State) (a : Nat) : Prop :=
  a < 0x4000 ∧ (a % 0x400 = 6 ∧ slotRuns s (slotOf a) = true ∨ 0x218 ≤ a % 0x400 ∧ a % 0x400 < 0x21C)
    ∨ 0x5000 ≤ a ∧ a < 0x5800 ∧ 0x14 ≤ a % 0x20 ∧ a % 0x20 < 0x18

theorem guarded_slot {a : Nat} (h : a < 0x4000) : guarded s a = slotWordGuarded s a := if_pos h

theorem guarded_sheet {a : Nat} (h : 0x4000 ≤ a) (h' : a < 0x5000) : guarded s a = sheetWordGuarded s a :=
  (if_neg (Nat.not_lt.mpr h)).trans (if_pos h')

theorem guarded_account {a : Nat} (h : 0x5000 ≤ a) (h' : a < 0x5800) : guarded s a = accountWordGuarded a :=
  (if_neg (Nat.not_lt.mpr (by unfold Config.sheets; omega))).trans ((if_neg (Nat.not_lt.mpr h)).trans (if_pos h'))

theorem guarded_above {a : Nat} (h : 0x5800 ≤ a) :
    guarded s a = (inRunGuard a && decide (s.orders.runList ≠ []) || inPartTable a) :=
  (if_neg (Nat.not_lt.mpr (by unfold Config.sheets; omega))).trans
    ((if_neg (Nat.not_lt.mpr (by unfold Config.accounts; omega))).trans (if_neg (Nat.not_lt.mpr h)))

theorem slotWordGuarded_iff (s : State) (a : Nat) :
    slotWordGuarded s a = true ↔ 0x200 ≤ a % 0x400 ∨ 2 ≤ a % 0x400 ∧ slotRuns s (slotOf a) = true := by
  unfold slotWordGuarded
  simp only [Bool.or_eq_true, Bool.and_eq_true, decide_eq_true_eq]
  exact Iff.rfl

theorem sheetWordGuarded_iff (s : State) (a : Nat) :
    sheetWordGuarded s a = true ↔ 6 ≤ a % 0x400 ∨ 2 ≤ a % 0x400 ∧ sheetHeld s (sheetOf a) = true := by
  unfold sheetWordGuarded
  simp only [Bool.or_eq_true, Bool.and_eq_true, decide_eq_true_eq]
  exact Iff.rfl

theorem accountWordGuarded_iff (a : Nat) : accountWordGuarded a = true ↔ a % 0x20 = 6 ∨ 0x10 ≤ a % 0x20 := by
  unfold accountWordGuarded
  simp only [Bool.or_eq_true, decide_eq_true_eq]

/-- A write that the guard lets through meets no amount it holds. -/
theorem apart_heldAmount {a : Nat} (h2 : a % 2 = 0) (hg : guarded s a = false) : Apart (HeldAmount s) a 2 := by
  intro b hb hb' hk
  rw [← Bool.not_eq_true] at hg
  rcases hk with ⟨hlt, hk⟩ | ⟨hge, hlt, hk⟩
  · rw [guarded_slot (by omega), slotWordGuarded_iff] at hg
    rcases hk with ⟨h6, hr⟩ | hk
    · obtain rfl : b = a := by omega
      exact hg (.inr ⟨by omega, hr⟩)
    · exact hg (.inl (by omega))
  · rw [guarded_account (by omega) (by omega), accountWordGuarded_iff] at hg
    exact hg (.inr (by omega))

theorem slotOf_slotBase (n : Slot) {j : Nat} (hj : j < 0x400) : slotOf (slotBase n + j) = n := by
  have := n.isLt
  apply Fin.ext
  show (slotBase n + j) / 0x400 % 16 = n.val
  rw [slotBase_eq]
  omega

/-- A stored host write keeps the law of commitments. -/
theorem agree_hostStore {a x : Nat} (h : HandsLaw s) (ha : CommitmentsAgree s) (h2 : a % 2 = 0) (hg : guarded s a = false) :
    CommitmentsAgree (setWord a x s) := by
  have hk : Keeps (HeldAmount s) s (setWord a x s) := (Keeps.refl s).setWord (apart_heldAmount h2 hg)
  have held (n : Slot) (hr : Running s n) : accountIndex (setWord a x s) n = accountIndex s n := by
    have := n.isLt
    refine hk.byteAt (.inl ⟨by rw [slotBase_eq]; omega, .inl ⟨by rw [slotBase_eq]; omega, ?_⟩⟩)
    rw [slotOf_slotBase n (by decide)]
    unfold slotRuns
    simpa using (h.runs n).mp hr
  have left (n : Slot) : remaining (setWord a x s) n = remaining s n := by
    have := n.isLt
    have k (j : Nat) (hj : j < 4) : HeldAmount s (outcome n + 0x18 + j) := by
      rw [outcome_eq]
      unfold HeldAmount
      omega
    exact hk.longAt (k 0 (by decide)) (k 1 (by decide)) (k 2 (by decide))
  have owed (i : Account) : committed (setWord a x s) i.val = committed s i.val := by
    have := i.isLt
    have k (j : Nat) (hj : j < 4) : HeldAmount s (accountBase i.val + 0x14 + j) := by
      rw [accountBase_eq]
      unfold HeldAmount
      omega
    exact hk.longAt (k 0 (by decide)) (k 1 (by decide)) (k 2 (by decide))
  refine ⟨fun e he hc => ?_, fun n hn => ?_, fun i => ?_⟩
  · rw [held e.slot ⟨e, he, rfl⟩]
    exact ha.accounts e he hc
  · rw [left]
    exact ha.settled n hn
  · rw [owed, ha.sums i, commitments_eq, commitments_eq, setWord_orders]
    refine (due_congr fun n hn => ⟨held n ?_, left n⟩).symm
    exact running_iff.mpr hn

theorem Meets.hostWrite {addr : Addr} {v : Word} (h : Meets l s) : Meets l (hostWrite addr v s) := by
  refine ite (fun _ => ite (fun _ => h.quiet (Quiet.refl s).dropWrite) fun hg => ?_) fun _ => h
  refine Meets.quiet ?_ (Quiet.refl (setWord (evenAddr addr) v.toNat s)).markWritten
  exact h.step memoryOk_setWord (fun _ hs => hands_same hs (setWord_orders _ _ _) (by rw [setWord_gate])) (setWord_live _ _ s)
    fun _ _ hs _ ha => agree_hostStore hs ha (evenAddr_even addr) (by simpa using hg)

/-! ### The stand commands -/

theorem Meets.enterRunning (h : Meets l s) : Meets l (enterRunning s) := by
  have running : Quiet s (setStand .running .none s) := (Quiet.refl s).setStand
  exact Meets.resume (h.quiet (Quiet.ite (fun _ => running.startHoming) fun _ => running))

theorem Meets.commandRun (h : Meets l s) : Meets l (commandRun s) := by
  have held : Meets l (enterHeld .lid s) := h.quiet (Quiet.refl s).enterHeld
  unfold Machine.commandRun
  refine ite (fun _ => ?_) fun _ => h
  split
  · exact ite (fun _ => held) fun _ => h.enterRunning
  · exact h
  · exact h.enterRunning
  · exact ite (fun _ => held) fun _ => h.enterRunning

theorem Meets.commandHold (h : Meets l s) : Meets l (commandHold s) := by
  unfold Machine.commandHold
  refine ite (fun _ => ?_) fun _ => h
  split
  · exact (h.quiet (Quiet.refl s).setStand).reachBoundary
  all_goals exact h

theorem Meets.hostWriteRegister {reg : Register} {v : Word} (h : Meets l s) : Meets l (hostWriteRegister reg v s) := by
  cases reg with
  | ident => exact h
  | notice => exact ite (fun _ => h.quiet (Quiet.refl s).writeNotice) fun _ => h
  | noticeEn => exact ite (fun _ => h.quiet (Quiet.refl s).writeEnables) fun _ => h
  | stand =>
    exact ite (fun _ => h.commandRun) fun _ => ite (fun _ => h.commandHold) fun _ =>
      ite (fun _ => ite (fun _ => h.takeStandReset) fun _ => h) fun _ => h

/-! ### The other commands -/

theorem Meets.takeSlotMark (h : Meets l s) : Meets l (takeSlotMark s) := by
  unfold Machine.takeSlotMark
  split
  · exact h
  · exact h.handleSlotMark

theorem Meets.takeSheetMark {sh : Sheet} (h : Meets l s) : Meets l (takeSheetMark sh s) :=
  ite (fun _ => (h.quiet (Quiet.refl s).handleSheetMark).lookForSheet) fun _ => h

theorem Quiet.takeSettleMark {i : Account} (h : Quiet s t) : Quiet s (takeSettleMark i t) :=
  ite (fun _ => settleStep (h.same rfl rfl rfl rfl)) fun _ => h

theorem Meets.endCalibrate {r : ShotRecord} {o : OrderState} (h : Meets l s) (hr : s.gate.shot = some r)
    (hc : r.calibrate = true) : Meets l (endCalibrate r.slot o s) := by
  have task (hl : l ≠ .form) : ∃ e ∈ s.orders.runList, e.slot = r.slot ∧ e.kind ≠ .copy := by
    obtain ⟨e, hs, -, hk, he⟩ := (h.hands hl).gate r hr
    refine ⟨e, he, hs, ?_⟩
    rcases hk with ⟨hk, -⟩ | ⟨-, hk, -⟩
    · simp [hc] at hk
    · simp [hk]
  refine (h.clearGate.finishOrder (fun hl => ?_) fun hl _ hs ha => ?_).reachBoundary
  · obtain ⟨e, he, hs, -⟩ := task hl
    exact ⟨⟨e, he, hs⟩, offGate_of_idle rfl⟩
  · obtain ⟨e, he, hes, hk⟩ := task (by simp [hl])
    exact hes ▸ remaining_eq_zero hs ha he hk

theorem Meets.endNoOriginal {r : ShotRecord} (h : Meets l s) : Meets l (endNoOriginal r s) :=
  (h.endBareShot.clearGate.orderGoesOn fun _ => offGate_of_idle rfl).reachBoundary

theorem Meets.testOriginal {p : Bool} (h : Meets l s) : Meets l (testOriginal p s) := by
  have waits : Meets l (setPhase .meterWait s) := h.quiet (Quiet.refl s).setPhase
  unfold Machine.testOriginal
  split
  · exact h
  · next r hr =>
    exact ite (fun hc => ite (fun _ => h.endCalibrate hr hc) fun _ => waits) fun _ =>
      ite (fun _ => waits) fun _ => h.endNoOriginal

theorem Meets.feederTimedOut (h : Meets l s) : Meets l (feederTimedOut s) :=
  reachBoundary (h.quiet (Quiet.holdStand (Quiet.stopFeeder ((Quiet.refl s).same rfl rfl rfl rfl))))

theorem Meets.requestMeter (h : Meets l s) : Meets l (requestMeter s) :=
  ite (fun _ => h.quiet (Quiet.refl s).startMeter) fun _ => (h.quiet (Quiet.refl s).abandonScan).reachBoundary

theorem writeOpenLevels_gate (n : Slot) (x : Rgb) (s : State) : (writeOpenLevels n x s).gate = s.gate := by
  unfold writeOpenLevels
  rw [setByte_gate, setByte_gate, setByte_gate]

theorem storeCalibration_gate (r x : Rgb) (s : State) : (storeCalibration r x s).gate = s.gate := by
  unfold storeCalibration
  dsimp only
  rw [raise_gate]
  repeat rw [setWord_gate]

theorem Meets.finishCalibration {r : ShotRecord} (h : Meets l s) (hr : s.gate.shot = some r) (hc : r.calibrate = true) :
    Meets l (finishCalibration r.slot s) := by
  unfold Machine.finishCalibration
  dsimp only
  refine Meets.endCalibrate (h.quiet (Quiet.endScan (Quiet.writeOpenLevels (Quiet.ite
    (fun _ => (Quiet.refl s).storeCalibration) fun _ => Quiet.refl s)))) ?_ hc
  rw [endScan_gate, writeOpenLevels_gate]
  split
  · rw [storeCalibration_gate]
    exact hr
  · exact hr

theorem writeMeterResult_gate (n : Slot) (i : Nat) (r : MeterResult) (s : State) : (writeMeterResult n i r s).gate = s.gate := by
  unfold writeMeterResult
  dsimp only
  rw [setByte_gate, setWord_gate]
  repeat rw [setByte_gate]

theorem Meets.finishMetering {r : ShotRecord} (h : Meets l s) (hr : s.gate.shot = some r) : Meets l (finishMetering r s) := by
  have written : Quiet s (writeMeterResult r.slot r.shot (meterShot s r.slot r.shot) s) := (Quiet.refl s).writeMeterResult
  exact Meets.endMetering (h.quiet (written.setShot (r := { r with plans := (meterShot s r.slot r.shot).plans })
    (by rw [writeMeterResult_gate, hr]; rfl)).endScan)

theorem Meets.compute (h : Meets l s) : Meets l (compute s) := by
  unfold Machine.compute
  split
  · exact h.quiet (Quiet.refl s).endScan
  · next r hr => exact ite (fun hc => h.finishCalibration hr hc) fun _ => h.finishMetering hr

theorem Meets.reachLine {line : Back} (h : Meets l s) : Meets l (reachLine line s) := by
  have closed : Quiet s (closeEnd line s) := (Quiet.refl s).closeEnd
  exact ite (fun _ => (h.quiet closed.stopAtLine).carriageArrived.quiet (Quiet.refl _).tryEndStartUp) fun _ =>
    ite (fun _ => (h.quiet closed.stopAtLine).shiftArrived) fun _ => h.quiet closed

theorem Meets.shiftTimedOut (h : Meets l s) : Meets l (shiftTimedOut s) :=
  reachBoundary (h.quiet (Quiet.carriageFault ((Quiet.refl s).same rfl rfl rfl rfl)))

theorem Meets.recordPassage {bk : Back} (h : Meets l s) : Meets l (recordPassage bk s) :=
  ite (fun _ => h.finishPassage) fun _ => h

theorem Meets.openFailed {bk : Back} (h : Meets l s) : Meets l (openFailed bk s) :=
  Meets.recordPassage (h.quiet (Quiet.jamBack (Quiet.ite (fun _ => (Quiet.refl s).emptyHolder.setResult) fun _ => Quiet.refl s)))

theorem Meets.shutterClosed {bk : Back} (h : Meets l s) : Meets l (shutterClosed bk s) :=
  Meets.recordPassage (h.quiet (Quiet.refl s).shutterSeenClosed.enterReadyBack)

theorem Meets.closeFailed {bk : Back} (h : Meets l s) : Meets l (closeFailed bk s) := by
  unfold Machine.closeFailed
  dsimp only
  split
  · next r hr =>
    exact Meets.recordPassage (h.quiet (Quiet.jamBack (Quiet.ite
      (fun _ => (Quiet.refl s).setShot (by rw [hr]; rfl)) fun _ => Quiet.refl s)))
  · exact Meets.recordPassage (h.quiet (Quiet.refl s).jamBack)

theorem Meets.openLid (h : Meets l s) : Meets l (openLid s) := by
  have abandoned : Quiet s (abandonScan { s with lidOpen := true }) := Quiet.abandonScan ((Quiet.refl s).same rfl rfl rfl rfl)
  have dark := Quiet.ite (c := (abandonScan { s with lidOpen := true }).lamp.mode = .meterOn) (fun _ => abandoned.endPulse)
    fun _ => abandoned
  exact Meets.reachBoundary (h.quiet (Quiet.holdStand (Quiet.ite (fun _ => dark.cutPulse) fun _ => dark)))

theorem Meets.enterSag (h : Meets l s) : Meets l (enterSag s) :=
  Meets.reachBoundary (h.quiet (Quiet.abandonScan (Quiet.ite (fun _ => (Quiet.refl s).raise.cutPulse)
    fun _ => (Quiet.refl s).raise)))

theorem Meets.sample {c : Nat} (h : Meets l s) : Meets l (sample c s) := by
  have sampled : Meets l { s with supply := nextSupply s c } := h.quiet ((Quiet.refl s).same rfl rfl rfl rfl)
  exact ite (fun _ => sampled.enterSag) fun _ => sampled

theorem Meets.openDoor {bk : Back} (h : Meets l s) : Meets l (openDoor bk s) := by
  have opened : Quiet s (setGateFrame bk 0 (retireLive bk .doorOpened (doorState bk (endExposureOf bk (dropShutter bk
      (setLevels bk { (s.back bk).levels with doorOpen := true } s)))))) :=
    (Quiet.refl s).setLevels.dropShutter.endExposureOf.doorState.retireLive.setGateFrame
  exact Meets.failShot (ite (fun _ => (h.quiet opened).endRewindTask) fun _ => h.quiet opened)

theorem Meets.closeDoor {bk : Back} {c f : Bool} (h : Meets l s) : Meets l (closeDoor bk c f s) :=
  ite (fun _ => (h.quiet (Quiet.refl s).setLevels.enterBack).lookForSheet) fun _ => h.quiet (Quiet.refl s).setLevels

theorem Meets.shortRoll {bk : Back} {sh : Sheet} (h : Meets l s) : Meets l (shortRoll bk sh s) :=
  Meets.capacityWasCut (h.quiet (Quiet.refl s).stopMotor.cutCapacity.enterRollEnd)

theorem Meets.stallWinding {bk : Back} (h : Meets l s) : Meets l (stallWinding bk s) := by
  unfold Machine.stallWinding
  split
  · exact Meets.failShot (ite (fun _ => h.shortRoll) fun _ => h.quiet (Quiet.refl s).jamBack)
  · exact (h.quiet (Quiet.refl s).jamBack).failShot

theorem Meets.endRewind {bk : Back} (h : Meets l s) : Meets l (endRewind bk s) :=
  Meets.endRewindTask (h.quiet (Quiet.refl s).stopMotor.retireLive.enterBack.setGateFrame)

theorem Meets.replyTimedOut (h : Meets l s) : Meets l (replyTimedOut s) :=
  ite (fun _ => ite (fun _ => h.skipHead.quiet (Quiet.refl _).losePrinter) fun _ => h.skipHead.quiet (Quiet.refl _).enterReady)
    fun _ => ite (fun _ => h.quiet (Quiet.refl s).losePrinter) fun _ => h.quiet (Quiet.refl s).resendHead

/-! ### Every command and every step -/

/-- A command answers a next state that meets the law. -/
def AnswersWith (l : Law) (r : Result) : Prop := ∃ t, r = .next t ∧ Meets l t

theorem AnswersWith.intro {u : State} (h : Meets l u) : AnswersWith l (.next u) := ⟨u, rfl, h⟩

/-- A command that acts under a condition, and changes nothing otherwise. -/
theorem AnswersWith.guard {c : Prop} [Decidable c] {u : State} (h : Meets l s) (k : c → Meets l u) :
    AnswersWith l (.next (if c then u else s)) := .intro (Meets.ite k fun _ => h)

/-- A command that makes a quiet change under a condition. -/
theorem AnswersWith.quiet {c : Prop} [Decidable c] {u : State} (h : Meets l s) (q : Quiet s u) :
    AnswersWith l (.next (if c then u else s)) := .guard h fun _ => h.quiet q

theorem answers_resets {i : Instr} (h : Meets l s)
    (hi : i = .standResetEnd ∨ i = .powerOnReset ∨ i = .lineReset ∨ i = .resetRelease ∨ ∃ x, i = .zeroingEnd x) :
    AnswersWith l (exec i s) := by
  rcases hi with rfl | rfl | rfl | rfl | ⟨x, rfl⟩
  · exact .quiet h (Quiet.refl s).endStandReset
  · exact .intro h.holdInReset
  · exact .intro h.holdInReset
  · refine .intro ?_
    split
    · next c hc =>
      refine h.step id (fun _ hs => hands_same hs rfl rfl) ?_ fun _ _ _ hl => ?_
      · unfold isLive
        rw [hc]
      · unfold isLive at hl
        rw [hc] at hl
        exact absurd hl (by simp)
    all_goals exact h
  · refine .intro ?_
    split
    · exact meets_endZeroing l _ x s
    all_goals exact h

/-- Every command keeps the laws. -/
theorem answers_exec (i : Instr) (h : Meets l s) : AnswersWith l (exec i s) := by
  have q := Quiet.refl s
  cases i with
  | hostMemoryWrite addr value => exact .intro h.hostWrite
  | noticeRead => exact .intro (Meets.ite (fun _ => h.quiet q.readNotice) fun _ => h.quiet (q.same rfl rfl rfl rfl))
  | noticeWrite value => exact .intro h.hostWriteRegister
  | noticeEnWrite value => exact .intro h.hostWriteRegister
  | run => exact .intro h.hostWriteRegister
  | hold => exact .intro h.hostWriteRegister
  | standReset => exact .intro h.hostWriteRegister
  | ignoredRegisterWrite reg value => exact .intro h.hostWriteRegister
  | standResetEnd => exact answers_resets h (.inl rfl)
  | powerOnReset => exact answers_resets h (.inr (.inl rfl))
  | lineReset => exact answers_resets h (.inr (.inr (.inl rfl)))
  | resetRelease => exact answers_resets h (.inr (.inr (.inr (.inl rfl))))
  | zeroingEnd x => exact answers_resets h (.inr (.inr (.inr (.inr ⟨x, rfl⟩))))
  | slotMarkTake => exact .guard h fun _ => h.takeSlotMark
  | sheetMarkTake sheet => exact .guard h fun _ => h.takeSheetMark
  | settle account => exact .quiet h q.takeSettleMark
  | take => exact .guard h fun _ => h.takeFrom _
  | shotChoice => exact .guard h fun _ => h.shotChoice
  | feederPositionPulse => exact .guard h fun _ => (h.quiet q.feederPulse).feederArrived
  | originalPresentTest present =>
    have level : Meets l { s with originalPresent := present } := h.quiet (q.same rfl rfl rfl rfl)
    exact .guard h fun _ => Meets.ite (fun _ => level.testOriginal) fun _ => level
  | feederMoveTimeout => exact .guard h fun _ => h.feederTimedOut
  | feederHomeSwitch =>
    have level : Quiet s { s with feeder := { s.feeder with home := true } } := q.same rfl rfl rfl rfl
    exact .guard h fun _ => Meets.ite (fun _ => (h.quiet level.feederHomed).feederArrived.quiet (Quiet.refl _).tryEndStartUp)
      fun _ => h.quiet level
  | feederHomingTimeout => exact .quiet h q.stopFeeder.tryEndStartUp
  | meteringScanStart => exact .quiet h q.beginScan
  | darkRound => exact .quiet h q.requestRound
  | meterPulseRequest => exact .guard h fun _ => h.requestMeter
  | litRound => exact .quiet h q.requestRound
  | meteringConversion code => exact .quiet h (Quiet.ite (fun _ => q.convert) fun _ => q).endConversion
  | meterPulseEnd =>
    exact .guard h fun _ => Meets.ite (fun _ => (h.quiet q.endPulse).compute) fun _ => h.quiet q.endPulse
  | carriageEndSwitch line => exact .guard h fun _ => h.reachLine
  | shiftTimeout => exact .guard h fun _ => h.shiftTimedOut
  | homingTimeout => exact .guard h fun _ => (h.quiet q.carriageFault).reachBoundary.quiet (Quiet.refl _).tryEndStartUp
  | settleDelayEnd => exact .quiet h q.armFrame
  | shutterOpenCommand => exact .quiet h q.openShutter
  | shutterOpenSwitch back => exact .quiet h (Quiet.ite (fun _ => q.shutterLevels.shutterOpened) fun _ => q.shutterLevels)
  | shutterOpenTimeout back => exact .guard h fun _ => h.openFailed
  | lampWaitEnd => exact .quiet h q.switchOn
  | exposePulseEnd => exact .quiet h q.endPulse.reportPulse
  | shutterCloseSwitch back =>
    exact .guard h fun _ => Meets.ite (fun _ => (h.quiet q.shutterLevels).shutterClosed) fun _ =>
      h.quiet (Quiet.ite (fun _ => q.shutterLevels.staleClosed) fun _ => q.shutterLevels)
  | shutterCloseTimeout back =>
    exact .intro (Meets.ite (fun _ => h.closeFailed) fun _ => h.quiet (Quiet.ite (fun _ => q.jamBack) fun _ => q))
  | lidOpening => exact .guard h fun _ => h.openLid
  | lidClosing => exact .quiet h (q.same rfl rfl rfl rfl)
  | supplySample code => exact .guard h fun _ => h.sample.quiet (Quiet.refl _).endConversion
  | lampSenseSample code => exact .quiet h (Quiet.ite (fun _ => q.senseLamp) fun _ => q).endConversion
  | doorOpening back => exact .guard h fun _ => h.openDoor
  | doorClosing back cassette filmOut => exact .guard h fun _ => h.closeDoor
  | motorStart back => exact .quiet h q.startMotor
  | rampStep back => exact .quiet h q.setMotor
  | perforation back => exact .quiet h q.perforate
  | stallTimeout back =>
    exact .intro (Meets.ite (fun _ => h.quiet q.stallLoading) fun _ => Meets.ite (fun _ => h.stallWinding) fun _ => h)
  | filmOutSwitch back => exact .quiet h (Quiet.ite (fun _ => q.setLevels.setMotor) fun _ => q.setLevels)
  | leaderRunEnd back => exact .guard h fun _ => h.endRewind
  | rewindTimeout back => exact .guard h fun _ => (h.quiet q.jamBack).endRewindTask
  | transmissionEnd => exact .quiet h q.endTransmission
  | replyTimeout => exact .guard h fun _ => h.replyTimedOut
  | inquiryTimeout => exact .quiet h q.sendInquire
  | ack sequence => exact .guard h fun _ => (h.quiet q.setReceiver).takeAck
  | nak sequence => exact .guard h fun _ => (h.quiet q.setReceiver).takeNak
  | readyReply => exact .guard h fun _ => h.receiveByte
  | receiveError fault => exact .quiet h (by cases fault <;> exact q.discardByte)
  | lineBreak => exact .guard h fun _ => h.takeBreak
  | receivedByte byte => exact .guard h fun _ => h.receiveByte
  | lineReturnedToOne => exact .quiet h (q.same rfl rfl rfl rfl)

/-- Every step keeps the laws. -/
theorem Meets.of_step (h : Meets l s) (hs : Machine.step s = .next t) : Meets l t := by
  unfold Machine.step at hs
  split at hs
  · cases hs
    exact h.quiet (Quiet.tick s)
  · next c rest _ =>
    obtain ⟨u, hu, hm⟩ := answers_exec c (h.quiet (t := { s with pending := rest }) ((Quiet.refl s).same rfl rfl rfl rfl))
    rw [hu] at hs
    cases hs
    exact hm

end Sys2Proof.Proofs

namespace Sys2Proof.Proofs

open Sys2Proof.Machine Sys2Proof.Safety

/-- Settles O54: memory changes by writes inside the 32 KiB and by zeroing alone, whatever the step. -/
theorem memoryFormIsKept : Obligations.MemoryFormIsKept := fun _ _ h hs => Meets.of_step (l := .form) h hs

/-- Settles O57: hands, intake queue and run list change together, and work leaves the gate before its order ends. -/
theorem handsLawIsKept : Obligations.HandsLawIsKept := fun _ _ h hs => Meets.of_step (l := .hands) h hs

/-- Settles O58: a charge and a release lower the order and its account alike, and an order ends with nothing left. -/
theorem commitmentLawIsKept : Obligations.CommitmentLawIsKept := fun _ _ h hs => Meets.of_step (l := .commitments) h hs

end Sys2Proof.Proofs
end

section
/-! SUPPORT. Common memory and the board watch: what a read finds after the writes of an operation, the guard, the marks, and the
hands (01, sections 1.3 to 1.7). -/

namespace Sys2Proof.Proofs

open Sys2Proof Sys2Proof.Machine Sys2Proof.Safety Sys2Proof.Laws Sys2Proof.Claims

variable {s t u : State} {n m : Slot}

/-! ### Reading beside a write -/

theorem apart_within {lo k a j : Nat} (h : a + j ≤ lo ∨ lo + k ≤ a) : Apart (within lo k) a j :=
  fun _ _ _ hk => by obtain ⟨_, _⟩ := hk; omega

/-- A write inside the bytes that a statement names keeps the others. -/
theorem apart_others {W : Nat → Prop} {a j : Nat} (h : ∀ b, a ≤ b → b < a + j → W b) : Apart (fun b => ¬ W b) a j :=
  fun b hb hb' k => k (h b hb hb')

theorem Keeps.word {a : Nat} (h : Keeps (within a 2) s t) : Machine.wordAt t a = Machine.wordAt s a :=
  h.wordAt ⟨by omega, by omega⟩ ⟨by omega, by omega⟩

theorem Keeps.long {a : Nat} (h : Keeps (within a 4) s t) : Machine.longAt t a = Machine.longAt s a :=
  h.longAt ⟨by omega, by omega⟩ ⟨by omega, by omega⟩ ⟨by omega, by omega⟩

/-! ### Flags -/

theorem getLsbD_mask (f g : Flag) : f.mask.getLsbD g.bit = decide (f = g) := by
  cases f <;> cases g <;> decide

/-- Raising a flag leaves every other flag and seen mark (R190). -/
theorem raisesOnly_of_control {f : Flag} (h : t.control = (raise f s).control) : RaisesOnly f s t := by
  obtain ⟨hset, hseen⟩ := flag_raised s f
  unfold RaisesOnly
  unfold flagSet flagSeen at *
  rw [h]
  refine ⟨hset, hseen, fun g hg => ?_⟩
  have hb : g.bit < 11 := by cases g <;> decide
  have clear : f.mask.getLsbD g.bit = false := by rw [getLsbD_mask, decide_eq_false (Ne.symm hg)]
  simp only [raise, BitVec.getLsbD_or, BitVec.getLsbD_and, BitVec.getLsbD_not, clear, hb]
  simp

theorem keepsStartUp_of_control {f : Flag} (h : t.control = (raise f s).control) : KeepsStartUp s t := by
  unfold KeepsStartUp
  rw [h]
  exact ⟨rfl, rfl, rfl, rfl⟩

/-! ### The laws at reset -/

theorem exposureLaw_reset : ExposureLaw State.reset := by
  refine ⟨fun bk => ?_, fun bk => ?_, fun h => absurd rfl h, fun h => absurd h (by decide)⟩
  · cases bk <;> exact fun h => nomatch h
  · cases bk <;> exact fun h => absurd h (by decide)

theorem handsLaw_reset : HandsLaw State.reset := hands_empty rfl rfl

/-- Settles O60: the part held in a reset has no order and no amount, drives and lights nothing, and is not live. -/
theorem lawsHoldAtReset : Obligations.LawsHoldAtReset := by
  refine ⟨wf_reset, ⟨fun _ => rfl, fun h => absurd rfl h⟩, exposureLaw_reset, handsLaw_reset, ?_, ?_⟩
  · exact ⟨wf_reset, handsLaw_reset, fun h => Bool.noConfusion h⟩
  · exact ⟨wf_reset, handsLaw_reset, exposureLaw_reset, fun h => Bool.noConfusion h⟩

/-! ### The guard (R14 to R16) -/

theorem slotRuns_iff (s : State) (n : Slot) : slotRuns s n = true ↔ recordedHand s n = .taken ∨ recordedHand s n = .withdraw := by
  simp [slotRuns]

theorem sheetHeld_iff (s : State) (sh : Sheet) : sheetHeld s sh = true ↔ sheetHand s sh = .live ∨ sheetHand s sh = .retired := by
  simp [sheetHeld]

theorem sheetOf_sheetBase (sh : Sheet) {j : Nat} (hj : j < 0x400) : sheetOf (sheetBase sh + j) = sh := by
  have place : (sheetBase sh + j - Config.sheets) / Config.recordStride = sheetIndex sh := by
    show (sheetBase sh + j - 0x4000) / 0x400 = sheetIndex sh
    rw [sheetBase_eq]
    omega
  unfold sheetOf
  dsimp only
  rw [place]
  obtain ⟨bk, w⟩ := sh
  cases bk <;> cases w <;> rfl

theorem inRunGuard_iff (a : Nat) : inRunGuard a = true ↔ 0x5800 ≤ a ∧ a < 0x5940 ∨ 0x5A00 ≤ a ∧ a < 0x5C40 := by
  unfold inRunGuard
  simp only [Bool.or_eq_true, Bool.and_eq_true, decide_eq_true_eq]
  exact Iff.rfl

theorem inPartTable_iff (a : Nat) : inPartTable a = true ↔ 0x5C40 ≤ a ∧ a < 0x5C60 ∨ 0x5D00 ≤ a ∧ a < 0x5E00 := by
  unfold inPartTable
  simp only [Bool.or_eq_true, Bool.and_eq_true, decide_eq_true_eq]
  exact Iff.rfl

/-- Settles O3, region by region of the map. -/
theorem guardFollowsTheMap : Obligations.GuardFollowsTheMap := by
  unfold Obligations.GuardFollowsTheMap
  intro s
  refine ⟨fun n off hoff _ => ?_, fun sh off hoff _ => ?_, fun i off hoff _ => ?_, fun a ha _ _ => ?_⟩
  · have hn := n.isLt
    have hm : (slotBase n + off) % 0x400 = off := by rw [slotBase_eq]; omega
    rw [guarded_slot (by rw [slotBase_eq]; omega), slotWordGuarded_iff, hm, slotOf_slotBase n hoff, slotRuns_iff]
  · have hi := sheetIndex_lt sh
    have hm : (sheetBase sh + off) % 0x400 = off := by rw [sheetBase_eq]; omega
    rw [guarded_sheet (by rw [sheetBase_eq]; omega) (by rw [sheetBase_eq]; omega), sheetWordGuarded_iff, hm,
      sheetOf_sheetBase sh hoff, sheetHeld_iff]
  · have hi := i.isLt
    have hm : (accountBase i.val + off) % 0x20 = off := by rw [accountBase_eq]; omega
    rw [guarded_account (by rw [accountBase_eq]; omega) (by rw [accountBase_eq]; omega), accountWordGuarded_iff, hm]
  · rw [guarded_above ha, Bool.or_eq_true, Bool.and_eq_true, inRunGuard_iff, inPartTable_iff, decide_eq_true_eq, and_comm]
    constructor
    · rintro (⟨hr, h | h⟩ | h)
      · exact .inl ⟨hr, .inl h.2⟩
      · exact .inl ⟨hr, .inr h⟩
      · exact .inr h
    · rintro (⟨hr, h | h⟩ | h)
      · exact .inl ⟨hr, .inl ⟨ha, h⟩⟩
      · exact .inl ⟨hr, .inr h⟩
      · exact .inr h

/-! ### Host writes and their marks (R1, R6, R14) -/

theorem mem_addMember {α : Type} [DecidableEq α] {xs : List α} {x y : α} : y ∈ addMember xs x ↔ y ∈ xs ∨ y = x := by
  unfold addMember
  split
  · next h => exact ⟨.inl, fun c => c.elim id fun e => e ▸ h⟩
  · simp

theorem nodup_addMember {α : Type} [DecidableEq α] {xs : List α} {x : α} (h : xs.Nodup) : (addMember xs x).Nodup := by
  unfold addMember
  split
  · exact h
  · next hx => exact List.nodup_append.mpr ⟨h, List.nodup_singleton _, fun a ha b hb e =>
      hx (List.mem_singleton.mp hb ▸ e ▸ ha)⟩

theorem prefix_addMember {α : Type} [DecidableEq α] (xs : List α) (x : α) : xs <+: addMember xs x := by
  unfold addMember
  split
  · exact List.prefix_refl xs
  · exact List.prefix_append xs [x]

theorem slotOf_eq_iff {a : Nat} (h : a < 0x4000) (ha : a % 0x400 = 0) : n = slotOf a ↔ a = slotBase n := by
  have hn := n.isLt
  have hv : (slotOf a).val = a / 0x400 % 16 := rfl
  rw [slotBase_eq, Fin.ext_iff, hv]
  omega

theorem accountOf_eq_iff {a : Nat} {i : Account} (h : 0x5000 ≤ a) (h' : a < 0x5800) (ha : a % 0x20 = 0x0C) :
    i = accountOf a ↔ a = accountBase i.val + 0x0C := by
  have hi := i.isLt
  have hv : (accountOf a).val = (a - 0x5000) / 0x20 % 64 := rfl
  rw [accountBase_eq, Fin.ext_iff, hv]
  omega

theorem sheetBase_injective {x y : Sheet} (h : sheetBase x = sheetBase y) : x = y := by
  rw [← sheetOf_sheetBase x (j := 0) (by decide), ← sheetOf_sheetBase y (j := 0) (by decide), h]

theorem sheetBase_sheetOf {a : Nat} (h : 0x4000 ≤ a) (h' : a < 0x5000) (ha : a % 0x400 = 0) : sheetBase (sheetOf a) = a := by
  obtain ⟨i, hi, rfl⟩ : ∃ i, i < 4 ∧ a = 0x4000 + i * 0x400 := ⟨(a - 0x4000) / 0x400, by omega, by omega⟩
  interval_cases i <;> rfl

theorem sheetOf_eq_iff {a : Nat} {sh : Sheet} (h : 0x4000 ≤ a) (h' : a < 0x5000) (ha : a % 0x400 = 0) :
    sh = sheetOf a ↔ a = sheetBase sh := by
  constructor
  · rintro rfl
    exact (sheetBase_sheetOf h h' ha).symm
  · intro e
    exact sheetBase_injective (e.symm.trans (sheetBase_sheetOf h h' ha).symm)

/-- The marks that a served host write sets (R6). -/
structure MarksAt (a : Nat) (w v : Watch) : Prop where
  held : v.settleHeld = w.settleHeld
  order : w.slotOrder <+: v.slotOrder
  once : w.slotOrder.Nodup → v.slotOrder.Nodup
  slots : ∀ n : Slot, n ∈ v.slotOrder ↔ n ∈ w.slotOrder ∨ a = slotBase n
  sheets : ∀ sh : Sheet, sh ∈ v.sheetMarks ↔ sh ∈ w.sheetMarks ∨ a = sheetBase sh
  settles : ∀ i : Account, i ∈ v.settleMarks ↔ i ∈ w.settleMarks ∨ a = accountBase i.val + 0x0C

/-- A part of the marks that the write does not watch. -/
theorem unmarked {α : Type} {xs : List α} {P : α → Prop} (h : ∀ x, ¬ P x) (x : α) : x ∈ xs ↔ x ∈ xs ∨ P x := by simp [h x]

theorem slotBase_ne {a : Nat} (h : 0x4000 ≤ a ∨ a % 0x400 ≠ 0) (n : Slot) : ¬ a = slotBase n := by
  have := n.isLt
  rw [slotBase_eq]
  omega

theorem sheetBase_ne {a : Nat} (h : a < 0x4000 ∨ 0x5000 ≤ a ∨ a % 0x400 ≠ 0) (sh : Sheet) : ¬ a = sheetBase sh := by
  have := sheetIndex_lt sh
  rw [sheetBase_eq]
  omega

theorem settleWord_ne {a : Nat} (h : a < 0x5000 ∨ 0x5800 ≤ a ∨ a % 0x20 ≠ 0x0C) (i : Account) :
    ¬ a = accountBase i.val + 0x0C := by
  have := i.isLt
  rw [accountBase_eq]
  omega

/-- A watched word is the hand of a slot, the hand of a sheet, or the low settle word of an account (R6). -/
theorem marksAt_markWritten (a : Nat) (s : State) : MarksAt a s.watch (markWritten a s).watch := by
  unfold markWritten
  split
  · next h =>
    have hand : a < 0x4000 ∧ a % 0x400 = 0 := h
    exact
      { held := rfl
        order := prefix_addMember _ _
        once := nodup_addMember
        slots := fun n => by rw [mem_addMember, slotOf_eq_iff (by omega) (by omega)]
        sheets := unmarked (sheetBase_ne (by omega))
        settles := unmarked (settleWord_ne (by omega)) }
  · next h =>
    have noHand : ¬ (a < 0x4000 ∧ a % 0x400 = 0) := h
    split
    · next h =>
      have hand : 0x4000 ≤ a ∧ a < 0x5000 ∧ a % 0x400 = 0 := h
      exact
        { held := rfl
          order := List.prefix_refl _
          once := id
          slots := unmarked (slotBase_ne (by omega))
          sheets := fun sh => by rw [mem_addMember, sheetOf_eq_iff (by omega) (by omega) (by omega)]
          settles := unmarked (settleWord_ne (by omega)) }
    · next h =>
      have noSheet : ¬ (0x4000 ≤ a ∧ a < 0x5000 ∧ a % 0x400 = 0) := h
      split
      · next h =>
        have settle : 0x5000 ≤ a ∧ a < 0x5800 ∧ a % 0x20 = 0x0C := h
        exact
          { held := rfl
            order := List.prefix_refl _
            once := id
            slots := unmarked (slotBase_ne (by omega))
            sheets := unmarked (sheetBase_ne (by omega))
            settles := fun i => by rw [mem_addMember, accountOf_eq_iff (by omega) (by omega) (by omega)] }
      · next h =>
        have noSettle : ¬ (0x5000 ≤ a ∧ a < 0x5800 ∧ a % 0x20 = 0x0C) := h
        exact
          { held := rfl
            order := List.prefix_refl _
            once := id
            slots := unmarked (slotBase_ne (by omega))
            sheets := unmarked (sheetBase_ne (by omega))
            settles := unmarked (settleWord_ne (by omega)) }

theorem markWritten_only_watch (a : Nat) (s : State) : markWritten a s = { s with watch := (markWritten a s).watch } := by
  unfold markWritten
  split
  · rfl
  · split
    · rfl
    · split <;> rfl

theorem hostWrite_stored {addr : Addr} {v : Word} (hl : isLive s = true) (hg : guarded s (evenAddr addr) = false) :
    hostWrite addr v s = markWritten (evenAddr addr) (setWord (evenAddr addr) v.toNat s) := by
  unfold hostWrite
  dsimp only
  rw [if_pos hl, if_neg (by simp [hg])]

theorem hostWrite_dropped {addr : Addr} {v : Word} (hl : isLive s = true) (hg : guarded s (evenAddr addr) = true) :
    hostWrite addr v s = dropWrite (evenAddr addr) s := by
  unfold hostWrite
  dsimp only
  rw [if_pos hl, if_pos hg]

theorem hostStore_spec (addr : Addr) (v : Word) (hm : MemoryOk s) (hl : isLive s = true)
    (hg : guarded s (evenAddr addr) = false) :
    Answers (.hostMemoryWrite addr v) s fun t =>
      wordAt t (evenAddr addr) = v.toNat ∧ KeepsBytes s t (within (evenAddr addr) 2)
        ∧ t = { s with mem := t.mem, watch := t.watch } ∧ MarksAt (evenAddr addr) s.watch t.watch := by
  have hlt := evenAddr_lt addr
  have hv := v.isLt
  refine ⟨_, rfl, ?_⟩
  rw [hostWrite_stored hl hg]
  have marks := marksAt_markWritten (evenAddr addr) (setWord (evenAddr addr) v.toNat s)
  rw [markWritten_only_watch]
  refine ⟨?_, (Keeps.refl s).setWord (apart_others fun b hb hb' => ⟨hb, hb'⟩), ?_, marks⟩
  · exact (wordAt_setWord_same hm hlt).trans (Nat.mod_eq_of_lt hv)
  · rw [setWord_only_mem]

theorem hostDrop_spec (addr : Addr) (v : Word) (hm : MemoryOk s) (hl : isLive s = true)
    (hg : guarded s (evenAddr addr) = true) :
    Answers (.hostMemoryWrite addr v) s fun t =>
      wordAt t 0x5D12 = evenAddr addr ∧ KeepsBytes s t (within 0x5D12 2) ∧ RaisesOnly .guardHit s t
        ∧ t = { s with mem := t.mem, control := t.control } ∧ KeepsStartUp s t
        ∧ t.control.stand = s.control.stand ∧ t.control.cause = s.control.cause := by
  have hlt := evenAddr_lt addr
  refine ⟨_, rfl, ?_⟩
  rw [hostWrite_dropped hl hg]
  have hc : (dropWrite (evenAddr addr) s).control = (raise .guardHit s).control := rfl
  refine ⟨?_, ?_, raisesOnly_of_control hc, ?_, keepsStartUp_of_control hc, rfl, rfl⟩
  · exact (wordAt_setWord_same (a := 0x5D12) (n := evenAddr addr) hm (by decide)).trans (Nat.mod_eq_of_lt (by omega))
  · exact ((Keeps.refl s).setWord (apart_others fun b hb hb' => ⟨hb, hb'⟩)).raise
  · unfold dropWrite raise
    rw [setWord_only_mem]

theorem ignoredWrite_spec (reg : Register) (v : Word) (s : State)
    (h : reg = .ident ∨ reg = .stand ∧ (v ≠ 0x0001 ∧ v ≠ 0x0002 ∧ v ≠ 0xC303 ∨ atWork s = false)) :
    exec (.ignoredRegisterWrite reg v) s = .next s := by
  show Host.Outcome.next (hostWriteRegister reg v s) = .next s
  rcases h with rfl | ⟨rfl, ⟨h1, h2, h3⟩ | h⟩
  · rfl
  · unfold hostWriteRegister
    dsimp only
    rw [if_neg h1, if_neg h2, if_neg h3]
  · unfold hostWriteRegister commandRun commandHold commandStandReset
    simp [h]

/-- The register select decodes address bits 1 and 2 alone (R1). -/
theorem registerAt_eq (a : Addr) :
    registerAt a = if a.toNat / 2 % 4 = 0 then .ident else if a.toNat / 2 % 4 = 1 then .notice
      else if a.toNat / 2 % 4 = 2 then .noticeEn else .stand := by
  have bit1 : a.getLsbD 1 = decide (a.toNat / 2 % 2 = 1) := by simp [BitVec.getLsbD, Nat.testBit_eq_decide_div_mod_eq]
  have bit2 : a.getLsbD 2 = decide (a.toNat / 4 % 2 = 1) := by simp [BitVec.getLsbD, Nat.testBit_eq_decide_div_mod_eq]
  unfold registerAt
  rw [bit1, bit2]
  obtain h | h | h | h : a.toNat / 2 % 4 = 0 ∨ a.toNat / 2 % 4 = 1 ∨ a.toNat / 2 % 4 = 2 ∨ a.toNat / 2 % 4 = 3 := by omega
  · rw [decide_eq_false (by omega), decide_eq_false (by omega), if_pos h]
  · rw [decide_eq_false (by omega), decide_eq_true (by omega), if_neg (by omega), if_pos h]
  · rw [decide_eq_true (by omega), decide_eq_false (by omega), if_neg (by omega), if_neg (by omega), if_pos h]
  · rw [decide_eq_true (by omega), decide_eq_true (by omega), if_neg (by omega), if_neg (by omega), if_neg (by omega)]

/-- The row of a register write does what the port does with it (R1). -/
theorem exec_registerWrite (reg : Register) (v : Word) (s : State) :
    exec (registerWrite reg v) s = .next (hostWriteRegister reg v s) := by
  cases reg with
  | ident => rfl
  | notice => rfl
  | noticeEn => rfl
  | stand =>
    unfold registerWrite
    dsimp only
    split
    · next h => rw [h]; rfl
    · split
      · next h => rw [h]; rfl
      · split
        · next h => rw [h]; rfl
        · rfl

/-- Settles O2: a stored write by its word and its mark, a dropped one by the guard address, and the register select by its two
address bits. -/
theorem hostWriteStoresOrIsDropped : Obligations.HostWriteStoresOrIsDropped := by
  unfold Obligations.HostWriteStoresOrIsDropped
  refine ⟨⟨fun addr v s hm hl hg => ?_, fun addr v s => hostDrop_spec addr v, fun addr v s hl => ?_⟩,
    fun reg v s h => ignoredWrite_spec reg v s h, fun a v s => ?_⟩
  · obtain ⟨t, ht, hword, hkeep, honly, hmarks⟩ := hostStore_spec addr v hm hl hg
    exact ⟨t, ht, hword, hkeep, honly, hmarks.held, hmarks.order, hmarks.once, hmarks.slots, hmarks.sheets, hmarks.settles⟩
  · show Host.Outcome.next (hostWrite addr v s) = .next s
    unfold hostWrite
    simp [hl]
  · rw [registerAt_eq]
    refine ⟨fun h => ?_, fun h => ?_, fun h => ?_, fun h => ?_, ?_, ?_⟩
    · rw [if_pos h]
    · simp [h]
    · simp [h]
    · simp [h]
    · rw [← registerAt_eq]
      rfl
    · rw [← registerAt_eq]
      exact exec_registerWrite _ v s

end Sys2Proof.Proofs
end

section
/-! SUPPORT. Slot marks, sheet marks, settle steps, and the end of a stand reset (01, sections 1.4 to 1.6; 09, section 9.6). -/

namespace Sys2Proof.Proofs

open Sys2Proof Sys2Proof.Machine Sys2Proof.Safety Sys2Proof.Laws Sys2Proof.Claims

variable {s t u : State} {n m : Slot}

theorem raise_control_of {f : Flag} (h : t.control = s.control) : (raise f t).control = (raise f s).control := by
  unfold raise
  rw [h]

/-! ### The end of a stand reset (R19, R195) -/

theorem settlePending_iff (s : State) (i : Account) :
    settlePending s i = true ↔ wordAt s (0x500C + 0x20 * i.val) ≠ 0 ∨ wordAt s (0x500E + 0x20 * i.val) ≠ 0 := by
  have low : accountBase i.val + 0x0C = 0x500C + 0x20 * i.val := by rw [accountBase_eq]; omega
  have high : accountBase i.val + 0x0E = 0x500E + 0x20 * i.val := by rw [accountBase_eq]; omega
  simp only [settlePending, low, high, Bool.or_eq_true, decide_eq_true_eq]

theorem mem_remark_settleMarks (s : State) (i : Account) :
    i ∈ (remark s).watch.settleMarks ↔ i ∈ s.watch.settleHeld ∨ i ∈ s.watch.settleMarks
      ∨ wordAt s (0x500C + 0x20 * i.val) ≠ 0 ∨ wordAt s (0x500E + 0x20 * i.val) ≠ 0 := by
  show i ∈ List.filter _ _ ↔ _
  rw [List.mem_filter, Bool.or_eq_true, Bool.or_eq_true, settlePending_iff, decide_eq_true_eq, decide_eq_true_eq]
  simp only [allAccounts, List.mem_finRange, true_and]
  tauto

theorem mem_allSheets (sh : Sheet) : sh ∈ allSheets := by
  obtain ⟨bk, w⟩ := sh
  cases bk <;> cases w <;> decide

/-- Settles O10: the end re-marks, clears the stand-reset mark, and reports the cause. -/
theorem standResetEndRemarks : Obligations.StandResetEndRemarks := by
  unfold Obligations.StandResetEndRemarks
  intro s hm hr ha hb
  have taken : resetTaken s = true := by simp [resetTaken, running, hr, ha, hb]
  refine ⟨endStandReset s, ?_, ?_, mem_allSheets, mem_remark_settleMarks s, rfl, rfl, ?_, ?_, ⟨rfl, rfl, rfl⟩, ?_⟩
  · show Host.Outcome.next (if resetTaken s then endStandReset s else s) = _
    rw [if_pos taken]
  · show (List.finRange 16).map Fin.val = List.range 16
    simp
  · exact byteAt_setByte_same (a := 0x5D02) (n := 3) (s := { remark s with control := _ }) hm (by decide)
  · exact ((Keeps.refl s).same rfl).report (apart_others fun b _ _ => by
      have : Config.report = 0x5D00 := rfl
      omega)
  · unfold endStandReset setResetCause
    rw [report_only_mem]
    rfl

/-! ### Settle steps (R181) -/

/-- What a settle step writes (R181, R182). -/
structure SettleWrites (s t : State) (b x y : Nat) : Prop where
  low : wordAt t (b + 0x0C) = 0
  high : wordAt t (b + 0x0E) = 0
  last : longAt t (b + 0x1C) = x
  spent : longAt t (b + 0x10) = y
  mark : wordAt t (b + 0x06) = 0
  others : KeepsBytes s t fun a => within (b + 0x06) 2 a ∨ within (b + 0x0C) 8 a ∨ within (b + 0x1C) 4 a

theorem settleStep_writes {i : Account} (hm : MemoryOk s) :
    SettleWrites s (settleStep i.val s) (accountBase i.val) (min (settleValue s i.val) (spent s i.val))
      (spent s i.val - min (settleValue s i.val) (spent s i.val)) := by
  have hi := i.isLt
  have hb := accountBase_eq i.val
  have hsize : Config.memorySize = 0x8000 := rfl
  have hspent : spent s i.val < 16777216 := longAt_lt s _
  have keptSpent : spent (setLong (accountBase i.val + 0x1C) (min (settleValue s i.val) (spent s i.val))
      (setWord (accountBase i.val + 0x0E) 0 (setWord (accountBase i.val + 0x0C) 0 s))) i.val = spent s i.val :=
    Keeps.long ((((Keeps.refl s).setWord (apart_within (by omega))).setWord (apart_within (by omega))).setLong
      (apart_within (by omega)))
  unfold settleStep
  dsimp only
  rw [keptSpent]
  unfold setSpent setSaturated
  have m1 := memoryOk_setWord (a := accountBase i.val + 0x0C) (n := 0) hm
  have m2 := memoryOk_setWord (a := accountBase i.val + 0x0E) (n := 0) m1
  have m3 := memoryOk_setLong (a := accountBase i.val + 0x1C) (n := min (settleValue s i.val) (spent s i.val)) m2
  have m4 := memoryOk_setLong (a := accountBase i.val + 0x10)
    (n := spent s i.val - min (settleValue s i.val) (spent s i.val)) m3
  refine ⟨?_, ?_, ?_, ?_, ?_, ?_⟩
  · exact (Keeps.word (((((Keeps.refl _).setWord (apart_within (by omega))).setLong (apart_within (by omega))).setLong
      (apart_within (by omega))).setWord (apart_within (by omega)))).trans
        (wordAt_setWord_same hm (by omega))
  · exact (Keeps.word ((((Keeps.refl _).setLong (apart_within (by omega))).setLong
      (apart_within (by omega))).setWord (apart_within (by omega)))).trans (wordAt_setWord_same m1 (by omega))
  · exact (Keeps.long (((Keeps.refl _).setLong (apart_within (by omega))).setWord (apart_within (by omega)))).trans
      (longAt_setLong_same m2 (by omega) (by omega))
  · exact (Keeps.long ((Keeps.refl _).setWord (apart_within (by omega)))).trans
      (longAt_setLong_same m3 (by omega) (by omega))
  · exact wordAt_setWord_same m4 (by omega)
  · exact ((((((Keeps.refl s).setWord (apart_others fun b _ _ => by omega)).setWord
      (apart_others fun b _ _ => by omega)).setLong (apart_others fun b _ _ => by omega)).setLong
        (apart_others fun b _ _ => by omega)).setWord (apart_others fun b _ _ => by omega))

/-- The state in which a settle step is made: its mark is taken. -/
def settleMarkTaken (i : Account) (s : State) : State :=
  { s with watch := { s.watch with settleMarks := dropMember s.watch.settleMarks i } }

/-- Settles O17: the writes of the settle step, in their order, do not meet. -/
theorem settleMovesTheSmallerAmount : Obligations.SettleMovesTheSmallerAmount := by
  unfold Obligations.SettleMovesTheSmallerAmount
  intro s i hm hw hi
  have writes := settleStep_writes (s := settleMarkTaken i s) (i := i) hm
  refine ⟨settleStep i.val (settleMarkTaken i s), ?_, writes.low, writes.high, writes.last, writes.spent, writes.mark, ?_, ?_,
    writes.others, ?_⟩
  · show Host.Outcome.next (if atWork s then takeSettleMark i s else s) = _
    rw [if_pos hw, takeSettleMark, if_pos hi]
    rfl
  · rw [settleStep_only_mem]
    show i ∉ dropMember s.watch.settleMarks i
    simp [mem_dropMember]
  · intro j hj
    rw [settleStep_only_mem]
    show j ∈ dropMember s.watch.settleMarks i ↔ _
    simp [mem_dropMember, hj]
  · rw [settleStep_only_mem]
    rfl

/-! ### Slot marks (R9) -/

theorem slotHandRule_same (h : handFound s n = (recordedHand s n).code) : slotHandRule n s = s := if_pos h

theorem slotHandRule_files (hr : recordedHand s n = .empty ∨ recordedHand s n = .done) (hf : handFound s n = 1) :
    slotHandRule n s = recordHand n .filed (setIntake (s.orders.intake ++ [n]) s) := by
  rcases hr with hr | hr <;> simp [slotHandRule, hr, hf, SlotHand.code]

theorem slotHandRule_retracts (hr : recordedHand s n = .filed) (hf : handFound s n = 0) :
    slotHandRule n s = recordHand n .empty (setIntake (dropMember s.orders.intake n) s) := by
  simp [slotHandRule, hr, hf, SlotHand.code]

theorem slotHandRule_empties (hr : recordedHand s n = .done) (hf : handFound s n = 0) :
    slotHandRule n s = recordHand n .empty s := by
  simp [slotHandRule, hr, hf, SlotHand.code]

theorem slotHandRule_restores (hr : recordedHand s n = .done) (hf : handFound s n = 4) :
    slotHandRule n s = setWord (slotBase n) 3 s := by
  simp [slotHandRule, hr, hf, SlotHand.code]

theorem slotHandRule_refuses (h : ¬ slotPairListed (recordedHand s n) (handFound s n)) :
    slotHandRule n s = raise .handFault (setWord (slotBase n) (recordedHand s n).code s) := by
  unfold slotPairListed at h
  push Not at h
  obtain ⟨hs, hf, hr, hw, hd⟩ := h
  unfold slotHandRule
  dsimp only
  rw [if_neg hs, if_neg fun c => hf c.1 c.2, if_neg fun c => hr c.1 c.2, if_neg fun c => hw c.1 c.2,
    if_neg fun c => (hd c.1).1 c.2, if_neg fun c => (hd c.1).2 c.2]

theorem handFound_setHand {x : SlotHand} (hm : MemoryOk s) : handFound (setWord (slotBase n) x.code s) n = x.code := by
  have hn := n.isLt
  have hb := slotBase_eq n
  have hsize : Config.memorySize = 0x8000 := rfl
  refine (wordAt_setWord_same hm (by omega)).trans (Nat.mod_eq_of_lt ?_)
  cases x <;> decide

theorem handFound_raise (f : Flag) (s : State) (n : Slot) : handFound (raise f s) n = handFound s n := rfl

/-- Taking the mark of slot n out of the order, and then changing no hand but its own. -/
theorem onlyHands_of {w : List Slot} (hw : w = dropMember s.watch.slotOrder n) (h : t.watch.slotOrder = w)
    (hr : t.orders.runList = s.orders.runList) (hc : t.orders.choice = s.orders.choice)
    (ho : ∀ m, m ≠ n → recordedHand t m = recordedHand s m) : OnlyHands n s t := by
  refine ⟨?_, fun m hm => ?_, hr, hc, ho⟩
  · rw [h, hw, mem_dropMember]; simp
  · rw [h, hw, mem_dropMember]; simp [hm]

/-- The state in which a slot mark is acted on: its mark is taken. -/
def slotMarkTaken (n : Slot) (s : State) : State :=
  { s with watch := { s.watch with slotOrder := dropMember s.watch.slotOrder n } }

theorem exec_slotMarkTake (h : SlotMarkDue s n) : exec .slotMarkTake s = .next (slotHandRule n (slotMarkTaken n s)) := by
  obtain ⟨hw, hhead⟩ := h
  show Host.Outcome.next (if atWork s then takeSlotMark s else s) = _
  rw [if_pos hw]
  obtain ⟨rest, hl⟩ : ∃ rest, s.watch.slotOrder = n :: rest := by
    cases hl : s.watch.slotOrder with
    | nil => simp [hl] at hhead
    | cons x rest => simp [hl] at hhead; exact ⟨rest, by rw [hhead]⟩
  unfold takeSlotMark
  rw [hl]
  show Host.Outcome.next (handleSlotMark n s) = _
  unfold handleSlotMark
  rw [if_pos (by simp [hl])]
  rfl

/-- Apart from a withdrawal of a taken order, a slot mark touches hands and the intake queue alone. -/
theorem onlyHands_slotMark (hw : ¬ (recordedHand s n = .taken ∧ handFound s n = 4)) :
    OnlyHands n s (slotHandRule n (slotMarkTaken n s)) := by
  unfold slotHandRule
  dsimp only
  split
  · exact onlyHands_of rfl rfl rfl rfl fun _ _ => rfl
  split
  · exact onlyHands_of rfl rfl rfl rfl fun m hm => recordedHand_other _ _ hm
  split
  · exact onlyHands_of rfl rfl rfl rfl fun m hm => recordedHand_other _ _ hm
  split
  · next h => exact absurd h hw
  split
  · exact onlyHands_of rfl rfl rfl rfl fun m hm => recordedHand_other _ _ hm
  split
  · exact onlyHands_of rfl rfl rfl rfl fun _ _ => rfl
  · exact onlyHands_of rfl rfl rfl rfl fun _ _ => rfl

/-- Settles O13, pair by pair of the table of R9. -/
theorem slotHandsFollowTheTable : Obligations.SlotHandsFollowTheTable := by
  unfold Obligations.SlotHandsFollowTheTable
  intro s n hm due hw
  refine ⟨_, exec_slotMarkTake due, onlyHands_slotMark hw, fun hf => ?_, fun hr hf => ?_, fun hr hf => ?_, fun hr hf => ?_,
    fun hr hf => ?_, fun hl => ?_⟩
  · rw [slotHandRule_same (s := slotMarkTaken n s) hf]
    rfl
  · rw [slotHandRule_files (s := slotMarkTaken n s) hr hf]
    exact ⟨recordedHand_same _ _ _, rfl, rfl⟩
  · rw [slotHandRule_retracts (s := slotMarkTaken n s) hr hf]
    refine ⟨recordedHand_same _ _ _, ?_, fun m hm => ?_, rfl⟩
    · show n ∉ dropMember s.orders.intake n
      simp [mem_dropMember]
    · show m ∈ dropMember s.orders.intake n ↔ _
      simp [mem_dropMember, hm]
  · rw [slotHandRule_empties (s := slotMarkTaken n s) hr hf]
    exact ⟨recordedHand_same _ _ _, rfl, rfl⟩
  · rw [slotHandRule_restores (s := slotMarkTaken n s) hr hf]
    refine ⟨handFound_setHand (x := .done) hm, rfl, ?_, by rw [setWord_only_mem]; rfl⟩
    exact ((Keeps.refl s).same (u := slotMarkTaken n s) rfl).setWord (apart_others fun b hb hb' => ⟨hb, hb'⟩)
  · rw [slotHandRule_refuses (s := slotMarkTaken n s) hl]
    have hc : (setWord (slotBase n) (recordedHand s n).code (slotMarkTaken n s)).control = s.control := setWord_control _ _ _
    have raised : (raise .handFault (setWord (slotBase n) (recordedHand s n).code (slotMarkTaken n s))).control
        = (raise .handFault s).control := raise_control_of hc
    refine ⟨(handFound_raise _ _ _).trans (handFound_setHand hm), rfl, raisesOnly_of_control raised, ?_,
      keepsStartUp_of_control raised, ?_⟩
    · exact (((Keeps.refl s).same (u := slotMarkTaken n s) rfl).setWord (apart_others fun b hb hb' => ⟨hb, hb'⟩)).raise
    · rw [raise, setWord_only_mem]
      rfl

end Sys2Proof.Proofs
end

section
/-! SUPPORT. Sheet marks (R11, R12). -/

namespace Sys2Proof.Proofs

open Sys2Proof Sys2Proof.Machine Sys2Proof.Safety Sys2Proof.Laws Sys2Proof.Claims

variable {s t u : State} {sh : Sheet}

theorem sheetHand_record_same (sh : Sheet) (x : SheetHand) (s : State) : sheetHand (recordSheetHand sh x s) sh = x := by
  obtain ⟨bk, w⟩ := sh
  cases bk <;> cases w <;> rfl

theorem eq_otherBack_of_ne {x bk : Back} (h : x ≠ bk) : x = otherBack bk := by
  cases bk <;> cases x <;> trivial

theorem sheetHand_record_other {sh y : Sheet} (x : SheetHand) (s : State) (hy : y ≠ sh) :
    sheetHand (recordSheetHand sh x s) y = sheetHand s y := by
  obtain ⟨bk, w⟩ := sh
  obtain ⟨bk', w'⟩ := y
  by_cases hb : bk' = bk
  · subst hb
    match w, w' with
    | .first, .first | .second, .second => exact absurd rfl hy
    | .first, .second | .second, .first => cases bk' <;> rfl
  · have untouched : (recordSheetHand ⟨bk, w⟩ x s).back bk' = s.back bk' := by
      rw [eq_otherBack_of_ne hb]
      cases w <;> exact back_setBack_other ..
    unfold sheetHand
    rw [untouched]

theorem keepsBacks_record (sh : Sheet) (x : SheetHand) (s : State) : KeepsBacks s (recordSheetHand sh x s) := by
  obtain ⟨bk, w⟩ := sh
  intro bk'
  cases bk <;> cases w <;> cases bk' <;> rfl

theorem recordSheetHand_only (sh : Sheet) (x : SheetHand) (s : State) :
    recordSheetHand sh x s
      = { s with backA := (recordSheetHand sh x s).backA, backB := (recordSheetHand sh x s).backB } := by
  obtain ⟨bk, w⟩ := sh
  cases bk <;> cases w <;> rfl

/-- Only recorded sheet hands of one sheet, the marks, common memory and the flags may differ. -/
structure OnlySheetHand (sh : Sheet) (s t : State) : Prop where
  others : KeepsOtherSheets sh s t
  backs : KeepsBacks s t
  rest : t = { s with watch := t.watch, backA := t.backA, backB := t.backB, mem := t.mem, control := t.control }

theorem OnlySheetHand.of_backs (ha : t.backA = s.backA) (hb : t.backB = s.backB)
    (h : t = { s with watch := t.watch, mem := t.mem, control := t.control }) : OnlySheetHand sh s t where
  others y _ := by
    obtain ⟨bk, w⟩ := y
    cases bk <;> simp only [sheetHand, State.back, ha, hb]
  backs bk := by cases bk <;> simp only [State.back, ha, hb]
  rest := by
    rw [ha, hb]
    exact h

theorem OnlySheetHand.record (h : OnlySheetHand sh s t) (x : SheetHand) : OnlySheetHand sh s (recordSheetHand sh x t) where
  others y hy := (sheetHand_record_other x t hy).trans (h.others y hy)
  backs bk := by rw [keepsBacks_record sh x t bk, h.backs bk]
  rest := by
    rw [recordSheetHand_only]
    exact congrArg (fun v : State => { v with
      backA := (recordSheetHand sh x t).backA, backB := (recordSheetHand sh x t).backB }) h.rest

/-- The state in which a sheet mark is acted on: its mark is taken. -/
def sheetMarkTaken (sh : Sheet) (s : State) : State :=
  { s with watch := { s.watch with sheetMarks := dropMember s.watch.sheetMarks sh } }

theorem onlySheetHand_taken (sh : Sheet) (s : State) : OnlySheetHand sh s (sheetMarkTaken sh s) := .of_backs rfl rfl rfl

theorem onlySheetHand_sheetHandRule (sh : Sheet) (s : State) : OnlySheetHand sh s (sheetHandRule sh (sheetMarkTaken sh s)) := by
  have taken := onlySheetHand_taken sh s
  unfold sheetHandRule
  dsimp only
  split
  · exact taken
  split
  · exact taken.record _
  split
  · exact taken.record _
  split
  · exact OnlySheetHand.record (s := s) (t := zeroBytes _ _ (sheetMarkTaken sh s)) (.of_backs rfl rfl rfl) _
  · exact .of_backs rfl rfl (by rw [raise, setWord_only_mem]; rfl)

theorem sheetHandRule_watch (sh : Sheet) (s : State) : (sheetHandRule sh s).watch = s.watch := by
  unfold sheetHandRule clearSheet
  dsimp only
  split
  · rfl
  split
  · exact recordSheetHand_watch ..
  split
  · exact recordSheetHand_watch ..
  split
  · exact recordSheetHand_watch ..
  · rfl

theorem examineSheet_idle (h : (s.back sh.back).state ≠ .awaitingSheet) : examineSheet sh s = s := by
  unfold examineSheet
  exact if_neg (by simp [isCandidate, h])

theorem lookForSheet_idle {bk : Back} (h : (s.back bk).state ≠ .awaitingSheet) : lookForSheet bk s = s := by
  unfold lookForSheet
  rw [examineSheet_idle (sh := ⟨bk, .first⟩) h, examineSheet_idle (sh := ⟨bk, .second⟩) h]

theorem exec_sheetMarkTake (h : SheetMarkDue s sh) :
    exec (.sheetMarkTake sh) s = .next (sheetHandRule sh (sheetMarkTaken sh s)) := by
  obtain ⟨hw, hmark, hstate⟩ := h
  have still : ((sheetHandRule sh (sheetMarkTaken sh s)).back sh.back).state ≠ .awaitingSheet := by
    rw [(onlySheetHand_sheetHandRule sh s).backs]
    exact hstate
  show Host.Outcome.next (if atWork s then takeSheetMark sh s else s) = _
  rw [if_pos hw, takeSheetMark, if_pos hmark, handleSheetMark, if_pos hmark]
  exact congrArg Host.Outcome.next (lookForSheet_idle still)

theorem sheetHandRule_same (h : sheetHandFound s sh = (sheetHand s sh).code) : sheetHandRule sh s = s := if_pos h

theorem sheetHandRule_prepares (hr : sheetHand s sh = .clear) (hf : sheetHandFound s sh = 1) :
    sheetHandRule sh s = recordSheetHand sh .prepared s := by
  simp [sheetHandRule, hr, hf, SheetHand.code]

theorem sheetHandRule_retracts (hr : sheetHand s sh = .prepared) (hf : sheetHandFound s sh = 0) :
    sheetHandRule sh s = recordSheetHand sh .clear s := by
  simp [sheetHandRule, hr, hf, SheetHand.code]

theorem sheetHandRule_clears (hr : sheetHand s sh = .retired) (hf : sheetHandFound s sh = 0)
    (ho : sheetOutstanding s sh = false) :
    sheetHandRule sh s = clearSheet sh s := by
  simp [sheetHandRule, hr, hf, ho, SheetHand.code]

theorem sheetHandRule_refuses
    (h : ¬ sheetPairListed (sheetHand s sh) (sheetHandFound s sh)
      ∨ sheetHand s sh = .retired ∧ sheetHandFound s sh = 0 ∧ sheetOutstanding s sh = true) :
    sheetHandRule sh s = raise .handFault (setWord (sheetBase sh) (sheetHand s sh).code s) := by
  rcases h with h | ⟨hr, hf, ho⟩
  · unfold sheetPairListed at h
    push Not at h
    obtain ⟨hs, hp, hc⟩ := h
    unfold sheetHandRule
    dsimp only
    rw [if_neg hs, if_neg fun c => hp c.1 c.2, if_neg fun c => hc (.inl c.1) c.2, if_neg fun c => hc (.inr c.1) c.2.1]
  · simp [sheetHandRule, hr, hf, ho, SheetHand.code]

theorem sheetHandFound_setHand {x : SheetHand} (hm : MemoryOk s) :
    sheetHandFound (setWord (sheetBase sh) x.code s) sh = x.code := by
  have hi := sheetIndex_lt sh
  have hb := sheetBase_eq sh
  have hsize : Config.memorySize = 0x8000 := rfl
  refine (wordAt_setWord_same hm (by omega)).trans (Nat.mod_eq_of_lt ?_)
  cases x <;> decide

theorem sheetHandFound_raise (f : Flag) (s : State) (sh : Sheet) : sheetHandFound (raise f s) sh = sheetHandFound s sh := rfl

/-- Settles O15, pair by pair of the table of R11. -/
theorem sheetHandsFollowTheTable : Obligations.SheetHandsFollowTheTable := by
  unfold Obligations.SheetHandsFollowTheTable
  intro s sh hm due
  obtain ⟨others, backs, rest⟩ := onlySheetHand_sheetHandRule sh s
  refine ⟨_, exec_sheetMarkTake due, ?_, others, backs, rest, fun hf => ?_, fun hr hf => ?_, fun hr hf => ?_,
    fun hr hf ho => ?_, fun hl => ?_⟩
  · rw [sheetHandRule_watch]
    show sh ∉ dropMember s.watch.sheetMarks sh
    simp [mem_dropMember]
  · rw [sheetHandRule_same (s := sheetMarkTaken sh s) hf]
    rfl
  · rw [sheetHandRule_prepares (s := sheetMarkTaken sh s) hr hf]
    exact ⟨sheetHand_record_same .., recordSheetHand_mem .., recordSheetHand_control ..⟩
  · rw [sheetHandRule_retracts (s := sheetMarkTaken sh s) hr hf]
    exact ⟨sheetHand_record_same .., recordSheetHand_mem .., recordSheetHand_control ..⟩
  · rw [sheetHandRule_clears (s := sheetMarkTaken sh s) hr hf ho]
    refine ⟨sheetHand_record_same .., recordSheetHand_control .., fun a => ?_⟩
    rw [clearSheet, recordSheetHand_mem]
    refine (read_zero (x := sheetBase sh + 6) (y := sheetBase sh + 0x2C0)).trans ?_
    rfl
  · rw [sheetHandRule_refuses (s := sheetMarkTaken sh s) hl]
    have hc : (setWord (sheetBase sh) (sheetHand (sheetMarkTaken sh s) sh).code (sheetMarkTaken sh s)).control = s.control :=
      setWord_control _ _ _
    refine ⟨?_, (sheetHandFound_raise ..).trans (sheetHandFound_setHand hm), raisesOnly_of_control (raise_control_of hc), ?_⟩
    · unfold sheetHand
      rw [back_raise, back_setWord]
      rfl
    · exact (((Keeps.refl s).same (u := sheetMarkTaken sh s) rfl).setWord (apart_others fun b hb hb' => ⟨hb, hb'⟩)).raise

end Sys2Proof.Proofs
end

section
/-! SUPPORT. Power-on and line resets, start-up, and the zeroing's end (R18, R94, R96, R197, R198). -/

namespace Sys2Proof.Proofs

open Sys2Proof Sys2Proof.Machine Sys2Proof.Safety Sys2Proof.Laws Sys2Proof.Claims

variable {s t u : State}

/-! ### The end of start-up (R198) -/

/-- A homing goes on. -/
abbrev HomingGoesOn (s : State) : Prop := s.carriage.state = .homing ∨ s.feeder.drive = .homing

/-- Start-up has ended, or goes on while a homing does, and nothing else has changed but the label unit's block. -/
structure StartUpTried (s t : State) : Prop where
  startUp : t.control.startUp = if HomingGoesOn s then .homing else .ended
  transmitter : t.labels.transmitter = if HomingGoesOn s then [] else [.inquire]
  printer : s.labels.printer = .unknown → t.labels.printer = .unknown
  control : t.control = { s.control with startUp := t.control.startUp }
  rest : t = { s with mem := t.mem, labels := t.labels, control := t.control }
  others : KeepsBytes s t fun a => a = 0x5D09
  memory : MemoryOk s → MemoryOk t

theorem enterInquiring_quietLine (p : PrinterState) (h : s.labels.transmitter = []) :
    (enterInquiring p s).mem = (report 0x09 p.code s).mem
      ∧ (enterInquiring p s).labels.printer = p
      ∧ (inquires p = true → (enterInquiring p s).labels.transmitter = [.inquire])
      ∧ enterInquiring p s
        = { s with mem := (enterInquiring p s).mem, labels := (enterInquiring p s).labels } := by
  have line : (enterPrinter p s).labels.transmitter = [] := by
    show (if inquires p then s.labels.transmitter else s.labels.transmitter.take 1 ++ _) = _
    rw [h]
    simp
  have sent : enterInquiring p s = setLine [.inquire] (enterPrinter p s) := if_pos line
  rw [sent]
  exact ⟨rfl, rfl, fun _ => rfl, rfl⟩

theorem startUpTried (hs : s.control.startUp = .homing) (ht : s.labels.transmitter = []) : StartUpTried s (tryEndStartUp s) := by
  unfold tryEndStartUp
  split
  · next h =>
    have goesOn : ¬ HomingGoesOn s := fun c => c.elim h.2.1 h.2.2
    obtain ⟨hmem, hprinter, hline, honly⟩ :=
      enterInquiring_quietLine (s := { s with control := { s.control with startUp := .ended } }) .unknown ht
    refine ⟨?_, ?_, fun _ => hprinter, ?_, ?_, ?_, fun hm => ?_⟩
    · rw [if_neg goesOn, honly]
    · rw [if_neg goesOn, hline rfl]
    · rw [honly]
    · rw [honly]
    · refine ((Keeps.refl s).report (a := 0x09) (n := PrinterState.unknown.code) (apart_others fun b _ _ => ?_)).same hmem
      have : Config.report = 0x5D00 := rfl
      omega
    · show Memory.wf _ = true
      rw [hmem]
      exact memoryOk_report (s := { s with control := { s.control with startUp := .ended } }) hm
  · next h =>
    have goesOn : HomingGoesOn s := by
      by_contra c
      exact h ⟨hs, fun e => c (.inl e), fun e => c (.inr e)⟩
    refine ⟨?_, ?_, id, rfl, rfl, fun _ _ => rfl, id⟩
    · rw [if_pos goesOn, hs]
    · rw [if_pos goesOn, ht]

/-! ### The feeder's homing at start-up (R94) -/

theorem feederArrived_idle (h : s.gate.phase = .idle) : feederArrived s = s := if_neg fun c => by simp [h] at c

theorem feederHomed_noTarget (h : s.feeder.target = none) : feederHomed s = stopFeeder (setPosition 1 s) := by
  unfold feederHomed driveToTarget
  have kept : (setPosition 1 s).feeder.target = none := h
  rw [kept]

/-- The feeder stopped at its home switch, in position 1. -/
def homeReached (s : State) : State := stopFeeder (setPosition 1 { s with feeder := { s.feeder with home := true } })

theorem startUpAfterFeeder_of (h : StartUpTried u t) (hc : u.carriage = s.carriage) (hd : u.feeder.drive = .stopped) :
    StartUpAfterFeeder s t := by
  have goesOn : HomingGoesOn u ↔ s.carriage.state = .homing := by simp [HomingGoesOn, hc, hd]
  have hstart := h.startUp
  have hline := h.transmitter
  simp only [goesOn] at hstart hline
  refine ⟨hstart, ?_, hline⟩
  unfold ident started
  rw [hstart]
  split <;> rfl

/-- The feeder's homing has stopped, and start-up is tried. -/
theorem homingEnds_spec (hs : s.control.startUp = .homing) (ht : s.labels.transmitter = []) (hf : u.feeder.drive = .stopped)
    (hu : u = { s with mem := u.mem, feeder := u.feeder }) :
    StartUpTried u (tryEndStartUp u) ∧ StartUpAfterFeeder s (tryEndStartUp u) ∧ KeepsNotice s (tryEndStartUp u)
      ∧ (tryEndStartUp u).feeder = u.feeder
      ∧ tryEndStartUp u = { s with
          mem := (tryEndStartUp u).mem, feeder := (tryEndStartUp u).feeder, labels := (tryEndStartUp u).labels
          control := (tryEndStartUp u).control } := by
  have hcontrol : u.control = s.control := by rw [hu]
  have hlabels : u.labels = s.labels := by rw [hu]
  have hcarriage : u.carriage = s.carriage := by rw [hu]
  have tried : StartUpTried u (tryEndStartUp u) := startUpTried (hcontrol ▸ hs) (hlabels ▸ ht)
  have feeder : (tryEndStartUp u).feeder = u.feeder := by rw [tried.rest]
  refine ⟨tried, startUpAfterFeeder_of tried hcarriage hf, ?_, feeder, ?_⟩
  · unfold KeepsNotice
    rw [tried.control, ← hcontrol]
    exact ⟨rfl, rfl, rfl⟩
  · rw [feeder]
    exact tried.rest.trans (congrArg (fun v : State => { v with
      mem := (tryEndStartUp u).mem, labels := (tryEndStartUp u).labels, control := (tryEndStartUp u).control }) hu)

/-- Settles O11: what holds the part, what releases it, and how the feeder's homing leaves start-up. -/
theorem resetsHoldThePart : Obligations.ResetsHoldThePart := by
  unfold Obligations.ResetsHoldThePart
  have held (c : ResetCause) (s : State) : HeldInReset c s (holdInReset c s) := by
    refine ⟨rfl, rfl, ?_, rfl, rfl, rfl, fun _ => rfl, rfl, rfl, nofun, nofun, fun bk => ?_, rfl, rfl, rfl, rfl, rfl,
      fun n => ?_, fun sh => ?_, rfl, rfl⟩
    · show decide ((0 : BitVec 11) &&& 0 ≠ 0) = false
      decide
    · cases bk <;> exact ⟨rfl, rfl⟩
    · show (Vector.replicate 16 SlotHand.empty)[n] = .empty
      simp
    · obtain ⟨bk, w⟩ := sh
      cases bk <;> cases w <;> rfl
  refine ⟨fun s => ⟨_, rfl, held .powerOn s⟩, fun s => ⟨_, rfl, held .line s⟩, fun s c h => ?_, fun s h => ?_,
    fun s hm h => ?_, fun s hm h hr => ?_⟩
  · refine ⟨_, ?_, rfl⟩
    show execResetRelease s = _
    unfold execResetRelease
    rw [h]
  · show execResetRelease s = _
    unfold execResetRelease
    split
    · next c e => exact absurd e (h c)
    · rfl
    · rfl
    · rfl
  · obtain ⟨hs, hd, ht, hp, hl⟩ := h
    obtain ⟨tried, after, notice, feeder, rest⟩ := homingEnds_spec (u := homeReached s) hs hl rfl rfl
    have posByte : byteAt (homeReached s) 0x5D08 = 1 :=
      byteAt_setByte_same (a := 0x5D08) (n := 1) (s := { s with feeder := _ }) hm (by decide)
    refine ⟨tryEndStartUp (homeReached s), ?_, ?_, ?_, ?_, ?_, after, notice, ?_, rest⟩
    · have live : isLive s = true := by unfold isLive; rw [hs]
      show execFeederHomeSwitch s = _
      unfold execFeederHomeSwitch
      rw [if_pos live]
      dsimp only
      rw [if_pos hd, feederHomed_noTarget (s := { s with feeder := { s.feeder with home := true } }) ht]
      exact congrArg (fun v => Host.Outcome.next (tryEndStartUp v)) (feederArrived_idle (s := homeReached s) hp)
    · rw [feeder]; rfl
    · exact (Keeps.byteAt tried.others (a := 0x5D08) (by decide)).trans posByte
    · rw [feeder]; rfl
    · rw [feeder]; rfl
    · intro a ha
      rw [tried.others a fun e => ha (.inr e)]
      exact read_set_other fun e => ha (.inl e)
  · obtain ⟨hs, hd, ht, hp, hl⟩ := h
    obtain ⟨tried, after, notice, feeder, rest⟩ := homingEnds_spec (s := s) (u := stopFeeder s) hs hl rfl rfl
    refine ⟨tryEndStartUp (stopFeeder s), ?_, ?_, ?_, ?_, after, notice, tried.others, rest⟩
    · have runs : running s.feeder.homingTimer = true := Option.isSome_iff_ne_none.mpr hr
      show execFeederHomingTimeout s = _
      unfold execFeederHomingTimeout
      rw [if_pos ⟨hd, runs⟩]
    · rw [feeder]; rfl
    · rw [feeder]; rfl
    · rw [feeder]; rfl

end Sys2Proof.Proofs
end

section
/-! SUPPORT. The zeroing's end (R18, R96, R198). -/

namespace Sys2Proof.Proofs

open Sys2Proof Sys2Proof.Machine Sys2Proof.Safety Sys2Proof.Laws Sys2Proof.Claims

variable {s t u : State}

/-! ### The homings with the lamp off -/

theorem startDrive_lampIdle (h : s.lamp.mode = .idle) : startDrive s = s := by
  unfold startDrive
  rw [h]

/-- The carriage's timer and switches when homing starts (R91). -/
def homingCarriage (c : Carriage) : Carriage :=
  if c.endA then { c with homingTimer := none } else { c with homingTimer := some 60000, endB := false }

theorem startHoming_eq (h : s.lamp.mode = .idle) :
    startHoming s = enterCarriage (if s.carriage.endA then .lineA else .homing)
      { s with carriage := homingCarriage s.carriage } := by
  unfold startHoming homingCarriage
  split
  · rfl
  · dsimp only
    rw [startDrive_lampIdle h]
    rfl

/-- The carriage once homing has started. -/
def homedCarriage (c : Carriage) : Carriage := { homingCarriage c with state := if c.endA then .lineA else .homing }

/-- The feeder once homing has started: home at once, or on its way. -/
def homedFeeder (f : Feeder) : Feeder :=
  if f.home then { f with position := 1, drive := .stopped, target := none, homingTimer := none }
  else { f with drive := .homing, target := none, homingTimer := some 84000 }

theorem startHoming_only (h : s.lamp.mode = .idle) :
    startHoming s = { s with mem := (startHoming s).mem, carriage := homedCarriage s.carriage } := by
  rw [startHoming_eq h, enterCarriage, report_only_mem]
  rfl

theorem homeFeeder_home (h : s.feeder.home = true) :
    homeFeeder none s = stopFeeder (setPosition 1 { s with feeder := { s.feeder with target := none } }) := by
  unfold homeFeeder
  rw [if_pos h]
  exact feederHomed_noTarget rfl

theorem homeFeeder_away (hl : s.lamp.mode = .idle) (h : s.feeder.home = false) :
    homeFeeder none s
      = { s with feeder := { s.feeder with target := none, drive := .homing, homingTimer := some 84000 } } := by
  unfold homeFeeder
  rw [if_neg (by simp [h])]
  exact congrArg (fun v : State => { v with feeder := { v.feeder with drive := .homing, homingTimer := some 84000 } })
    (startDrive_lampIdle (s := { s with feeder := { s.feeder with target := none } }) hl)

theorem homeFeeder_only (hl : s.lamp.mode = .idle) :
    homeFeeder none s = { s with mem := (homeFeeder none s).mem, feeder := homedFeeder s.feeder } := by
  unfold homedFeeder
  split
  · next h =>
    rw [homeFeeder_home h, setPosition, report_only_mem]
    rfl
  · next h => rw [homeFeeder_away hl (by simpa using h)]

section
variable {K : Nat → Prop}

theorem Keeps.startHoming (h : Keeps K s t) (hl : t.lamp.mode = .idle) (ha : Apart K 0x5D03 1) : Keeps K s (startHoming t) := by
  rw [startHoming_eq hl]
  exact (h.same (u := { t with carriage := homingCarriage t.carriage }) rfl).report (a := 0x03) ha

theorem Keeps.homeFeeder (h : Keeps K s t) (hl : t.lamp.mode = .idle) (ha : Apart K 0x5D08 1) :
    Keeps K s (homeFeeder none t) := by
  cases hh : t.feeder.home with
  | false => rw [homeFeeder_away hl hh]; exact h.same rfl
  | true =>
    rw [homeFeeder_home hh]
    exact (h.same (u := { t with feeder := _ }) rfl).report (a := 0x08) ha |>.same rfl

theorem Keeps.setBack {bk : Back} {x : BackUnit} (h : Keeps K s t) : Keeps K s (setBack bk x t) := h.same (setBack_mem ..)

theorem Keeps.enterBack {bk : Back} {st : BackState} (h : Keeps K s t) (ha : Apart K (Config.report + backOffset bk) 1) :
    Keeps K s (enterBack bk st t) := h.setBack.report ha
end

/-! ### The stages of the zeroing's end -/

/-- The backs in the states of their switches, before the homings start (R96). -/
def backsEntered (c : ResetCause) (x : InputLevels) (s : State) : State :=
  enterBack .b (startUpState x.backB) (enterBack .a (startUpState x.backA) (setResetCause c (zeroed x s)))

/-- Both homings started. -/
def homingsStarted (c : ResetCause) (x : InputLevels) (s : State) : State := homeFeeder none (startHoming (backsEntered c x s))

theorem backsEntered_only (c : ResetCause) (x : InputLevels) (s : State) :
    backsEntered c x s = { zeroed x s with
      mem := (backsEntered c x s).mem
      backA := { (zeroed x s).backA with state := startUpState x.backA }
      backB := { (zeroed x s).backB with state := startUpState x.backB }
      control := { (zeroed x s).control with resetCause := c } } := by
  unfold backsEntered enterBack setBack State.back
  dsimp only
  rw [report_only_mem]
  simp only [report_backA, report_backB]
  simp [setResetCause, zeroed, BackUnit.reset, State.reset]

theorem homingsStarted_only (c : ResetCause) (x : InputLevels) (s : State) :
    homingsStarted c x s = { backsEntered c x s with
      mem := (homingsStarted c x s).mem
      carriage := homedCarriage (zeroed x s).carriage
      feeder := homedFeeder (zeroed x s).feeder } := by
  have carriage := startHoming_only (s := backsEntered c x s) rfl
  have still : (startHoming (backsEntered c x s)).lamp.mode = .idle := by rw [carriage]; rfl
  have position : (startHoming (backsEntered c x s)).feeder = (zeroed x s).feeder := by rw [carriage]; rfl
  have feeder := homeFeeder_only still
  rw [position] at feeder
  exact feeder.trans (congrArg (fun v : State => { v with
    mem := (homingsStarted c x s).mem, feeder := homedFeeder (zeroed x s).feeder }) carriage)

theorem homingGoesOn_started (c : ResetCause) (x : InputLevels) (s : State) :
    HomingGoesOn (homingsStarted c x s) ↔ (x.endA && x.home) = false := by
  have drives : HomingGoesOn (homingsStarted c x s)
      ↔ (homedCarriage (zeroed x s).carriage).state = .homing ∨ (homedFeeder (zeroed x s).feeder).drive = .homing := by
    rw [homingsStarted_only]
  have endA : (zeroed x s).carriage.endA = x.endA := rfl
  have home : (zeroed x s).feeder.home = x.home := rfl
  rw [drives]
  simp only [homedCarriage, homedFeeder, endA, home]
  cases x.endA <;> cases x.home <;> simp [zeroed]

theorem startUpTried_zeroing (c : ResetCause) (x : InputLevels) (s : State) :
    StartUpTried (homingsStarted c x s) (endZeroing c x s) :=
  startUpTried (by rw [homingsStarted_only]; rfl) (by rw [homingsStarted_only]; rfl)

theorem endZeroing_only (c : ResetCause) (x : InputLevels) (s : State) :
    endZeroing c x s = { zeroed x s with
      mem := (endZeroing c x s).mem
      backA := { (zeroed x s).backA with state := startUpState x.backA }
      backB := { (zeroed x s).backB with state := startUpState x.backB }
      carriage := homedCarriage (zeroed x s).carriage
      feeder := homedFeeder (zeroed x s).feeder
      labels := (endZeroing c x s).labels
      control := (endZeroing c x s).control } := by
  have last := (startUpTried_zeroing c x s).rest
  have homed := last.trans (congrArg (fun v : State => { v with
    mem := (endZeroing c x s).mem, labels := (endZeroing c x s).labels, control := (endZeroing c x s).control })
      (homingsStarted_only c x s))
  exact homed.trans (congrArg (fun v : State => { v with
    mem := (endZeroing c x s).mem, labels := (endZeroing c x s).labels, control := (endZeroing c x s).control
    carriage := homedCarriage (zeroed x s).carriage, feeder := homedFeeder (zeroed x s).feeder })
      (backsEntered_only c x s))

theorem endZeroing_control (c : ResetCause) (x : InputLevels) (s : State) :
    (endZeroing c x s).control = { Control.reset with
      startUp := if x.endA && x.home then .ended else .homing, resetCause := c } := by
  have tried := startUpTried_zeroing c x s
  have before : (homingsStarted c x s).control = { Control.reset with startUp := .homing, resetCause := c } := by
    rw [homingsStarted_only]
    rfl
  rw [tried.control, tried.startUp, before]
  simp only [homingGoesOn_started]
  cases (x.endA && x.home) <;> rfl

theorem Keeps.endZeroing {K : Nat → Prop} {c : ResetCause} {x : InputLevels} (h : Keeps K u (backsEntered c x s))
    (h3 : Apart K 0x5D03 1) (h8 : Apart K 0x5D08 2) : Keeps K u (endZeroing c x s) := by
  have still : (Machine.startHoming (backsEntered c x s)).lamp.mode = .idle := by rw [startHoming_only rfl]; rfl
  have homed : Keeps K u (homingsStarted c x s) :=
    (h.startHoming rfl h3).homeFeeder still fun b hb hb' => h8 b hb (by omega)
  exact homed.trans fun a ha => (startUpTried_zeroing c x s).others a fun e => h8 a (by omega) (by omega) ha

theorem apart_byte {k a n : Nat} (h : k < a ∨ a + n ≤ k) : Apart (fun b => b = k) a n := fun b _ _ e => by omega

/-- A byte of the stand report, written and then kept. -/
theorem reportByte_of {k v : Nat} (hm : MemoryOk s) (hk : k < 0x100) (hv : v < 256)
    (h : Keeps (fun a => a = Config.report + k) (report k v s) t) : reportByte t k = v :=
  (h.byteAt rfl).trans ((byteAt_setByte_same hm (by
    have : Config.memorySize = 0x8000 := rfl
    have : Config.report = 0x5D00 := rfl
    omega)).trans (Nat.mod_eq_of_lt hv))

theorem BackState.code_lt (b : BackState) : b.code < 256 := by cases b <;> decide

theorem CarriageState.code_lt (c : CarriageState) : c.code < 256 := by cases c <;> decide

theorem ResetCause.code_lt (c : ResetCause) : c.code < 256 := by cases c <;> decide

theorem reportByte_enterBack {bk : Back} {st : BackState} (hm : MemoryOk s)
    (h : Keeps (fun a => a = Config.report + backOffset bk) (enterBack bk st s) t) : reportByte t (backOffset bk) = st.code := by
  refine reportByte_of (s := setBack bk _ s) ?_ (by cases bk <;> decide) (BackState.code_lt st) h
  rw [MemoryOk, setBack_mem]
  exact hm

/-- The bytes of the stand report that the zeroing's end writes (R91, R93, R96, R199). -/
structure ZeroingReport (c : ResetCause) (x : InputLevels) (t : State) : Prop where
  cause : reportByte t 0x02 = c.code
  carriage : reportByte t 0x03 = (if x.endA then CarriageState.lineA else .homing).code
  backA : reportByte t 0x04 = (startUpState x.backA).code
  backB : reportByte t 0x05 = (startUpState x.backB).code
  position : reportByte t 0x08 = if x.home then 1 else 0

theorem zeroingReport (c : ResetCause) (x : InputLevels) (s : State) : ZeroingReport c x (endZeroing c x s) := by
  have start : MemoryOk (zeroed x s) := wf_reset
  have base : Config.report = 0x5D00 := rfl
  have memCause : MemoryOk (setResetCause c (zeroed x s)) := memoryOk_report start
  have memA : MemoryOk (enterBack .a (startUpState x.backA) (setResetCause c (zeroed x s))) :=
    memoryOk_report (s := Machine.setBack .a _ _) memCause
  have memB : MemoryOk (backsEntered c x s) := memoryOk_report (s := Machine.setBack .b _ _) memA
  have memHoming : MemoryOk (startHoming (backsEntered c x s)) := by
    rw [startHoming_eq rfl]
    exact memoryOk_report (s := { backsEntered c x s with carriage := _ }) memB
  have still : (startHoming (backsEntered c x s)).lamp.mode = .idle := by rw [startHoming_only rfl]; rfl
  have tried := startUpTried_zeroing c x s
  have toBacks {k : Nat} (hk : k < 0x5D04 ∨ 0x5D06 ≤ k) :
      Keeps (fun a => a = k) (setResetCause c (zeroed x s)) (backsEntered c x s) :=
    ((Keeps.refl _).enterBack (bk := .a) (apart_byte (by simp only [backOffset]; omega))).enterBack (bk := .b)
      (apart_byte (by simp only [backOffset]; omega))
  refine ⟨?_, ?_, ?_, ?_, ?_⟩
  · refine reportByte_of (s := { zeroed x s with control := _ }) start (by decide) (ResetCause.code_lt c) ?_
    exact (toBacks (by decide)).endZeroing (apart_byte (by decide)) (apart_byte (by decide))
  · refine reportByte_of (s := { backsEntered c x s with carriage := _ }) memB (by decide) (CarriageState.code_lt _) ?_
    have homed : Keeps (fun a => a = 0x5D03) (startHoming (backsEntered c x s)) (homingsStarted c x s) :=
      (Keeps.refl _).homeFeeder still (apart_byte (by decide))
    have last := homed.trans fun a ha => tried.others a (by omega)
    rw [startHoming_eq rfl] at last
    exact last
  · refine reportByte_enterBack (bk := .a) memCause ?_
    exact ((Keeps.refl _).enterBack (bk := .b) (apart_byte (by decide))).endZeroing (apart_byte (by decide))
      (apart_byte (by decide))
  · refine reportByte_enterBack (bk := .b) memA ?_
    exact (Keeps.refl _).endZeroing (apart_byte (by decide)) (apart_byte (by decide))
  · have away : (startHoming (backsEntered c x s)).feeder.home = x.home := by rw [startHoming_only rfl]; rfl
    split
    · next h =>
      refine reportByte_of (s := { startHoming (backsEntered c x s) with feeder := _ }) memHoming (by decide) (by decide) ?_
      have homed : homingsStarted c x s = _ := homeFeeder_home (away.trans h)
      exact ((Keeps.refl _).same (congrArg State.mem homed)).trans fun a ha => tried.others a (by omega)
    · next h =>
      have homed : homingsStarted c x s = _ := homeFeeder_away still (away.trans (by simpa using h))
      have kept := (((Keeps.refl (zeroed x s)).report (a := 0x02) (n := c.code) (apart_byte (by decide))).trans
        ((toBacks (k := 0x5D08) (by decide)).startHoming rfl (apart_byte (by decide))))
      have memory : (homingsStarted c x s).mem = (startHoming (backsEntered c x s)).mem := by rw [homed]
      have last := (kept.same memory).trans fun a ha => tried.others a (by omega)
      exact last.byteAt rfl

theorem read_endZeroing (c : ResetCause) (x : InputLevels) (s : State) {a : Nat} (ha : ¬ within 0x5D00 0x100 a) :
    Memory.read (endZeroing c x s).mem a = 0 := by
  have base : Config.report = 0x5D00 := rfl
  have cause : Keeps (fun a => ¬ within 0x5D00 0x100 a) (zeroed x s) (setResetCause c (zeroed x s)) :=
    (Keeps.refl (zeroed x s)).report (a := 0x02) (apart_others fun b _ _ => by omega)
  have backs := (cause.enterBack (bk := .a) (st := startUpState x.backA) (apart_others fun b hb hb' => by
    simp only [backOffset] at hb hb'; omega)).enterBack (bk := .b) (st := startUpState x.backB)
      (apart_others fun b hb hb' => by simp only [backOffset] at hb hb'; omega)
  exact (Keeps.endZeroing (c := c) (x := x) (s := s) backs (apart_others fun b _ _ => by omega)
    (apart_others fun b _ _ => by omega)) a ha

/-- Settles O12: from the zeroed blocks, the backs' states, both homings, and the end of start-up when no homing goes on. -/
theorem zeroingEndStartsThePart : Obligations.ZeroingEndStartsThePart := by
  unfold Obligations.ZeroingEndStartsThePart
  intro s c x h
  have only := endZeroing_only c x s
  have control := endZeroing_control c x s
  have bytes := zeroingReport c x s
  have tried := startUpTried_zeroing c x s
  have printer : (homingsStarted c x s).labels.printer = .unknown := by rw [homingsStarted_only]; rfl
  have line := tried.transmitter
  simp only [homingGoesOn_started] at line
  generalize hu : endZeroing c x s = t at *
  have backA : t.back .a = { (zeroed x s).backA with state := startUpState x.backA } := by rw [only]; rfl
  have backB : t.back .b = { (zeroed x s).backB with state := startUpState x.backB } := by rw [only]; rfl
  have carriage : t.carriage = homedCarriage (zeroed x s).carriage := by rw [only]
  have feeder : t.feeder = homedFeeder (zeroed x s).feeder := by rw [only]
  have carriageState : t.carriage.state = if x.endA then .lineA else .homing := by rw [carriage]; rfl
  have position : t.feeder.position = if x.home then 1 else 0 := by
    rw [feeder]
    exact apply_ite Feeder.position ..
  have orders : t.orders = Orders.reset := by rw [only]; rfl
  have watch : t.watch = Watch.reset := by rw [only]; rfl
  have gate : t.gate = Gate.reset := by rw [only]; rfl
  refine ⟨t, ?_, fun a ha => ?_, ?_, by rw [control], bytes.cause, by rw [control]; rfl, by rw [control]; rfl,
    by rw [control]; rfl, by rw [control]; rfl, by rw [control]; rfl, by rw [backA]; rfl, by rw [backB]; rfl, ?_, ?_,
    by rw [backA]; rfl, by rw [backB]; rfl, by rw [only]; rfl, fun bk => ?_, fun n => ?_, fun sh => ?_, by rw [orders]; rfl,
    by rw [orders]; rfl, by rw [watch]; rfl, by rw [watch]; rfl, by rw [watch]; rfl, by rw [gate]; rfl, by rw [gate]; rfl,
    by rw [only]; rfl, carriageState, ?_, ?_, position, ?_, ?_, ?_, by rw [control], ?_, ?_, by rw [only]; rfl,
    by rw [only]; rfl⟩
  · show execZeroingEnd x s = _
    unfold execZeroingEnd
    rw [h, ← hu]
  · rw [← hu]; exact read_endZeroing c x s ha
  · rw [← hu]; exact meets_endZeroing .form c x s
  · rw [bytes.backA, backA]
  · rw [bytes.backB, backB]
  · cases bk
    · rw [backA]; exact ⟨rfl, rfl, rfl⟩
    · rw [backB]; exact ⟨rfl, rfl, rfl⟩
  · unfold recordedHand
    rw [orders]
    simp [Orders.reset]
  · obtain ⟨bk, w⟩ := sh
    unfold sheetHand
    cases bk <;> cases w <;> simp only [backA, backB] <;> rfl
  · rw [bytes.carriage, carriageState]
  · rw [carriage]
    exact (apply_ite Carriage.homingTimer ..)
  · rw [bytes.position, position]
  · rw [feeder]
    exact apply_ite Feeder.drive ..
  · rw [feeder]
    exact apply_ite Feeder.homingTimer ..
  · exact tried.printer printer
  · rw [line]
    cases x.endA && x.home <;> rfl

end Sys2Proof.Proofs
end

section
/-! SUPPORT. What a take writes (R22 to R29). -/

namespace Sys2Proof.Proofs

open Sys2Proof Sys2Proof.Machine Sys2Proof.Safety Sys2Proof.Laws Sys2Proof.Claims

variable {s t u : State} {n m : Slot} {K : Nat → Prop}

/-! ### Bytes that are 0 -/

/-- Every byte of a set of addresses is 0. -/
def ZeroOn (K : Nat → Prop) (s : State) : Prop := ∀ a, K a → Memory.read s.mem a = 0

namespace ZeroOn

theorem keep (h : ZeroOn K s) (k : Keeps K s t) : ZeroOn K t := fun a ha => (k a ha).trans (h a ha)

theorem byteAt (h : ZeroOn K s) {a : Nat} (ha : K a) : byteAt s a = 0 := by
  unfold Machine.byteAt
  rw [h a ha]
  rfl

theorem setByte {a : Nat} (h : ZeroOn K s) (hm : MemoryOk s) : ZeroOn K (setByte a 0 s) := by
  intro b hb
  show Memory.read (Memory.write s.mem a 0) b = 0
  by_cases e : b = a
  · unfold Memory.write
    split
    · rw [read_insert hm, if_pos e]
    · exact h b hb
  · exact (read_write_other hm e).trans (h b hb)

theorem setWord {a : Nat} (h : ZeroOn K s) (hm : MemoryOk s) : ZeroOn K (setWord a 0 s) :=
  (h.setByte hm).setByte (memoryOk_setByte hm)

theorem setLong {a : Nat} (h : ZeroOn K s) (hm : MemoryOk s) : ZeroOn K (setLong a 0 s) :=
  (h.setWord hm).setWord (memoryOk_setWord hm)

end ZeroOn

theorem zeroOn_zeroBytes {x y : Nat} (hk : ∀ a, K a → x ≤ a ∧ a < y) : ZeroOn K (zeroBytes x y s) :=
  fun a ha => (read_zero (x := x) (y := y)).trans (if_pos (hk a ha))

/-! ### Hands -/

theorem handFound_recordHand (x : SlotHand) (s : State) : handFound (recordHand n x s) m = handFound s m := rfl

theorem handFound_setRunList (l : List OrderEntry) (s : State) : handFound (setRunList l s) n = handFound s n := rfl

theorem handFound_writeHand {x : SlotHand} (hm : MemoryOk s) : handFound (writeHand n x s) n = x.code := by
  rw [writeHand, handFound_recordHand]
  exact handFound_setHand hm

theorem writeHand_only (n : Slot) (x : SlotHand) (s : State) :
    writeHand n x s = { s with mem := (writeHand n x s).mem, orders := (writeHand n x s).orders } := by
  unfold writeHand recordHand
  rw [setWord_only_mem]

theorem keepsOtherHands_of {x : SlotHand} (h : t.orders.recorded = s.orders.recorded.set n.val x n.isLt) :
    KeepsOtherHands n s t := by
  intro m hm
  unfold recordedHand
  rw [h, recordedHand_set, if_neg hm]

theorem recordedHand_of {x : SlotHand} (h : t.orders.recorded = s.orders.recorded.set n.val x n.isLt) : recordedHand t n = x := by
  unfold recordedHand
  rw [h, recordedHand_set, if_pos rfl]

/-! ### A refused order (R26) -/

/-- Common memory of a refused order before its hand is written. -/
def refusedOutcome (n : Slot) (c : RefusalCode) (s : State) : State :=
  setByte (outcome n + 0x02) c.code (setByte (outcome n) 5 (zeroBytes (outcome n) (outcome n + 0x200) s))

theorem refuseOrder_eq (n : Slot) (c : RefusalCode) (s : State) :
    refuseOrder n c s = raise .orderDone (writeHand n .done (refusedOutcome n c s)) := rfl

theorem refuseOrder_control (n : Slot) (c : RefusalCode) (s : State) :
    (refuseOrder n c s).control = (raise .orderDone s).control := by
  rw [refuseOrder_eq]
  refine raise_control_of ?_
  unfold writeHand refusedOutcome
  simp

theorem refusedOutcome_only_mem (n : Slot) (c : RefusalCode) (s : State) :
    refusedOutcome n c s = { s with mem := (refusedOutcome n c s).mem } :=
  only_mem_trans (only_mem_trans (t := zeroBytes (outcome n) (outcome n + 0x200) s) rfl (setByte_only_mem _ _ _))
    (setByte_only_mem _ _ _)

theorem refuseOrder_only (n : Slot) (c : RefusalCode) (s : State) :
    refuseOrder n c s = { s with
      mem := (refuseOrder n c s).mem, orders := (refuseOrder n c s).orders, control := (refuseOrder n c s).control } := by
  have hand : writeHand n .done (refusedOutcome n c s) = { s with
      mem := (writeHand n .done (refusedOutcome n c s)).mem
      orders := (writeHand n .done (refusedOutcome n c s)).orders } :=
    (writeHand_only ..).trans (congrArg (fun v : State => { v with
      mem := (writeHand n .done (refusedOutcome n c s)).mem
      orders := (writeHand n .done (refusedOutcome n c s)).orders }) (refusedOutcome_only_mem n c s))
  rw [refuseOrder_eq]
  generalize writeHand n .done (refusedOutcome n c s) = v at hand ⊢
  exact congrArg (fun w : State => { w with control := (raise .orderDone v).control }) hand

theorem memoryOk_refusedOutcome {c : RefusalCode} (h : MemoryOk s) : MemoryOk (refusedOutcome n c s) :=
  memoryOk_setByte (memoryOk_setByte (memoryOk_zeroBytes h))

theorem RefusalCode.code_lt (c : RefusalCode) : c.code < 256 := by cases c <;> decide

/-- What a refused order's slot reads (R26). -/
structure RefusedReads (n : Slot) (c : RefusalCode) (s t : State) : Prop where
  found : handFound t n = 3
  state : byteAt t (outcome n) = 5
  code : byteAt t (outcome n + 2) = c.code
  zero : ∀ a, within (outcome n) 0x200 a → a ≠ outcome n → a ≠ outcome n + 2 → Memory.read t.mem a = 0
  others : KeepsBytes s t fun a => within (slotBase n) 2 a ∨ within (outcome n) 0x200 a

theorem refusedReads {c : RefusalCode} (hm : MemoryOk s) : RefusedReads n c s (refuseOrder n c s) := by
  have hn := n.isLt
  have hs := slotBase_eq n
  have ho := outcome_eq n
  have hsize : Config.memorySize = 0x8000 := rfl
  have hz : MemoryOk (zeroBytes (outcome n) (outcome n + 0x200) s) := memoryOk_zeroBytes hm
  have hand {K : Nat → Prop} (h : Apart K (slotBase n) 2) : Keeps K (refusedOutcome n c s) (refuseOrder n c s) :=
    ((Keeps.refl _).writeHand h).raise
  refine ⟨?_, ?_, ?_, fun a ha h0 h2 => ?_, ?_⟩
  · rw [refuseOrder_eq, handFound_raise]
    exact handFound_writeHand (memoryOk_refusedOutcome hm)
  · refine ((((Keeps.refl _).setByte (apart_byte (k := outcome n) (by omega))).trans (hand (apart_byte (by omega)))).byteAt
      rfl).trans ?_
    exact byteAt_setByte_same hz (by omega)
  · refine ((hand (apart_byte (k := outcome n + 2) (by omega))).byteAt rfl).trans ?_
    exact (byteAt_setByte_same (memoryOk_setByte hz) (by omega)).trans (Nat.mod_eq_of_lt (RefusalCode.code_lt c))
  · have zero : ZeroOn (fun b => b = a) (zeroBytes (outcome n) (outcome n + 0x200) s) :=
      zeroOn_zeroBytes fun b e => e ▸ ha
    obtain ⟨hlo, hhi⟩ := ha
    exact (zero.keep ((((Keeps.refl _).setByte (apart_byte (by omega))).setByte (apart_byte (by omega))).trans
      (hand (apart_byte (by omega))))) a rfl
  · refine ((((Keeps.refl s).zeroBytes ?_).setByte ?_).setByte ?_).trans (hand ?_) <;>
      exact apart_others fun b _ _ => by omega

/-! ### An accepted order (R27, R28, R29) -/

theorem Keeps.markTrims (h : Keeps K s t) (ha : ∀ i, i < 24 → Apart K (shotOutcome n i + 0x0E) 1) : Keeps K s (markTrims n t) :=
  h.trans (foldl_keeps (I := fun v => Keeps K t v) (fun v i hi k => Keeps.ite
    (fun _ => k.setByte (ha i (by have := List.mem_range.mp hi; omega))) fun _ => k) (Keeps.refl t))

theorem Keeps.acceptOpened {k : OrderKind} (h : Keeps K t (openOutcome n k (acceptedAmount k s n) s))
    (hand : Apart K (slotBase n) 2) (account : k = .copy → Apart K (accountBase (accountIndex s n) + 0x14) 4) :
    Keeps K t (acceptOrder n k s) := by
  have committed : Keeps K t (committedOutcome n k s) := by
    refine Keeps.ite (fun e => h.setLong ?_) fun _ => h
    rw [accountIndex_beside (keeps_openOutcome n k _ s)]
    exact account e
  rw [acceptOrder_eq]
  exact (committed.writeHand hand).setRunList

theorem Keeps.acceptOrder {k : OrderKind} (h : Keeps K t (clearedOutcome n (acceptedAmount k s n) s))
    (hand : Apart K (slotBase n) 2) (trims : k = .copy → ∀ i, i < 24 → Apart K (shotOutcome n i + 0x0E) 1)
    (account : k = .copy → Apart K (accountBase (accountIndex s n) + 0x14) 4) : Keeps K t (acceptOrder n k s) := by
  refine Keeps.acceptOpened ?_ hand account
  rw [openOutcome_eq]
  exact Keeps.ite (fun e => h.markTrims (trims e)) fun _ => h

theorem acceptOrder_only (n : Slot) (k : OrderKind) (s : State) :
    acceptOrder n k s = { s with mem := (acceptOrder n k s).mem, orders := (acceptOrder n k s).orders } := by
  have hand : writeHand n .taken (committedOutcome n k s) = { s with
      mem := (writeHand n .taken (committedOutcome n k s)).mem
      orders := (writeHand n .taken (committedOutcome n k s)).orders } :=
    (writeHand_only ..).trans (congrArg (fun v : State => { v with
      mem := (writeHand n .taken (committedOutcome n k s)).mem
      orders := (writeHand n .taken (committedOutcome n k s)).orders }) (committedOutcome_only_mem n k s))
  rw [acceptOrder_eq]
  generalize writeHand n .taken (committedOutcome n k s) = v, enterRunList _ _ = l at hand ⊢
  exact congrArg (fun w : State => { w with orders := (setRunList l v).orders }) hand

theorem handFound_acceptOrder {k : OrderKind} (hm : MemoryOk s) : handFound (acceptOrder n k s) n = 2 := by
  have memory : MemoryOk (committedOutcome n k s) := by
    unfold committedOutcome
    dsimp only
    split
    · exact memoryOk_commit (memoryOk_openOutcome hm)
    · exact memoryOk_openOutcome hm
  rw [acceptOrder_eq, handFound_setRunList]
  exact handFound_writeHand (x := .taken) memory

theorem enters_acceptOrder {k : OrderKind} (hl : u.orders.runList = s.orders.runList) (hr : isRush u n = isRush s n) :
    EntersRunList s (acceptOrder n k u) n k := by
  refine ⟨acceptedEntry n k u, rfl, rfl, hr, rfl, rfl, rfl, rfl, ?_⟩
  rw [acceptOrder_orders]
  show enterRunList _ u.orders.runList = _
  rw [hl, ← hr, enterRunList]
  simp [acceptedEntry]

/-- The amounts and the sub-state of a cleared outcome area (R28). -/
structure ClearedReads (n : Slot) (x : Nat) (t : State) : Prop where
  state : byteAt t (outcome n) = 0
  sub : byteAt t (outcome n + 1) = 1
  planned : plannedCommitment t n = x
  charged : charged t n = 0

theorem clearedReads {k : OrderKind} (hm : MemoryOk s) (hx : acceptedAmount k s n < 16777216) :
    ClearedReads n (acceptedAmount k s n) (acceptOrder n k s) := by
  have hn := n.isLt
  have hs := slotBase_eq n
  have ho := outcome_eq n
  have ha := accountBase_eq (accountIndex s n)
  have hsize : Config.memorySize = 0x8000 := rfl
  have hshot (i : Nat) : shotOutcome n i = n.val * 0x400 + 0x220 + i % 24 * 0x10 := rfl
  have hz : MemoryOk (zeroBytes (outcome n) (outcome n + 0x200) s) := memoryOk_zeroBytes hm
  have hsub := memoryOk_setByte (a := outcome n + 1) (n := 1) hz
  have later {lo c : Nat} {t : State} (h0 : outcome n ≤ lo) (hc : lo + c ≤ outcome n + 0x18)
      (h : Keeps (within lo c) t (clearedOutcome n (acceptedAmount k s n) s)) : Keeps (within lo c) t (acceptOrder n k s) :=
    h.acceptOrder (apart_within (by omega)) (fun _ i hi => apart_within (by rw [hshot]; omega)) fun _ => apart_within (by omega)
  refine ⟨?_, ?_, ?_, ?_⟩
  · have zero : ZeroOn (within (outcome n) 1) (zeroBytes (outcome n) (outcome n + 0x200) s) :=
      zeroOn_zeroBytes fun b e => by omega
    refine (zero.keep (later (by omega) (by omega) ?_)).byteAt (by omega)
    exact (((Keeps.refl _).setByte (apart_within (by omega))).setLong (apart_within (by omega))).setLong
      (apart_within (by omega))
  · refine ((later (lo := outcome n + 1) (c := 1) (by omega) (by omega) ?_).byteAt (by omega)).trans
      (byteAt_setByte_same (a := outcome n + 1) (n := 1) hz (by omega))
    exact ((Keeps.refl _).setLong (apart_within (by omega))).setLong (apart_within (by omega))
  · refine ((later (lo := outcome n + 0x10) (c := 4) (by omega) (by omega) ?_).long).trans
      (longAt_setLong_same (a := outcome n + 0x10) hsub (by omega) hx)
    exact (Keeps.refl _).setLong (apart_within (by omega))
  · have zero : ZeroOn (within (outcome n + 0x14) 4) (zeroBytes (outcome n) (outcome n + 0x200) s) :=
      zeroOn_zeroBytes fun b e => by omega
    have last := zero.keep (later (by omega) (by omega)
      ((((Keeps.refl _).setByte (apart_within (by omega))).setLong (apart_within (by omega))).setLong
        (apart_within (by omega))))
    unfold Machine.charged longAt wordAt
    rw [last.byteAt (by omega), last.byteAt (by omega), last.byteAt (by omega)]

end Sys2Proof.Proofs
end

section
/-! SUPPORT. The shots of an accepted order, and takes (R10, R23, R28). -/

namespace Sys2Proof.Proofs

open Sys2Proof Sys2Proof.Machine Sys2Proof.Safety Sys2Proof.Laws Sys2Proof.Claims

variable {s t u : State} {n m : Slot} {K : Nat → Prop}

/-! ### The shots of an accepted order (R28) -/

/-- The bytes outside an outcome area. -/
abbrev Beside (n : Slot) (a : Nat) : Prop := ¬ within (outcome n) 0x200 a

theorem shotCount_beside (h : Keeps (Beside n) s t) : shotCount t n = shotCount s n := by
  have hs := slotBase_eq n
  have ho := outcome_eq n
  exact h.wordAt (by omega) (by omega)

theorem trimOutside_beside (h : Keeps (Beside n) s t) {i : Nat} (hi : i < 24) : trimOutside t n i = trimOutside s n i := by
  have hs := slotBase_eq n
  have ho := outcome_eq n
  have he : shotEntry n i = slotBase n + 0x20 + i * 0x14 := rfl
  have word : wordAt t (shotEntry n i + 4) = wordAt s (shotEntry n i + 4) := h.wordAt (by omega) (by omega)
  unfold trimOutside trimUsed trimWritten
  rw [word]

/-- The write of one trim mark (R28 step 2). -/
def markTrim (n : Slot) (s : State) (i : Nat) : State :=
  if trimOutside s n i then setByte (shotOutcome n i + 0x0E) 8 s else s

theorem markTrims_eq (n : Slot) (s : State) : markTrims n s = (List.range (min 24 (shotCount s n))).foldl (markTrim n) s := rfl

theorem byteAt_markTrim (hm : MemoryOk s) {i j : Nat} (hi : i < 24) (hj : j < 24) :
    byteAt (markTrim n s i) (shotOutcome n j + 0x0E)
      = if i = j ∧ trimOutside s n j = true then 8 else byteAt s (shotOutcome n j + 0x0E) := by
  have hn := n.isLt
  have hsize : Config.memorySize = 0x8000 := rfl
  have hio := shotOutcome_eq n i
  have hjo := shotOutcome_eq n j
  unfold markTrim
  by_cases e : i = j
  · subst e
    simp only [true_and]
    split
    · exact byteAt_setByte_same hm (by omega)
    · rfl
  · simp only [e, false_and, if_false]
    split
    · exact byteAt_setByte_other hm (by omega)
    · rfl

theorem memoryOk_markTrim {i : Nat} (hm : MemoryOk s) : MemoryOk (markTrim n s i) := by
  unfold markTrim
  split
  · exact memoryOk_setByte hm
  · exact hm

theorem Keeps.markTrim {i : Nat} (h : Keeps (Beside n) s t) : Keeps (Beside n) s (markTrim n t i) := by
  have ho := outcome_eq n
  have hio := shotOutcome_eq n i
  exact Keeps.ite (fun _ => h.setByte (apart_others fun b _ _ => by omega)) fun _ => h

theorem byteAt_foldl_markTrim (xs : List Nat) (hx : ∀ i ∈ xs, i < 24) (hm : MemoryOk t) (h : Keeps (Beside n) s t) {j : Nat}
    (hj : j < 24) :
    byteAt (xs.foldl (markTrim n) t) (shotOutcome n j + 0x0E)
      = if j ∈ xs ∧ trimOutside s n j = true then 8 else byteAt t (shotOutcome n j + 0x0E) := by
  induction xs generalizing t with
  | nil => simp
  | cons i xs ih =>
    have hi : i < 24 := hx i (.head _)
    rw [List.foldl_cons, ih (fun k hk => hx k (.tail _ hk)) (memoryOk_markTrim hm) h.markTrim, byteAt_markTrim hm hi hj,
      trimOutside_beside h hj]
    by_cases e : i = j
    · subst e
      by_cases ht : trimOutside s n i = true <;> simp [ht]
    · simp [e, Ne.symm e]

theorem byteAt_markTrims (hm : MemoryOk s) {j : Nat} (hj : j < 24) :
    byteAt (markTrims n s) (shotOutcome n j + 0x0E)
      = if j < shotCount s n ∧ trimOutside s n j = true then 8 else byteAt s (shotOutcome n j + 0x0E) := by
  rw [markTrims_eq, byteAt_foldl_markTrim _ (fun i hi => by have := List.mem_range.mp hi; omega) hm (Keeps.refl s) hj]
  simp only [List.mem_range, Nat.lt_min, hj, true_and]

theorem keeps_clearedOutcome (n : Slot) (x : Nat) (s : State) : Keeps (Beside n) s (clearedOutcome n x s) := by
  refine ((((Keeps.refl s).zeroBytes ?_).setByte ?_).setLong ?_).setLong ?_ <;> exact apart_others fun b _ _ => by omega

theorem zeroOn_clearedOutcome (n : Slot) (x : Nat) (s : State) {a : Nat} (h : within (outcome n + 0x1C) 0x1E4 a) :
    ZeroOn (fun b => b = a) (clearedOutcome n x s) := by
  have zero : ZeroOn (fun b => b = a) (zeroBytes (outcome n) (outcome n + 0x200) s) :=
    zeroOn_zeroBytes fun b e => by omega
  refine zero.keep ((((Keeps.refl _).setByte ?_).setLong ?_).setLong ?_) <;> exact apart_byte (by omega)

/-- Every shot of an accepted COPY order is PENDING, with TRIM_CLAMPED where its trim was clamped (R28). -/
theorem shots_acceptOrder (hm : MemoryOk s) {i : Nat} (hi : i < 24) :
    shotCode (acceptOrder n .copy s) n i = 0
      ∧ byteAt (acceptOrder n .copy s) (shotOutcome n i + 0x0E)
        = if i < shotCount s n ∧ trimOutside s n i = true then 8 else 0 := by
  have hn := n.isLt
  have hs := slotBase_eq n
  have ho := outcome_eq n
  have ha := accountBase_eq (accountIndex s n)
  have hshot := shotOutcome_eq n
  have cleared := keeps_clearedOutcome n (acceptedAmount .copy s n) s
  constructor
  · have := hshot i
    refine ZeroOn.byteAt (K := fun b => b = shotOutcome n i)
      ((zeroOn_clearedOutcome n (acceptedAmount .copy s n) s (by omega)).keep
      ((Keeps.refl _).acceptOrder (apart_byte (by omega)) (fun _ j _ => apart_byte ?_) fun _ => apart_byte (by omega))) rfl
    have := hshot j
    omega
  · have last : Keeps (fun b => b = shotOutcome n i + 0x0E) (markTrims n (clearedOutcome n (acceptedAmount .copy s n) s))
        (acceptOrder n .copy s) := by
      have := hshot i
      exact Keeps.acceptOpened (Keeps.refl _) (apart_byte (by omega)) fun _ => apart_byte (by omega)
    have zero : byteAt (clearedOutcome n (acceptedAmount .copy s n) s) (shotOutcome n i + 0x0E) = 0 :=
      (zeroOn_clearedOutcome n _ s (by have := hshot i; omega)).byteAt rfl
    rw [last.byteAt rfl, byteAt_markTrims (memoryOk_clearedOutcome hm) hi, zero, shotCount_beside cleared,
      trimOutside_beside cleared hi]

/-- The outcome area of an accepted stand task is 0 but for its sub-state (R28, R173). -/
theorem zero_acceptOrder_task {k : OrderKind} (hm : MemoryOk s) (hk : k ≠ .copy) {a : Nat} (ha : within (outcome n) 0x200 a)
    (h1 : a ≠ outcome n + 1) : Memory.read (acceptOrder n k s).mem a = 0 := by
  have hs := slotBase_eq n
  have ho := outcome_eq n
  have none : acceptedAmount k s n = 0 := if_neg hk
  have start : ZeroOn (fun b => b = a) (zeroBytes (outcome n) (outcome n + 0x200) s) := zeroOn_zeroBytes fun b e => e ▸ ha
  have sub : ZeroOn (fun b => b = a) (setByte (outcome n + 1) 1 (zeroBytes (outcome n) (outcome n + 0x200) s)) :=
    start.keep ((Keeps.refl _).setByte (apart_byte (by omega)))
  have subOk := memoryOk_setByte (a := outcome n + 1) (n := 1)
    (memoryOk_zeroBytes (x := outcome n) (y := outcome n + 0x200) hm)
  have cleared : ZeroOn (fun b => b = a) (clearedOutcome n (acceptedAmount k s n) s) := by
    rw [none]
    exact (sub.setLong subOk).setLong (memoryOk_setLong subOk)
  exact cleared.keep ((Keeps.refl _).acceptOrder (apart_byte (by omega)) (fun e => absurd e hk) fun e => absurd e hk) a rfl

/-! ### The choice of a take (R23) -/

theorem chooseEntry_of (h : Chosen s n) : chooseEntry s = some n ∧ n ∈ s.orders.intake := by
  unfold chooseEntry
  rcases h with ⟨pre, post, hl, hr, hpre⟩ | ⟨hall, hhead⟩
  · have found : s.orders.intake.find? (fun x => isRush s x) = some n := by
      rw [hl, List.find?_append, List.find?_eq_none.mpr (by simpa using hpre)]
      simp [hr]
    rw [found]
    exact ⟨rfl, by simp [hl]⟩
  · have none : s.orders.intake.find? (fun x => isRush s x) = none := List.find?_eq_none.mpr (by simpa using hall)
    rw [none]
    exact ⟨hhead, List.mem_of_head? hhead⟩

theorem handleSlotMark_unmarked (h : n ∉ s.watch.slotOrder) : handleSlotMark n s = s := if_neg h

theorem mayTake_of (h : n ∈ s.orders.intake) (ha : activeOrders s < 4) : mayTake s = true := by
  unfold mayTake
  rw [decide_eq_true (List.ne_nil_of_mem h), decide_eq_true (show activeOrders s < Config.runDepth from ha)]
  rfl

theorem exec_take (hw : atWork s = true) (h : mayTake s = true) : exec .take s = .next (takeFrom s.orders.intake.length s) := by
  show Host.Outcome.next (if atWork s && mayTake s then takeFrom s.orders.intake.length s else s) = _
  rw [hw, h]
  rfl

/-- A take whose chosen slot is FILED once its mark is handled takes it. -/
theorem takeFrom_filed (h : chooseEntry s = some n) (hmem : n ∈ s.orders.intake)
    (hf : recordedHand (handleSlotMark n s) n = .filed) :
    takeFrom s.orders.intake.length s = takeSlot n (handleSlotMark n s) := by
  obtain ⟨k, hk⟩ : ∃ k, s.orders.intake.length = k + 1 := ⟨_, (Nat.sub_add_cancel (List.length_pos_of_mem hmem)).symm⟩
  rw [hk, takeFrom, h]
  exact if_pos hf

theorem exec_take_due (h : TakeDue s n) : exec .take s = .next (takeSlot n s) := by
  obtain ⟨hw, hactive, hchosen, hmark, hfiled⟩ := h
  obtain ⟨hchoose, hmem⟩ := chooseEntry_of hchosen
  have unmarked := handleSlotMark_unmarked hmark
  rw [exec_take hw (mayTake_of hmem hactive), takeFrom_filed hchoose hmem (by rw [unmarked]; exact hfiled), unmarked]

/-- The slot leaves the intake queue (R22). -/
def outOfIntake (n : Slot) (s : State) : State := setIntake (dropMember s.orders.intake n) s

theorem takeSlot_refuses {c : RefusalCode} (h : checkOrder s n = .inl c) : takeSlot n s = refuseOrder n c (outOfIntake n s) := by
  have same : checkOrder (setIntake (dropMember s.orders.intake n) s) n = .inl c := h
  unfold takeSlot
  dsimp only
  rw [same]
  rfl

theorem takeSlot_accepts {k : OrderKind} (h : checkOrder s n = .inr k) : takeSlot n s = acceptOrder n k (outOfIntake n s) := by
  have same : checkOrder (setIntake (dropMember s.orders.intake n) s) n = .inr k := h
  unfold takeSlot
  dsimp only
  rw [same]
  rfl

theorem intake_outOfIntake (s : State) : n ∉ (outOfIntake n s).orders.intake
    ∧ ∀ m, m ≠ n → (m ∈ (outOfIntake n s).orders.intake ↔ m ∈ s.orders.intake) := by
  unfold outOfIntake
  rw [setIntake_intake]
  exact ⟨by simp [mem_dropMember], fun m hm => by simp [mem_dropMember, hm]⟩

end Sys2Proof.Proofs
end

section
/-! SUPPORT. A take with a pending mark, and the statement about takes (R10, R23, R26, R28). -/

namespace Sys2Proof.Proofs

open Sys2Proof Sys2Proof.Machine Sys2Proof.Safety Sys2Proof.Laws Sys2Proof.Claims

variable {s t u : State} {n m : Slot} {K : Nat → Prop}

/-! ### The mark of a FILED slot (R9, R10) -/

/-- The marks replaced. -/
def withMarks (w : Watch) (s : State) : State := { s with watch := w }

theorem unlisted_of_filed (hr : recordedHand s n = .filed) (h0 : handFound s n ≠ 0) (h1 : handFound s n ≠ 1) :
    ¬ slotPairListed (recordedHand s n) (handFound s n) := by
  rw [hr]
  rintro (h | ⟨h, _⟩ | ⟨_, h⟩ | ⟨h, _⟩ | ⟨h, _⟩)
  · exact h1 h
  · rcases h with h | h <;> exact absurd h (by decide)
  · exact h0 h
  · exact absurd h (by decide)
  · exact absurd h (by decide)

/-- The hand rule of a FILED slot does not look at the marks. -/
theorem slotHandRule_withMarks (w : Watch) (hr : recordedHand s n = .filed) :
    slotHandRule n (withMarks w s) = withMarks w (slotHandRule n s) := by
  by_cases h1 : handFound s n = 1
  · have listed : handFound s n = (recordedHand s n).code := by rw [hr, h1]; rfl
    rw [slotHandRule_same listed, slotHandRule_same (s := withMarks w s) listed]
  by_cases h0 : handFound s n = 0
  · rw [slotHandRule_retracts hr h0, slotHandRule_retracts (s := withMarks w s) hr h0]
    rfl
  · have unlisted := unlisted_of_filed hr h0 h1
    rw [slotHandRule_refuses unlisted, slotHandRule_refuses (s := withMarks w s) unlisted, setWord_only_mem,
      setWord_only_mem _ _ s]
    rfl

/-- What the mark of a FILED slot leaves: the slot retracted with EMPTY found, and otherwise the orders as they were. -/
theorem slotHandRule_filed (hr : recordedHand s n = .filed) :
    (handFound s n = 0 → recordedHand (slotHandRule n s) n = .empty
        ∧ (slotHandRule n s).orders.intake = dropMember s.orders.intake n)
      ∧ (handFound s n ≠ 0 → (slotHandRule n s).orders = s.orders)
      ∧ (slotHandRule n s).orders.runList = s.orders.runList
      ∧ Keeps (fun a => ¬ within (slotBase n) 2 a) s (slotHandRule n s)
      ∧ atWork (slotHandRule n s) = atWork s := by
  by_cases h1 : handFound s n = 1
  · have listed : handFound s n = (recordedHand s n).code := by rw [hr, h1]; rfl
    rw [slotHandRule_same listed]
    exact ⟨fun h => absurd (h.symm.trans h1) (by decide), fun _ => rfl, rfl, .refl s, rfl⟩
  by_cases h0 : handFound s n = 0
  · rw [slotHandRule_retracts hr h0]
    exact ⟨fun _ => ⟨recordedHand_same _ _ _, rfl⟩, fun h => absurd h0 h, rfl, .refl s, rfl⟩
  · rw [slotHandRule_refuses (unlisted_of_filed hr h0 h1)]
    refine ⟨fun h => absurd h h0, fun _ => ?_, ?_, ((Keeps.refl s).setWord (apart_others fun b hb hb' => ⟨hb, hb'⟩)).raise, ?_⟩
    · rw [raise_orders, setWord_orders]
    · rw [raise_orders, setWord_orders]
    · unfold atWork started raise
      dsimp only
      rw [setWord_control]

theorem isRush_keeps (h : Keeps (fun a => ¬ within (slotBase n) 2 a) s t) (m : Slot) : isRush t m = isRush s m := by
  have hn := slotBase_eq n
  have hm := slotBase_eq m
  unfold isRush
  rw [h.byteAt (by omega)]

theorem chooseEntry_congr (hi : t.orders.intake = s.orders.intake) (hr : ∀ m, isRush t m = isRush s m) :
    chooseEntry t = chooseEntry s := by
  have same : (fun m => isRush t m) = fun m => isRush s m := funext hr
  unfold chooseEntry
  rw [hi, same]

/-! ### The fuel of a take -/

theorem mem_of_chooseEntry (h : chooseEntry s = some n) : n ∈ s.orders.intake := by
  unfold chooseEntry at h
  split at h
  · next m hm =>
    obtain rfl := Option.some.inj h
    exact List.mem_of_find?_eq_some hm
  · exact List.mem_of_head? h

theorem chooseEntry_nil (h : s.orders.intake = []) : chooseEntry s = none := by
  unfold chooseEntry
  rw [h]
  rfl

theorem length_dropMember_lt {xs : List Slot} (h : n ∈ xs) : (dropMember xs n).length < xs.length :=
  List.length_filter_lt_length_iff_exists.mpr ⟨n, h, by simp⟩

/-- A mark that leaves a chosen slot not FILED shortens the intake queue and keeps every other slot FILED. -/
theorem retracted_of_mark (hall : ∀ m ∈ s.orders.intake, recordedHand s m = .filed) (hmem : n ∈ s.orders.intake)
    (hf : recordedHand (handleSlotMark n s) n ≠ .filed) :
    (handleSlotMark n s).orders.intake.length < s.orders.intake.length
      ∧ ∀ m ∈ (handleSlotMark n s).orders.intake, recordedHand (handleSlotMark n s) m = .filed := by
  have filed := hall n hmem
  unfold handleSlotMark at hf ⊢
  split at hf
  · next hmark =>
    rw [if_pos hmark]
    have found : handFound s n = 0 := by
      by_contra h0
      refine hf ?_
      show recordedHand (slotHandRule n (slotMarkTaken n s)) n = _
      unfold recordedHand
      rw [(slotHandRule_filed (s := slotMarkTaken n s) filed).2.1 h0]
      exact filed
    have rule := slotHandRule_retracts (s := slotMarkTaken n s) filed found
    unfold slotMarkTaken at rule
    rw [rule]
    refine ⟨length_dropMember_lt hmem, fun m hm => ?_⟩
    obtain ⟨hm, hne⟩ := mem_dropMember.mp hm
    exact (recordedHand_other _ _ hne).trans (hall m hm)
  · exact absurd filed hf

theorem takeFrom_nil (h : s.orders.intake = []) (k : Nat) : takeFrom k s = s := by
  cases k with
  | zero => rfl
  | succ k => rw [takeFrom, chooseEntry_nil h]

/-- The fuel of a take does not matter once it covers the intake queue. -/
theorem takeFrom_fuel {f g : Nat} (hall : ∀ m ∈ s.orders.intake, recordedHand s m = .filed) (hf : s.orders.intake.length ≤ f)
    (hg : s.orders.intake.length ≤ g) : takeFrom f s = takeFrom g s := by
  induction f generalizing g s with
  | zero =>
    have nil : s.orders.intake = [] := List.length_eq_zero_iff.mp (by omega)
    rw [takeFrom_nil nil, takeFrom_nil nil]
  | succ f ih =>
    cases g with
    | zero =>
      have nil : s.orders.intake = [] := List.length_eq_zero_iff.mp (by omega)
      rw [takeFrom_nil nil, takeFrom_nil nil]
    | succ g =>
      rw [takeFrom, takeFrom]
      cases hc : chooseEntry s with
      | none => rfl
      | some n =>
        dsimp only
        split
        · rfl
        · next h =>
          obtain ⟨shorter, kept⟩ := retracted_of_mark hall (mem_of_chooseEntry hc) h
          exact ih kept (by omega) (by omega)

/-- The marks once slot n's mark is taken. -/
def marksWithout (n : Slot) (w : Watch) : Watch := { w with slotOrder := w.slotOrder.filter fun m => decide (m ≠ n) }

/-- A take whose chosen slot has a mark goes on as the take after that mark (R10). -/
theorem take_after_mark (hdue : MarkedTakeDue s n) :
    exec .take s = exec .take (withMarks (marksWithout n s.watch) (slotHandRule n s)) := by
  obtain ⟨hw, hactive, hchosen, hmark, hall⟩ := hdue
  obtain ⟨hchoose, hmem⟩ := chooseEntry_of hchosen
  have filed := hall n hmem
  have handled : handleSlotMark n s = withMarks (marksWithout n s.watch) (slotHandRule n s) :=
    (if_pos hmark).trans (slotHandRule_withMarks (marksWithout n s.watch) filed)
  have unmarked : n ∉ (handleSlotMark n s).watch.slotOrder := by
    rw [handled]
    simp [withMarks, marksWithout]
  obtain ⟨empties, keeps, hruns, hbytes, hatWork⟩ := slotHandRule_filed filed
  have rush (m : Slot) : isRush (handleSlotMark n s) m = isRush s m := by
    rw [handled]
    exact isRush_keeps (t := withMarks _ _) hbytes m
  have working : atWork (handleSlotMark n s) = true := by
    rw [handled]
    exact hatWork.trans hw
  have active : activeOrders (handleSlotMark n s) < 4 := by
    rw [handled]
    unfold activeOrders withMarks
    dsimp only
    rw [hruns]
    exact hactive
  rw [← handled, exec_take hw (mayTake_of hmem hactive)]
  by_cases h0 : handFound s n = 0
  · have hand : recordedHand (handleSlotMark n s) n ≠ .filed := by
      rw [handled]
      show recordedHand (slotHandRule n s) n ≠ .filed
      rw [(empties h0).1]
      decide
    obtain ⟨shorter, kept⟩ := retracted_of_mark hall hmem hand
    have retried : takeFrom s.orders.intake.length s
        = takeFrom (handleSlotMark n s).orders.intake.length (handleSlotMark n s) := by
      obtain ⟨k, hk⟩ : ∃ k, s.orders.intake.length = k + 1 := ⟨_, (Nat.sub_add_cancel (List.length_pos_of_mem hmem)).symm⟩
      rw [hk, takeFrom, hchoose]
      exact (if_neg hand).trans (takeFrom_fuel kept (by omega) (Nat.le_refl _))
    rw [retried]
    cases hi : (handleSlotMark n s).orders.intake with
    | nil =>
      have stops : mayTake (handleSlotMark n s) = false := by simp [mayTake, hi]
      show _ = Host.Outcome.next (if atWork _ && mayTake _ then _ else _)
      rw [stops, Bool.and_false, if_neg (by decide), takeFrom_nil hi]
    | cons m rest =>
      rw [exec_take working (mayTake_of (n := m) (by rw [hi]; exact List.mem_cons_self) active), hi]
  · have same : (handleSlotMark n s).orders = s.orders := by rw [handled]; exact keeps h0
    have hand : recordedHand (handleSlotMark n s) n = .filed := by
      unfold recordedHand
      rw [same]
      exact filed
    have again : handleSlotMark n (handleSlotMark n s) = handleSlotMark n s := handleSlotMark_unmarked unmarked
    have choice : chooseEntry (handleSlotMark n s) = some n :=
      (chooseEntry_congr (congrArg Orders.intake same) rush).trans hchoose
    have mem : n ∈ (handleSlotMark n s).orders.intake := by rw [same]; exact hmem
    rw [takeFrom_filed hchoose hmem hand, exec_take working (mayTake_of mem active),
      takeFrom_filed choice mem (by rw [again]; exact hand), again]

theorem marked_take (hdue : MarkedTakeDue s n) :
    ∃ u, exec .slotMarkTake { s with watch := { s.watch with slotOrder := [n] } } = .next u
      ∧ exec .take s = exec .take { u with watch :=
          { s.watch with slotOrder := s.watch.slotOrder.filter fun m => decide (m ≠ n) } }
      ∧ (handFound s n = 0 → recordedHand u n = .empty ∧ n ∉ u.orders.intake)
      ∧ (handFound s n ≠ 0 → recordedHand u n = .filed ∧ u.orders = s.orders) := by
  have filed := hdue.2.2.2.2 n (chooseEntry_of hdue.2.2.1).2
  have due : SlotMarkDue { s with watch := { s.watch with slotOrder := [n] } } n := ⟨hdue.1, rfl⟩
  have rule : slotHandRule n (slotMarkTaken n { s with watch := { s.watch with slotOrder := [n] } })
      = withMarks { s.watch with slotOrder := dropMember [n] n } (slotHandRule n s) :=
    slotHandRule_withMarks _ filed
  obtain ⟨empties, keeps, _⟩ := slotHandRule_filed filed
  refine ⟨_, (exec_slotMarkTake due).trans (congrArg Host.Outcome.next rule), take_after_mark hdue, fun h0 => ?_, fun h0 => ?_⟩
  · obtain ⟨hand, intake⟩ := empties h0
    refine ⟨hand, ?_⟩
    show n ∉ (slotHandRule n s).orders.intake
    rw [intake]
    simp [mem_dropMember]
  · have same := keeps h0
    refine ⟨?_, same⟩
    show recordedHand (slotHandRule n s) n = .filed
    unfold recordedHand
    rw [same]
    exact filed

/-! ### The statement about takes -/

/-- What every accepted order's take gives (R28, R29). -/
theorem accepted_take {k : OrderKind} (hm : MemoryOk s) (hdue : TakeDue s n) (hc : checkOrder s n = .inr k) :
    Answers .take s fun t =>
      t = acceptOrder n k (outOfIntake n s) ∧ recordedHand t n = .taken ∧ handFound t n = 2
        ∧ ClearedReads n (acceptedAmount k s n) t ∧ remaining t n = acceptedAmount k s n
        ∧ n ∉ t.orders.intake ∧ (∀ m, m ≠ n → (m ∈ t.orders.intake ↔ m ∈ s.orders.intake))
        ∧ KeepsOtherHands n s t ∧ EntersRunList s t n k ∧ t = { s with mem := t.mem, orders := t.orders } := by
  have memory : MemoryOk (outOfIntake n s) := hm
  have orders := acceptOrder_orders n k (outOfIntake n s)
  have recorded := congrArg Orders.recorded orders
  have intake := congrArg Orders.intake orders
  have amount : acceptedAmount k (outOfIntake n s) n < 16777216 := by
    have := acceptedAmount_fits (s := outOfIntake n s) hc
    omega
  have cleared := clearedReads memory amount
  have left := remaining_acceptOrder (m := n) memory hc
  rw [if_pos rfl] at left
  obtain ⟨gone, others⟩ := intake_outOfIntake (n := n) s
  refine ⟨_, (exec_take_due hdue).trans (congrArg Host.Outcome.next (takeSlot_accepts hc)), rfl, recordedHand_of recorded,
    handFound_acceptOrder memory, cleared, left, ?_, fun m hne => ?_, keepsOtherHands_of recorded,
    enters_acceptOrder rfl rfl, acceptOrder_only n k (outOfIntake n s)⟩
  · rw [intake]; exact gone
  · rw [intake]; exact others m hne

/-- Settles O18: the outcome area of a refused order, of an accepted COPY order and of an accepted stand task, and the take
after a pending mark. -/
theorem takeRefusesOrCommitsTheOrder : Obligations.TakeRefusesOrCommitsTheOrder := by
  unfold Obligations.TakeRefusesOrCommitsTheOrder
  refine ⟨fun s n c hm hdue hc => ?_, fun s n hm hdue hc => ?_, fun s n k hm hdue hc hk => ?_, fun s n _ hdue => marked_take hdue⟩
  · have reads := refusedReads (n := n) (c := c) (s := outOfIntake n s) hm
    have orders := refuseOrder_orders n c (outOfIntake n s)
    have recorded := congrArg Orders.recorded orders
    have intake := congrArg Orders.intake orders
    have runs := congrArg Orders.runList orders
    have control := refuseOrder_control n c (outOfIntake n s)
    obtain ⟨gone, others⟩ := intake_outOfIntake (n := n) s
    refine ⟨_, (exec_take_due hdue).trans (congrArg Host.Outcome.next (takeSlot_refuses hc)), recordedHand_of recorded,
      reads.found, reads.state, reads.code, reads.zero, reads.others, ?_, fun m hne => ?_, runs,
      keepsOtherHands_of recorded, raisesOnly_of_control control, keepsStartUp_of_control control,
      refuseOrder_only n c (outOfIntake n s)⟩
    · rw [intake]; exact gone
    · rw [intake]; exact others m hne
  · obtain ⟨t, ht, heq, hand, found, cleared, left, gone, others, hands, enters, only⟩ := accepted_take hm hdue hc
    obtain ⟨index, _⟩ := accountIndex_of_checked hc
    have committed := committed_acceptOrder (s := outOfIntake n s) hm hc ⟨accountIndex s n, by omega⟩
    have shots (i : Nat) (hi : i < 24) := shots_acceptOrder (n := n) (s := outOfIntake n s) hm hi
    have bytes : KeepsBytes s (acceptOrder n .copy (outOfIntake n s)) fun a => within (slotBase n) 2 a
        ∨ within (outcome n) 0x200 a ∨ within (accountBase (accountIndex s n) + 0x14) 4 a := by
      have ho := outcome_eq n
      have hshot := shotOutcome_eq n
      refine Keeps.acceptOrder (fun a ha => keeps_clearedOutcome n _ (outOfIntake n s) a fun c => ha (.inr (.inl c)))
        (apart_others fun b hb hb' => .inl ⟨hb, hb'⟩) (fun _ i hi => apart_others fun b hb hb' => .inr (.inl ?_))
        fun _ => apart_others fun b hb hb' => .inr (.inr ⟨hb, hb'⟩)
      have := hshot i
      have := slotBase_eq n
      omega
    rw [← heq] at committed shots bytes
    refine ⟨t, ht, hand, found, cleared.state, cleared.sub, cleared.planned, left, cleared.charged, ?_, shots, bytes, gone,
      hands, enters, only⟩
    exact committed.trans (congrArg (_ + ·) (if_pos rfl))
  · obtain ⟨t, ht, heq, hand, found, cleared, left, gone, others, hands, enters, only⟩ := accepted_take hm hdue hc
    have amount : acceptedAmount k s n = 0 := if_neg hk
    have zero (a : Nat) (ha : within (outcome n) 0x200 a) (h1 : a ≠ outcome n + 1) :=
      zero_acceptOrder_task (s := outOfIntake n s) hm hk ha h1
    have bytes : KeepsBytes s (acceptOrder n k (outOfIntake n s)) fun a => within (slotBase n) 2 a
        ∨ within (outcome n) 0x200 a :=
      Keeps.acceptOrder (fun a ha => keeps_clearedOutcome n _ (outOfIntake n s) a fun c => ha (.inr c))
        (apart_others fun b hb hb' => .inl ⟨hb, hb'⟩) (fun e => absurd e hk) fun e => absurd e hk
    rw [← heq] at zero bytes
    rw [amount] at cleared left
    exact ⟨t, ht, hand, found, cleared.state, cleared.sub, cleared.planned, left, cleared.charged, zero, bytes, gone, others,
      hands, enters, only⟩

end Sys2Proof.Proofs
end

section
/-! SUPPORT. The stand reset block by block: which parts of the state each block's reset changes, and to what (R72, R95, R149,
R168, R195). -/

namespace Sys2Proof.Proofs

open Sys2Proof Sys2Proof.Machine Sys2Proof.Safety Sys2Proof.Laws Sys2Proof.Claims

variable {s t u : State} {n m : Slot}

/-! ### Changes of common memory alone -/

theorem setFrameState_only_mem (sh : Sheet) (k : Nat) (f : FrameState) (s : State) :
    setFrameState sh k f s = { s with mem := (setFrameState sh k f s).mem } := rfl

theorem setLabelState_only_mem (sh : Sheet) (k : Nat) (l : LabelState) (s : State) :
    setLabelState sh k l s = { s with mem := (setLabelState sh k l s).mem } := rfl

theorem closeFrame_only_mem (sh : Sheet) (k : Nat) (f : FrameState) (s : State) :
    closeFrame sh k f s = { s with mem := (closeFrame sh k f s).mem } := by
  unfold closeFrame
  dsimp only
  split
  · exact only_mem_trans (setFrameState_only_mem sh k f s) (setByte_only_mem _ _ _)
  · rfl

theorem dropReserved_only_mem (sh : Sheet) (k : Nat) (s : State) :
    dropReserved sh k s = { s with mem := (dropReserved sh k s).mem } := by
  unfold dropReserved
  split
  · exact closeFrame_only_mem sh k .unused s
  · rfl

theorem dropAllReserved_only_mem (sh : Sheet) (x : Option Nat) (s : State) :
    dropAllReserved sh x s = { s with mem := (dropAllReserved sh x s).mem } :=
  foldl_only_mem (fun t k => by
    split
    · rfl
    · exact dropReserved_only_mem sh k t) _ s

theorem dropShotFrames_only_mem (r : ShotRecord) (s : State) :
    dropShotFrames r s = { s with mem := (dropShotFrames r s).mem } := by
  unfold dropShotFrames
  exact foldl_only_mem (f := fun s (f : SetFrame) => dropReserved (shotSheet r) f.frame s)
    (fun t f => dropReserved_only_mem (shotSheet r) f.frame t) r.frames s

/-! ### Flags only rise -/

/-- No flag is cleared, and nothing else of the stand control changes. -/
def FlagsGrow (s t : State) : Prop :=
  t.control = { s.control with notice := t.control.notice, seen := t.control.seen }
    ∧ ∀ f, flagSet s f = true → flagSet t f = true

namespace FlagsGrow

theorem same (h : t.control = s.control) : FlagsGrow s t := by
  unfold FlagsGrow flagSet
  rw [h]
  exact ⟨rfl, fun _ => id⟩

theorem trans (h : FlagsGrow s t) (k : FlagsGrow t u) : FlagsGrow s u :=
  ⟨k.1.trans (by rw [h.1]), fun f hf => k.2 f (h.2 f hf)⟩

theorem raise (f : Flag) (s : State) : FlagsGrow s (raise f s) := by
  refine ⟨rfl, fun g hg => ?_⟩
  have kept : (s.control.notice ||| f.mask).getLsbD g.bit = true := by
    rw [BitVec.getLsbD_or]
    exact Bool.or_eq_true_iff.mpr (.inl hg)
  exact kept

end FlagsGrow

/-! ### The stand and the gate -/

/-- The stand control at the start of a stand reset. -/
def standStopped (s : State) : State :=
  setResetCause .none (setStand .stopped .none { s with control := { s.control with resetting := true } })

theorem standStopped_only (s : State) : standStopped s = { s with
    mem := (standStopped s).mem
    control := { s.control with resetting := true, stand := .stopped, cause := .none, resetCause := .none } } := rfl

theorem writeSpoiled_only (r : ShotRecord) (f : SetFrame) (c : SpoilCause) (s : State) :
    writeSpoiled r f c s = { s with
      mem := (writeSpoiled r f c s).mem, gate := { s.gate with shot := some (markRecorded f.frame r) } } := by
  have closed := only_mem_trans (t := setSpoilCause (shotSheet r) f.frame c s) rfl
    (closeFrame_only_mem (shotSheet r) f.frame .spoiled _)
  have counted : writeSpoiled r f c s = { setShot (markRecorded f.frame r)
      (closeFrame (shotSheet r) f.frame .spoiled (setSpoilCause (shotSheet r) f.frame c s)) with
        mem := (writeSpoiled r f c s).mem } :=
    only_mem_trans (setByte_only_mem _ _ _) (setWord_only_mem _ _ _)
  exact counted.trans (congrArg (fun v : State => { v with
    mem := (writeSpoiled r f c s).mem, gate := { v.gate with shot := some (markRecorded f.frame r) } }) closed)

theorem spoilPassage_only (r : ShotRecord) (s : State) :
    spoilPassage r s = { s with mem := (spoilPassage r s).mem, gate := (spoilPassage r s).gate } := by
  unfold spoilPassage
  split
  · rw [writeSpoiled_only]
  · rfl

theorem resetGate_only (s : State) : resetGate s = { s with
    mem := (resetGate s).mem
    gate := Gate.reset
    exposure := { s.exposure with holder := none }
    orders := { s.orders with choice := none } } := by
  unfold resetGate
  split
  · rfl
  · next r _ =>
    rw [dropShotFrames_only_mem]
    split
    · rw [spoilPassage_only]
      rfl
    · rfl

/-! ### The backs (R95) -/

/-- A Back Unit with its film in motion, jammed (R90). -/
def jammedUnit (u : BackUnit) : BackUnit :=
  { u with state := .jammed, motor := stoppedMotor u.motor, shutter := closedShutter u.shutter, origin := .none }

/-- A Back Unit whose shutter is commanded closed at a reset (R95). -/
def closingUnit (u : BackUnit) : BackUnit :=
  { u with state := .stale, origin := .none, shutter := { u.shutter with command := .close, timer := some 1600 } }

/-- A Back Unit after its reset (R95). -/
def unitAfterReset (u : BackUnit) : BackUnit :=
  let v := if inMotion u.state then jammedUnit u else if shutterInUse u then closingUnit u else u
  { v with
    motor := { stoppedMotor v.motor with perforations := 0 }
    shutter := if shutterInUse u then v.shutter else { v.shutter with command := .none, timer := none } }

/-- Only common memory, the flags and the back's unit may differ, and the unit is as given. -/
structure BackBecomes (bk : Back) (x : BackUnit) (s t : State) : Prop where
  unit : t.back bk = x
  other : t.back (otherBack bk) = s.back (otherBack bk)
  rest : t = { s with mem := t.mem, backA := t.backA, backB := t.backB, control := t.control }
  flags : FlagsGrow s t

theorem BackBecomes.setBack {bk : Back} {x : BackUnit} (h : BackBecomes bk x s t) (y : BackUnit) :
    BackBecomes bk y s (setBack bk y t) := by
  have rest := h.rest
  have other := h.other
  have control := h.flags
  cases bk
  · exact ⟨rfl, other, congrArg (fun v : State => { v with backA := y }) rest, control⟩
  · exact ⟨rfl, other, congrArg (fun v : State => { v with backB := y }) rest, control⟩

theorem BackBecomes.report {bk : Back} {x : BackUnit} {k v : Nat} (h : BackBecomes bk x s t) :
    BackBecomes bk x s (report k v t) := by
  obtain ⟨hu, ho, hr, hc⟩ := h
  refine ⟨(back_report ..).trans hu, (back_report ..).trans ho, ?_, hc⟩
  exact congrArg (fun w : State => { w with mem := (Machine.report k v t).mem }) hr

theorem BackBecomes.enterBack {bk : Back} {x : BackUnit} {st : BackState} (h : BackBecomes bk x s t) :
    BackBecomes bk { x with state := st, origin := if st = .rewinding then x.origin else .none } s (enterBack bk st t) := by
  unfold Machine.enterBack
  dsimp only
  rw [h.unit]
  exact (h.setBack _).report

theorem BackBecomes.raise {bk : Back} {x : BackUnit} {f : Flag} (h : BackBecomes bk x s t) : BackBecomes bk x s (raise f t) := by
  obtain ⟨hu, ho, hr, hc⟩ := h
  exact ⟨(back_raise ..).trans hu, (back_raise ..).trans ho,
    congrArg (fun v : State => { v with control := (Machine.raise f t).control }) hr, hc.trans (.raise f t)⟩

/-- The frames that a jam drops (R90). -/
def jamDropped (bk : Back) (s : State) : State :=
  match liveSheet s bk with
  | some sh => dropAllReserved sh (jamException (s.back bk)) s
  | none => s

theorem jamBack_eq (bk : Back) (s : State) :
    jamBack bk s = raise .backFault (enterBack bk .jammed (setShutter bk
      (closedShutter ((stopMotor bk (jamDropped bk s)).back bk).shutter) (stopMotor bk (jamDropped bk s)))) := rfl

theorem jamDropped_only_mem (bk : Back) (s : State) : jamDropped bk s = { s with mem := (jamDropped bk s).mem } := by
  unfold jamDropped
  split
  · exact dropAllReserved_only_mem ..
  · rfl

theorem jamDropped_becomes (bk : Back) (s : State) : BackBecomes bk (s.back bk) s (jamDropped bk s) := by
  rw [jamDropped_only_mem]
  cases bk <;> exact ⟨rfl, rfl, rfl, .same rfl⟩

theorem jamBack_becomes (bk : Back) (s : State) : BackBecomes bk (jammedUnit (s.back bk)) s (jamBack bk s) := by
  have motor : BackBecomes bk { s.back bk with motor := stoppedMotor (s.back bk).motor } s (stopMotor bk (jamDropped bk s)) := by
    unfold stopMotor setMotor
    rw [(jamDropped_becomes bk s).unit]
    exact (jamDropped_becomes bk s).setBack _
  rw [jamBack_eq, setShutter, motor.unit]
  exact ((motor.setBack { s.back bk with
    motor := stoppedMotor (s.back bk).motor, shutter := closedShutter (s.back bk).shutter }).enterBack (st := .jammed)).raise

theorem resetBack_becomes (bk : Back) (s : State) : BackBecomes bk (unitAfterReset (s.back bk)) s (resetBack bk s) := by
  have moved : BackBecomes bk
      (if inMotion (s.back bk).state then jammedUnit (s.back bk)
        else if shutterInUse (s.back bk) then closingUnit (s.back bk) else s.back bk) s
      (if inMotion (s.back bk).state then jamBack bk s
        else if shutterInUse (s.back bk) then commandClose bk (enterBack bk .stale s) else s) := by
    split
    · exact jamBack_becomes bk s
    split
    · have entered : BackBecomes bk { s.back bk with state := .stale, origin := .none } s (enterBack bk .stale s) :=
        BackBecomes.enterBack (x := s.back bk) (by cases bk <;> exact ⟨rfl, rfl, rfl, .same rfl⟩)
      unfold commandClose
      rw [entered.unit]
      exact entered.setBack _
    · cases bk <;> exact ⟨rfl, rfl, rfl, .same rfl⟩
  unfold resetBack
  dsimp only
  rw [moved.unit]
  exact moved.setBack _

/-! ### The carriage, the feeder and the labels -/

/-- The carriage after its reset (R95). -/
def carriageAfterReset (c : Carriage) : Carriage :=
  if c.state = .shifting ∨ c.state = .homing then { c with homingTimer := none, state := .fault } else c

theorem resetCarriage_only (s : State) : resetCarriage s = { s with
    mem := (resetCarriage s).mem
    carriage := carriageAfterReset s.carriage } := by
  have moving : carriageStill s = false ↔ s.carriage.state = .shifting ∨ s.carriage.state = .homing := by
    unfold carriageStill
    cases s.carriage.state <;> decide
  unfold resetCarriage carriageAfterReset
  split
  · next h => rw [if_neg fun c => by rw [moving.mpr c] at h; exact Bool.noConfusion h]
  · next h =>
    rw [if_pos (moving.mp (by simpa using h))]
    rfl

/-- The labels skipped at a stand reset: those of the queue, and then every label that still waits (R168). -/
def labelsSkipped (s : State) : State :=
  let u := s.labels.queue.foldl (fun s e => setLabelState e.sheet e.frame .skipped s) s
  (allFrames.filter fun x => isWaiting u x).foldl (fun s x => setLabelState x.1 x.2 .skipped s) u

/-- The label counts cleared. -/
def labelsCleared (s : State) : State := setErrors 0 (setWaitingCount 0 (setQueue [] s))

/-- The line as the Label Unit's reset leaves it before the INQUIRE. -/
def lineCleared (s : State) : State :=
  { s with labels := { s.labels with
      resend := false, replyTimer := none, inquiryTimer := none, receiver := .idle, held := none, transmitter := [] } }

theorem resetLabels_eq (s : State) :
    resetLabels s = enterInquiring .unknown (lineCleared (labelsCleared (labelsSkipped s))) := rfl

theorem labelsSkipped_only_mem (s : State) : labelsSkipped s = { s with mem := (labelsSkipped s).mem } := by
  unfold labelsSkipped
  dsimp only
  exact only_mem_trans
    (foldl_only_mem (f := fun s (e : LabelEntry) => setLabelState e.sheet e.frame .skipped s)
      (fun t e => setLabelState_only_mem e.sheet e.frame .skipped t) s.labels.queue s)
    (foldl_only_mem (f := fun s (x : Sheet × Nat) => setLabelState x.1 x.2 .skipped s)
      (fun t x => setLabelState_only_mem x.1 x.2 .skipped t) _ _)

/-- The Label Unit after its reset (R168). -/
def labelsAfterReset (l : Labels) : Labels :=
  { l with
    queue := [], printer := .unknown, resend := false, replyTimer := none, inquiryTimer := some 20000, receiver := .idle
    held := none, transmitter := [.inquire], errors := 0 }

theorem resetLabels_only (s : State) : resetLabels s = { s with
    mem := (resetLabels s).mem, labels := labelsAfterReset s.labels } := by
  have line : resetLabels s = setLine [.inquire] (enterPrinter .unknown (lineCleared (labelsCleared (labelsSkipped s)))) := by
    have empty (v : State) : (enterPrinter .unknown (lineCleared v)).labels.transmitter = [] := rfl
    rw [resetLabels_eq, enterInquiring, sendInquire, if_pos (empty _)]
  have skipped := labelsSkipped_only_mem s
  have cleared : labelsCleared (labelsSkipped s) = { labelsSkipped s with
      mem := (labelsCleared (labelsSkipped s)).mem
      labels := { (labelsSkipped s).labels with queue := [], errors := 0 } } := by
    unfold labelsCleared setErrors
    rw [setWord_only_mem]
    rfl
  have labels : (labelsSkipped s).labels = s.labels := by rw [skipped]
  rw [labels] at cleared
  have both := cleared.trans (congrArg (fun v : State => { v with
    mem := (labelsCleared (labelsSkipped s)).mem, labels := { s.labels with queue := [], errors := 0 } }) skipped)
  rw [line]
  generalize labelsCleared (labelsSkipped s) = v at both
  rw [both]
  rfl

/-! ### The orders (R45, R46) -/

/-- Only common memory differs. -/
def OnlyMem (s t : State) : Prop := ∃ m, t = { s with mem := m }

theorem finishOrder_only (n : Slot) (o : OrderState) (s : State) : finishOrder n o s = { s with
    mem := (finishOrder n o s).mem
    orders := { s.orders with
      recorded := s.orders.recorded.set n.val .done n.isLt
      runList := s.orders.runList.filter fun e => decide (e.slot ≠ n) }
    control := (raise .orderDone s).control } := by
  have written : OnlyMem s
      (setWord (slotBase n) SlotHand.done.code (setByte (outcome n + 0x01) 0 (setByte (outcome n) o.code s))) :=
    ⟨_, only_mem_trans (only_mem_trans (setByte_only_mem _ _ _) (setByte_only_mem _ _ _)) (setWord_only_mem _ _ _)⟩
  unfold finishOrder writeHand
  dsimp only
  rw [refreshWanted_only_mem]
  generalize setWord (slotBase n) SlotHand.done.code (setByte (outcome n + 0x01) 0 (setByte (outcome n) o.code s)) = w at written
  obtain ⟨m, rfl⟩ := written
  rfl

theorem interruptOrder_only (e : OrderEntry) (s : State) : interruptOrder e s = { s with
    mem := (interruptOrder e s).mem
    orders := { s.orders with
      recorded := s.orders.recorded.set e.slot.val .done e.slot.isLt
      runList := s.orders.runList.filter fun f => decide (f.slot ≠ e.slot) }
    control := (raise .orderDone s).control } := by
  have ending : OnlyMem s (interrupting e s) := ⟨_, interrupting_only_mem e s⟩
  rw [interruptOrder_eq, finishOrder_only]
  generalize (finishOrder e.slot .interrupted (interrupting e s)).mem = m
  generalize interrupting e s = v at ending
  obtain ⟨m', rfl⟩ := ending
  rfl

/-- The orders of a list end, in their order (R45). -/
def interruptAll (xs : List OrderEntry) (s : State) : State := xs.foldl (fun s e => interruptOrder e s) s

theorem interruptAll_only (xs : List OrderEntry) (s : State) : interruptAll xs s = { s with
    mem := (interruptAll xs s).mem, orders := (interruptAll xs s).orders, control := (interruptAll xs s).control } := by
  refine foldl_keeps (I := fun t => t = { s with mem := t.mem, orders := t.orders, control := t.control })
    (fun t e _ h => ?_) rfl
  rw [interruptOrder_only]
  exact congrArg (fun v : State => { v with
    mem := (interruptOrder e t).mem
    orders := { t.orders with
      recorded := t.orders.recorded.set e.slot.val .done e.slot.isLt
      runList := t.orders.runList.filter fun f => decide (f.slot ≠ e.slot) }
    control := (raise .orderDone t).control }) h

theorem flagsGrow_interruptOrder (e : OrderEntry) (s : State) : FlagsGrow s (interruptOrder e s) :=
  (FlagsGrow.raise .orderDone s).trans (.same (by rw [interruptOrder_only]))

theorem flagsGrow_interruptAll (xs : List OrderEntry) (s : State) : FlagsGrow s (interruptAll xs s) :=
  foldl_keeps (I := FlagsGrow s) (fun t e _ h => h.trans (flagsGrow_interruptOrder e t)) (.same rfl)

/-- A list of orders that is not empty ends with ORDER_DONE set and not seen. -/
theorem orderDone_interruptAll {xs : List OrderEntry} (h : xs ≠ []) (s : State) :
    flagSet (interruptAll xs s) .orderDone = true ∧ flagSeen (interruptAll xs s) .orderDone = false := by
  obtain rfl | ⟨ys, e, rfl⟩ := List.eq_nil_or_concat xs
  · exact absurd rfl h
  · have last : interruptAll (ys ++ [e]) s = interruptOrder e (interruptAll ys s) := by simp [interruptAll]
    have control : (interruptOrder e (interruptAll ys s)).control = (raise .orderDone (interruptAll ys s)).control := by
      rw [interruptOrder_only]
    rw [List.concat_eq_append, last]
    unfold flagSet flagSeen
    rw [control]
    exact flag_raised (interruptAll ys s) .orderDone

theorem recordedHand_interruptOrder (e : OrderEntry) (s : State) (n : Slot) :
    recordedHand (interruptOrder e s) n = if n = e.slot then .done else recordedHand s n := by
  unfold recordedHand
  rw [interruptOrder_orders]
  exact recordedHand_set ..

theorem recordedHand_interruptAll (xs : List OrderEntry) (s : State) (n : Slot) :
    recordedHand (interruptAll xs s) n = if n ∈ xs.map OrderEntry.slot then .done else recordedHand s n := by
  induction xs generalizing s with
  | nil => rfl
  | cons e xs ih =>
    refine (ih (interruptOrder e s)).trans ?_
    simp only [recordedHand_interruptOrder, List.map_cons, List.mem_cons]
    by_cases he : n = e.slot
    · simp [he]
    · simp [he]

theorem runList_interruptAll (xs : List OrderEntry) (s : State) :
    ∀ f ∈ (interruptAll xs s).orders.runList, f ∈ s.orders.runList ∧ f ∉ xs := by
  induction xs generalizing s with
  | nil => exact fun f hf => ⟨hf, List.not_mem_nil⟩
  | cons e xs ih =>
    intro f hf
    obtain ⟨hmem, hne⟩ := ih (interruptOrder e s) f hf
    rw [interruptOrder_orders] at hmem
    obtain ⟨hmem, hslot⟩ := List.mem_filter.mp hmem
    refine ⟨hmem, fun c => ?_⟩
    rcases List.mem_cons.mp c with rfl | c
    · simp at hslot
    · exact hne c

theorem resetOrders_runList (s : State) : (resetOrders s).orders.runList = [] := by
  refine List.eq_nil_iff_forall_not_mem.mpr fun f hf => ?_
  obtain ⟨hmem, hne⟩ := runList_interruptAll s.orders.runList s f hf
  exact hne hmem

theorem resetOrders_only (s : State) : resetOrders s = { s with
    mem := (interruptAll s.orders.runList s).mem
    orders := (resetOrders s).orders
    control := (interruptAll s.orders.runList s).control } :=
  congrArg (fun v : State => { v with orders := (resetOrders s).orders }) (interruptAll_only s.orders.runList s)

/-! ### The blocks together -/

/-- The stand stopped and the gate reset. -/
def gateStage (s : State) : State := resetGate (standStopped s)

/-- The lamp, the exposure and the converter reset too. -/
def lampStage (s : State) : State := resetConverter (emptyHolder (endScan (resetLamp (gateStage s))))

/-- The backs reset too. -/
def backStage (s : State) : State := resetBack .b (resetBack .a (lampStage s))

/-- Every block reset but the Order Engine and the watch. -/
def blocksReset (s : State) : State := resetLabels (stopFeeder (resetCarriage (backStage s)))

theorem takeStandReset_eq (s : State) : takeStandReset s = clearMarks (resetOrders (blocksReset s)) := rfl

/-- The stand control at the start of a stand reset. -/
def stoppedControl (c : Control) : Control := { c with resetting := true, stand := .stopped, cause := .none, resetCause := .none }

/-- The exposure unit after its reset (R135). -/
def exposureAfterReset (x : Exposure) : Exposure :=
  { x with
    holder := none, scan := .idle, job := .none, dark := .zero, lit := .zero, darkRounds := 0, litRounds := 0, waiting := 0 }

/-- The lamp timer after its reset (R149). -/
def lampAfterReset (l : Lamp) : Lamp :=
  { l with mode := .idle, counter := 0, output := .off, active := none, trigger := none, lowCount := 0, faultCount := 0 }

theorem gateStage_only (s : State) : gateStage s = { s with
    mem := (gateStage s).mem
    control := stoppedControl s.control
    gate := Gate.reset
    exposure := { s.exposure with holder := none }
    orders := { s.orders with choice := none } } :=
  (resetGate_only (standStopped s)).trans rfl

theorem lampStage_only (s : State) : lampStage s = { s with
    mem := (lampStage s).mem
    control := stoppedControl s.control
    gate := Gate.reset
    exposure := exposureAfterReset s.exposure
    orders := { s.orders with choice := none }
    lamp := lampAfterReset s.lamp
    supply := Supply.reset
    converter := { s.converter with supply := false, lamp := false } } :=
  congrArg (fun v : State => { v with
    mem := (lampStage s).mem
    exposure := exposureAfterReset v.exposure
    lamp := lampAfterReset v.lamp
    supply := Supply.reset
    converter := { v.converter with supply := false, lamp := false } }) (gateStage_only s)

theorem resetBacks_only (s : State) : resetBack .b (resetBack .a s) = { s with
    mem := (resetBack .b (resetBack .a s)).mem
    backA := unitAfterReset s.backA
    backB := unitAfterReset s.backB
    control := (resetBack .b (resetBack .a s)).control }
      ∧ FlagsGrow s (resetBack .b (resetBack .a s)) := by
  have first := resetBack_becomes .a s
  have second := resetBack_becomes .b (resetBack .a s)
  have unitA : (resetBack .b (resetBack .a s)).backA = unitAfterReset s.backA := second.other.trans first.unit
  have unitB : (resetBack .b (resetBack .a s)).backB = unitAfterReset s.backB :=
    second.unit.trans (congrArg unitAfterReset first.other)
  refine ⟨?_, first.flags.trans second.flags⟩
  rw [← unitA, ← unitB]
  exact second.rest.trans (congrArg (fun v : State => { v with
    mem := (resetBack .b (resetBack .a s)).mem
    backA := (resetBack .b (resetBack .a s)).backA
    backB := (resetBack .b (resetBack .a s)).backB
    control := (resetBack .b (resetBack .a s)).control }) first.rest)

theorem backStage_only (s : State) : backStage s = { s with
    mem := (backStage s).mem
    control := (backStage s).control
    gate := Gate.reset
    exposure := exposureAfterReset s.exposure
    orders := { s.orders with choice := none }
    lamp := lampAfterReset s.lamp
    supply := Supply.reset
    converter := { s.converter with supply := false, lamp := false }
    backA := unitAfterReset s.backA
    backB := unitAfterReset s.backB } := by
  have before := lampStage_only s
  have unitA : (lampStage s).backA = s.backA := by rw [before]
  have unitB : (lampStage s).backB = s.backB := by rw [before]
  have last := (resetBacks_only (lampStage s)).1
  rw [unitA, unitB] at last
  exact last.trans (congrArg (fun v : State => { v with
    mem := (backStage s).mem, control := (backStage s).control
    backA := unitAfterReset s.backA, backB := unitAfterReset s.backB }) before)

theorem blocksReset_only (s : State) : blocksReset s = { s with
    mem := (blocksReset s).mem
    control := (backStage s).control
    gate := Gate.reset
    exposure := exposureAfterReset s.exposure
    orders := { s.orders with choice := none }
    lamp := lampAfterReset s.lamp
    supply := Supply.reset
    converter := { s.converter with supply := false, lamp := false }
    backA := unitAfterReset s.backA
    backB := unitAfterReset s.backB
    carriage := carriageAfterReset s.carriage
    feeder := { s.feeder with drive := .stopped, target := none, homingTimer := none }
    labels := labelsAfterReset s.labels } := by
  have last := resetLabels_only (stopFeeder (resetCarriage (backStage s)))
  have middle := congrArg stopFeeder (resetCarriage_only (backStage s))
  have before := backStage_only s
  generalize hm : (blocksReset s).mem = m
  unfold blocksReset at hm ⊢
  rw [hm] at last
  rw [last, middle]
  generalize (resetCarriage (backStage s)).mem = m'
  generalize (backStage s).control = c at *
  generalize (backStage s).mem = m'' at before
  rw [before]
  rfl

end Sys2Proof.Proofs
end

section
/-! SUPPORT. The bytes that a stand reset writes, and the ends of the orders (R45, R72, R95, R168). -/

namespace Sys2Proof.Proofs

open Sys2Proof Sys2Proof.Machine Sys2Proof.Safety Sys2Proof.Laws Sys2Proof.Claims

variable {s t u : State} {n m : Slot} {K : Nat → Prop}

/-! ### The bytes that the blocks write -/

theorem Apart.mono {a b i j : Nat} (h : Apart K a i) (h0 : a ≤ b) (h1 : b + j ≤ a + i) : Apart K b j :=
  fun c hc hc' => h c (by omega) (by omega)

/-- Every frame number names one of the forty records. -/
theorem frameRecord_wrap (sh : Sheet) (k : Nat) : ∃ j, 1 ≤ j ∧ j ≤ 40 ∧ frameRecord sh k = frameRecord sh j :=
  ⟨(k - 1) % 40 + 1, by omega, by omega, by rw [frameRecord_eq, frameRecord_eq]; omega⟩

/-- The set of addresses has no byte that the blocks but for the gate and the Order Engine write at a stand reset: frame states,
counts of sheets, and the stand report. -/
structure ResetApart (K : Nat → Prop) : Prop where
  frames : ∀ sh k, 1 ≤ k → k ≤ 40 → Apart K (frameRecord sh k) 1
  counts : ∀ sh, Apart K (sheetBase sh + 9) 2
  states : Apart K 0x5D00 6
  printer : Apart K 0x5D09 3
  errors : Apart K 0x5D14 3

theorem ResetApart.frame (h : ResetApart K) (sh : Sheet) (k : Nat) : Apart K (frameRecord sh k) 1 := by
  obtain ⟨j, hlo, hhi, e⟩ := frameRecord_wrap sh k
  rw [e]
  exact h.frames sh j hlo hhi

/-- The set of addresses has no byte that the spoiling of a shot's frame writes beside its state and its count (R72). -/
structure SpoilApart (K : Nat → Prop) (r : ShotRecord) : Prop where
  causes : ∀ f ∈ r.frames, Apart K (frameRecord (shotSheet r) f.frame + 1) 1
  order : Apart K (outcome r.slot + 8) 2
  shot : Apart K (shotOutcome r.slot r.shot + 6) 1

namespace Keeps

theorem standStopped (h : Keeps K s t) (hK : ResetApart K) : Keeps K s (standStopped t) :=
  (((h.same (u := { t with control := { t.control with resetting := true, stand := .stopped, cause := .none } }) rfl).report
    (a := 0x00) (hK.states.mono (by decide) (by decide))).report (a := 0x01) (hK.states.mono (by decide) (by decide))).same
      (u := { setStand .stopped .none { t with control := { t.control with resetting := true } } with
        control := { t.control with resetting := true, stand := .stopped, cause := .none, resetCause := .none } }) rfl |>.report
        (a := 0x02) (hK.states.mono (by decide) (by decide))

theorem closeFrame {sh : Sheet} {k : Nat} {f : FrameState} (h : Keeps K s t) (hr : Apart K (frameRecord sh k) 1)
    (hc : Apart K (sheetBase sh + sheetCount f) 1) : Keeps K s (closeFrame sh k f t) :=
  ite (fun _ => (h.setByte hr).setByte hc) fun _ => h.setByte hr

theorem dropReserved {sh : Sheet} {k : Nat} (h : Keeps K s t) (hr : Apart K (frameRecord sh k) 1)
    (hc : Apart K (sheetBase sh + 0x0A) 1) : Keeps K s (dropReserved sh k t) :=
  ite (fun _ => h.closeFrame hr hc) fun _ => h

theorem dropAllReserved {sh : Sheet} {x : Option Nat} (h : Keeps K s t) (hK : ResetApart K) :
    Keeps K s (dropAllReserved sh x t) :=
  Keeps.foldl (fun _ k _ kept => ite (fun _ => kept) fun _ =>
    kept.dropReserved (hK.frame sh k) ((hK.counts sh).mono (by omega) (by omega))) h

theorem dropShotFrames {r : ShotRecord} (h : Keeps K s t) (hK : ResetApart K) : Keeps K s (dropShotFrames r t) :=
  Keeps.foldl (fun _ f _ kept => kept.dropReserved (hK.frame (shotSheet r) f.frame)
    ((hK.counts (shotSheet r)).mono (by omega) (by omega))) h

theorem spoilPassage {r : ShotRecord} (h : Keeps K s t) (hK : ResetApart K) (hr : SpoilApart K r) :
    Keeps K s (spoilPassage r t) := by
  unfold Machine.spoilPassage
  split
  · next f hn =>
    have spoiled : Keeps K s (Machine.closeFrame (shotSheet r) f.frame .spoiled
        (Machine.setSpoilCause (shotSheet r) f.frame .reset t)) :=
      Keeps.closeFrame (h.setByte (hr.causes f (List.mem_of_find?_eq_some hn))) (hK.frame (shotSheet r) f.frame)
        ((hK.counts (shotSheet r)).mono (Nat.le_refl _) (by simp only [sheetCount]; omega))
    exact ((spoiled.same (u := setShot (markRecorded f.frame r) _) rfl).setByte hr.shot).setWord hr.order
  · exact h

theorem resetGate (h : Keeps K s t) (hK : ResetApart K) (hs : ∀ r, t.gate.shot = some r → SpoilApart K r) :
    Keeps K s (resetGate t) := by
  unfold Machine.resetGate
  split
  · exact h.same rfl
  · next r hr => exact ((ite (fun _ => h.spoilPassage hK (hs r hr)) fun _ => h).dropShotFrames hK).same rfl

theorem lampStage (h : Keeps K s (gateStage t)) (hK : ResetApart K) : Keeps K s (lampStage t) :=
  ((h.same (u := { endPulse (gateStage t) with
    lamp := { (endPulse (gateStage t)).lamp with lowCount := 0, faultCount := 0 }, supply := Supply.reset }) rfl).report
      (a := 0x16) (n := 0) (hK.errors.mono (by decide) (by decide))).same rfl

theorem enterBack' {bk : Back} {st : BackState} (h : Keeps K s t) (hK : ResetApart K) : Keeps K s (Machine.enterBack bk st t) :=
  h.enterBack (by cases bk <;> exact hK.states.mono (by decide) (by decide))

theorem jamBack {bk : Back} (h : Keeps K s t) (hK : ResetApart K) : Keeps K s (jamBack bk t) := by
  have dropped : Keeps K s (jamDropped bk t) := by
    unfold jamDropped
    split
    · exact h.dropAllReserved hK
    · exact h
  rw [jamBack_eq]
  exact (dropped.setBack.setBack.enterBack' hK).raise

theorem resetBack {bk : Back} (h : Keeps K s t) (hK : ResetApart K) : Keeps K s (resetBack bk t) :=
  (ite (fun _ => h.jamBack hK) fun _ => ite (fun _ => (h.enterBack' hK).setBack) fun _ => h).setBack

theorem resetCarriage (h : Keeps K s t) (hK : ResetApart K) : Keeps K s (resetCarriage t) :=
  ite (fun _ => h) fun _ => (h.same (u := { t with
    carriage := { t.carriage with homingTimer := none, state := .fault } }) rfl).report (a := 0x03)
      (hK.states.mono (by decide) (by decide))

theorem backStage (h : Keeps K s (gateStage t)) (hK : ResetApart K) : Keeps K s (backStage t) :=
  ((h.lampStage hK).resetBack hK).resetBack hK

theorem labelsSkipped (h : Keeps K s t) (hK : ResetApart K) : Keeps K s (labelsSkipped t) :=
  Keeps.foldl (fun _ x _ kept => kept.setByte (hK.frame x.1 x.2))
    (Keeps.foldl (f := fun s (e : LabelEntry) => Machine.setLabelState e.sheet e.frame .skipped s)
      (fun _ x _ kept => kept.setByte (hK.frame x.sheet x.frame)) h)

theorem labelsCleared (h : Keeps K s t) (hp : Apart K 0x5D09 3) (he : Apart K 0x5D14 3) : Keeps K s (labelsCleared t) :=
  (((h.same (u := { t with labels := { t.labels with queue := [] } }) rfl).report (a := 0x0A) (n := 0)
    (hp.mono (by decide) (by decide))).report (a := 0x0B) (n := 0) (hp.mono (by decide) (by decide))).same
      (u := { setWaitingCount 0 (setQueue [] t) with labels := { (setQueue [] t).labels with errors := 0 } }) rfl |>.setWord
        (he.mono (by decide) (by decide))

/-- The Label Unit's reset after its labels are skipped writes the printer state alone. -/
theorem lineReset (h : Keeps K s t) (hp : Apart K 0x5D09 1) : Keeps K s (enterInquiring .unknown (lineCleared t)) :=
  ((h.same (u := lineCleared t) rfl).report (a := 0x09) (n := PrinterState.unknown.code) hp).same
    (enterInquiring_quietLine .unknown rfl).1

/-- From the gate's reset on. -/
theorem afterGate (h : Keeps K s (gateStage t)) (hK : ResetApart K) : Keeps K s (blocksReset t) :=
  ((((((h.backStage hK).resetCarriage hK).same (u := stopFeeder (Machine.resetCarriage (Proofs.backStage t))) rfl).labelsSkipped
    hK).labelsCleared hK.printer hK.errors).lineReset (hK.printer.mono (by decide) (by decide)))

theorem blocksReset (h : Keeps K s t) (hK : ResetApart K) (hs : ∀ r, t.gate.shot = some r → SpoilApart K r) :
    Keeps K s (blocksReset t) :=
  Keeps.afterGate ((h.standStopped hK).resetGate hK hs) hK

end Keeps

end Sys2Proof.Proofs
end

section
/-! SUPPORT. The end of an order INTERRUPTED: its slot, its account, and what else it leaves (R45). -/

namespace Sys2Proof.Proofs

open Sys2Proof Sys2Proof.Machine Sys2Proof.Safety Sys2Proof.Laws Sys2Proof.Claims

variable {s t u : State} {n m : Slot} {K : Nat → Prop}

/-! ### The codes of the shots -/

/-- One shot that is PENDING gets a code. -/
def closeShot (n : Slot) (c : ShotCode) (s : State) (i : Nat) : State :=
  if shotCode s n i = ShotCode.pending.code then setShotCode n i c s else s

theorem closePending_eq (n : Slot) (c : ShotCode) (s : State) :
    closePending n c s = (List.range (min 24 (shotCount s n))).foldl (closeShot n c) s := rfl

theorem ShotCode.code_lt (c : ShotCode) : c.code < 256 := by cases c <;> decide

theorem memoryOk_closeShot {c : ShotCode} {i : Nat} (h : MemoryOk s) : MemoryOk (closeShot n c s i) := by
  unfold closeShot
  split
  · exact memoryOk_setByte h
  · exact h

theorem shotCode_closeShot {c : ShotCode} (h : MemoryOk s) {i j : Nat} (hi : i < 24) (hj : j < 24) :
    shotCode (closeShot n c s i) n j = if i = j ∧ shotCode s n j = 0 then c.code else shotCode s n j := by
  have hn := n.isLt
  have hsize : Config.memorySize = 0x8000 := rfl
  have hio := shotOutcome_eq n i
  have hjo := shotOutcome_eq n j
  have pending : ShotCode.pending.code = 0 := rfl
  unfold closeShot
  rw [pending]
  by_cases e : i = j
  · subst e
    simp only [true_and]
    split
    · exact (byteAt_setByte_same (a := shotOutcome n i) h (by omega)).trans (Nat.mod_eq_of_lt (ShotCode.code_lt c))
    · rfl
  · simp only [e, false_and, if_false]
    split
    · exact byteAt_setByte_other h (by omega)
    · rfl

theorem shotCode_foldl_closeShot {c : ShotCode} (hc : c.code ≠ 0) (xs : List Nat) (hx : ∀ i ∈ xs, i < 24) (h : MemoryOk s)
    {j : Nat} (hj : j < 24) :
    shotCode (xs.foldl (closeShot n c) s) n j = if j ∈ xs ∧ shotCode s n j = 0 then c.code else shotCode s n j := by
  induction xs generalizing s with
  | nil => simp
  | cons i xs ih =>
    rw [List.foldl_cons, ih (fun k hk => hx k (.tail _ hk)) (memoryOk_closeShot h),
      shotCode_closeShot h (hx i (.head _)) hj]
    by_cases e : i = j
    · subst e
      by_cases h0 : shotCode s n i = 0 <;> simp [h0, hc]
    · simp [e, Ne.symm e]

/-- The PENDING shots of an order get a code, and the others keep theirs (R45). -/
theorem shotCode_closePending {c : ShotCode} (hc : c.code ≠ 0) (h : MemoryOk s) {j : Nat} (hj : j < 24) :
    shotCode (closePending n c s) n j = if j < shotCount s n ∧ shotCode s n j = 0 then c.code else shotCode s n j := by
  rw [closePending_eq, shotCode_foldl_closeShot hc _ (fun i hi => by have := List.mem_range.mp hi; omega) h hj]
  simp only [List.mem_range, Nat.lt_min, hj, true_and]

theorem Keeps.closePending {c : ShotCode} (h : Keeps K s t) (ha : ∀ i, i < 24 → Apart K (shotOutcome n i) 1) :
    Keeps K s (closePending n c t) :=
  Keeps.foldl (fun v i hi kept => Keeps.ite
    (fun _ => kept.setByte (ha i (by have := List.mem_range.mp hi; omega))) fun _ => kept) h

theorem memoryOk_closePending {c : ShotCode} (h : MemoryOk s) : MemoryOk (closePending n c s) :=
  (Quiet.closePending (Quiet.refl s)).memory h

theorem accountIndex_closePending (n : Slot) (c : ShotCode) (s : State) (m : Slot) :
    accountIndex (closePending n c s) m = accountIndex s m :=
  accountIndex_keeps (Quiet.closePending (Quiet.refl s)).amounts m

/-! ### What the end of one order writes -/

theorem memoryOk_interrupting {e : OrderEntry} (h : MemoryOk s) : MemoryOk (interrupting e s) := by
  unfold interrupting
  split
  · exact memoryOk_release (memoryOk_closePending h)
  · exact h

theorem memoryOk_interruptOrder {e : OrderEntry} (h : MemoryOk s) : MemoryOk (interruptOrder e s) := by
  rw [interruptOrder_eq]
  exact memoryOk_finishOrder (memoryOk_interrupting h)

theorem Keeps.interrupting {e : OrderEntry} (h : Keeps K s t)
    (hc : e.kind = .copy → (∀ i, i < 24 → Apart K (shotOutcome e.slot i) 1) ∧ Apart K (outcome e.slot + 0x18) 4
      ∧ Apart K (accountBase (accountIndex t e.slot) + 0x14) 4) : Keeps K s (interrupting e t) := by
  refine Keeps.ite (fun hk => ?_) fun _ => h
  obtain ⟨shots, left, account⟩ := hc hk
  exact (h.closePending shots).release left (by rw [accountIndex_closePending]; exact account)

theorem Keeps.interruptOrder {e : OrderEntry} (h : Keeps K s t) (hh : Apart K (slotBase e.slot) 2)
    (ho : Apart K (outcome e.slot) 2)
    (hp : Apart K 0x5D10 2)
    (hc : e.kind = .copy → (∀ i, i < 24 → Apart K (shotOutcome e.slot i) 1) ∧ Apart K (outcome e.slot + 0x18) 4
      ∧ Apart K (accountBase (accountIndex t e.slot) + 0x14) 4) : Keeps K s (interruptOrder e t) := by
  rw [interruptOrder_eq]
  exact (h.interrupting hc).finishOrder hh (ho.mono (by omega) (by omega)) (ho.mono (by omega) (by omega))
    (hp.mono (by decide) (by decide)) (hp.mono (by decide) (by decide))

/-- The bytes of a slot. -/
abbrev SlotArea (m : Slot) : Nat → Prop := within (slotBase m) 0x400

/-- The end of an order leaves the other slots. -/
theorem keeps_interruptOrder_slot {e : OrderEntry} (hm : e.slot ≠ m) : Keeps (SlotArea m) s (interruptOrder e s) := by
  have he := e.slot.isLt
  have hml := m.isLt
  have hne : e.slot.val ≠ m.val := fun c => hm (Fin.ext c)
  have hsm := slotBase_eq m
  have hse := slotBase_eq e.slot
  have hoe := outcome_eq e.slot
  refine (Keeps.refl s).interruptOrder (apart_within (by omega)) (apart_within (by omega)) (apart_within (by omega))
    fun _ => ⟨fun i _ => apart_within ?_, apart_within (by omega), apart_within ?_⟩
  · rw [shotOutcome_eq]
    omega
  · rw [accountBase_eq]
    omega

/-- What the end of an order writes in its slot, whatever its kind (R45). -/
structure EndReads (n : Slot) (t : State) : Prop where
  found : handFound t n = 3
  state : byteAt t (outcome n) = 4
  sub : byteAt t (outcome n + 1) = 0

theorem endReads_finishOrder (hm : MemoryOk s) : EndReads n (finishOrder n .interrupted s) := by
  have hn := n.isLt
  have hs := slotBase_eq n
  have ho := outcome_eq n
  have hr : Config.report = 0x5D00 := rfl
  have hsize : Config.memorySize = 0x8000 := rfl
  have m1 : MemoryOk (setByte (outcome n) OrderState.interrupted.code s) := memoryOk_setByte hm
  have m2 := memoryOk_setByte (a := outcome n + 1) (n := 0) m1
  refine ⟨?_, ?_, ?_⟩
  · refine (Keeps.word (a := slotBase n) ((Keeps.refl (writeHand n .done _)).setRunList.raise.refreshWanted
      (apart_within (by omega)) (apart_within (by omega)))).trans ?_
    exact handFound_writeHand m2
  · refine ((((Keeps.refl _).setByte (apart_byte (k := outcome n) (by omega))).writeHand (apart_byte
      (by omega))).setRunList.raise.refreshWanted (apart_byte (by omega)) (apart_byte (by omega)) |>.byteAt rfl).trans ?_
    exact byteAt_setByte_same (a := outcome n) hm (by omega)
  · refine (((Keeps.refl _).writeHand (apart_byte (k := outcome n + 1)
      (by omega))).setRunList.raise.refreshWanted (apart_byte (by omega)) (apart_byte (by omega)) |>.byteAt rfl).trans ?_
    exact byteAt_setByte_same (a := outcome n + 1) m1 (by omega)

/-- What the end of a COPY order leaves in its slot (R45). -/
structure CopyEndReads (n : Slot) (s t : State) : Prop where
  codes : ∀ i, i < 24 → shotCode t n i = if i < shotCount s n ∧ shotCode s n i = 0 then 6 else shotCode s n i
  remaining : remaining t n = 0
  charged : charged t n = charged s n

theorem copyEndReads_interruptOrder {e : OrderEntry} (hm : MemoryOk s) (hk : e.kind = .copy) :
    CopyEndReads e.slot s (interruptOrder e s) := by
  have hn := e.slot.isLt
  have hs := slotBase_eq e.slot
  have ho := outcome_eq e.slot
  have hr : Config.report = 0x5D00 := rfl
  have released : interruptOrder e s = finishOrder e.slot .interrupted
      (release e.slot (Machine.remaining (closePending e.slot .interrupted s) e.slot) (closePending e.slot .interrupted s)) := by
    rw [interruptOrder_eq, interrupting, if_pos hk]
  rw [released]
  have finished {lo k : Nat} {v : State} (h0 : outcome e.slot + 2 ≤ lo) (h1 : lo + k ≤ outcome e.slot + 0x200) :
      Keeps (within lo k) v (finishOrder e.slot .interrupted v) :=
    (Keeps.refl v).finishOrder (apart_within (by omega)) (apart_within (by omega)) (apart_within (by omega))
      (apart_within (by omega)) (apart_within (by omega))
  have index := accountBase_eq (accountIndex (closePending e.slot .interrupted s) e.slot)
  refine ⟨fun i hi => ?_, ?_, ?_⟩
  · have hi := shotOutcome_eq e.slot i
    refine (Keeps.byteAt (Keeps.trans ((Keeps.refl (closePending e.slot .interrupted s)).release (apart_within (by omega))
      (apart_within (by omega))) (finished (lo := shotOutcome e.slot i) (k := 1) (by omega) (by omega))) (by omega)).trans ?_
    exact shotCode_closePending (by decide) hm (by assumption)
  · rw [remaining_keeps (keeps_finishOrder e.slot .interrupted _)]
    exact remaining_release_all (memoryOk_closePending hm)
  · refine Keeps.long (a := outcome e.slot + 0x14) (Keeps.trans (((Keeps.refl s).closePending fun i hi => apart_within ?_).release
      (apart_within (by omega)) (apart_within (by omega))) (finished (by omega) (by omega)))
    have := shotOutcome_eq e.slot i
    omega

/-! ### Every order of the run list -/

/-- At the end of an order of the list its slot is as before, and afterwards its slot is as that end left it. -/
theorem interruptAll_at {xs : List OrderEntry} {e : OrderEntry} (hn : (xs.map OrderEntry.slot).Nodup) (he : e ∈ xs)
    (hm : MemoryOk s) : ∃ u, MemoryOk u ∧ Keeps (SlotArea e.slot) s u
      ∧ Keeps (SlotArea e.slot) (interruptOrder e u) (interruptAll xs s) := by
  induction xs generalizing s with
  | nil => exact absurd he List.not_mem_nil
  | cons f xs ih =>
    obtain ⟨fresh, hn⟩ := List.nodup_cons.mp hn
    rcases List.mem_cons.mp he with rfl | he
    · refine ⟨s, hm, .refl s, ?_⟩
      show Keeps _ _ (xs.foldl (fun s e => interruptOrder e s) (interruptOrder e s))
      refine foldl_keeps (I := Keeps (SlotArea e.slot) (interruptOrder e s)) (fun t f hf kept => ?_) (.refl _)
      exact kept.trans (keeps_interruptOrder_slot fun c => fresh (List.mem_map.mpr ⟨f, hf, c⟩))
    · obtain ⟨u, hu, before, after⟩ := ih hn he (memoryOk_interruptOrder hm)
      refine ⟨u, hu, (keeps_interruptOrder_slot fun c => fresh ?_).trans before, after⟩
      exact c ▸ List.mem_map_of_mem he

theorem EndReads.keep (h : EndReads n s) (k : Keeps (SlotArea n) s t) : EndReads n t := by
  have hs := slotBase_eq n
  have ho := outcome_eq n
  exact ⟨(k.wordAt (by omega) (by omega)).trans h.found, (k.byteAt (by omega)).trans h.state, (k.byteAt (by omega)).trans h.sub⟩

/-- Every order of the list ends with its slot written. -/
theorem endReads_interruptAll {xs : List OrderEntry} {e : OrderEntry} (hn : (xs.map OrderEntry.slot).Nodup) (he : e ∈ xs)
    (hm : MemoryOk s) : EndReads e.slot (interruptAll xs s) := by
  obtain ⟨u, hu, _, after⟩ := interruptAll_at hn he hm
  refine EndReads.keep ?_ after
  rw [interruptOrder_eq]
  exact endReads_finishOrder (memoryOk_interrupting hu)

theorem copyEndReads_interruptAll {xs : List OrderEntry} {e : OrderEntry} (hn : (xs.map OrderEntry.slot).Nodup) (he : e ∈ xs)
    (hm : MemoryOk s) (hk : e.kind = .copy) : CopyEndReads e.slot s (interruptAll xs s) := by
  obtain ⟨u, hu, before, after⟩ := interruptAll_at hn he hm
  obtain ⟨codes, remaining, charged⟩ := copyEndReads_interruptOrder hu hk
  have hs := slotBase_eq e.slot
  have ho := outcome_eq e.slot
  have code {v w : State} (k : Keeps (SlotArea e.slot) v w) (i : Nat) : shotCode w e.slot i = shotCode v e.slot i := by
    have := shotOutcome_eq e.slot i
    exact k.byteAt (by omega)
  have count : shotCount u e.slot = shotCount s e.slot := before.wordAt (by omega) (by omega)
  refine ⟨fun i hi => ?_, ?_, ?_⟩
  · rw [code after, codes i hi, count, code before]
  · exact (after.longAt (by omega) (by omega) (by omega)).trans remaining
  · exact (after.longAt (by omega) (by omega) (by omega)).trans
      (charged.trans (before.longAt (by omega) (by omega) (by omega)))

/-! ### The accounts -/

/-- The remaining commitments of the COPY orders of a list that an account is charged with (R45). -/
def lifted (s : State) (xs : List OrderEntry) (i : Nat) : Nat :=
  ((xs.filter fun e => decide (e.kind = .copy) && decide (accountIndex s e.slot = i)).map fun e => remaining s e.slot).sum

theorem lifted_cons (s : State) (e : OrderEntry) (xs : List OrderEntry) (i : Nat) :
    lifted s (e :: xs) i = (if e.kind = .copy ∧ accountIndex s e.slot = i then remaining s e.slot else 0) + lifted s xs i := by
  unfold lifted
  by_cases h : e.kind = .copy ∧ accountIndex s e.slot = i
  · simp [h]
  · rw [if_neg h, List.filter_cons_of_neg (by simpa using h), Nat.zero_add]

theorem lifted_congr {xs : List OrderEntry} (i : Nat) (h : ∀ e ∈ xs,
    accountIndex t e.slot = accountIndex s e.slot ∧ remaining t e.slot = remaining s e.slot) : lifted t xs i = lifted s xs i := by
  unfold lifted
  have same : (xs.filter fun e => decide (e.kind = .copy) && decide (accountIndex t e.slot = i))
      = xs.filter fun e => decide (e.kind = .copy) && decide (accountIndex s e.slot = i) :=
    List.filter_congr fun e he => by rw [(h e he).1]
  rw [same]
  exact congrArg List.sum (List.map_congr_left fun e he => (h e (List.mem_of_mem_filter he)).2)

theorem slot_interruptOrder {e : OrderEntry} (hm : e.slot ≠ m) :
    accountIndex (interruptOrder e s) m = accountIndex s m ∧ remaining (interruptOrder e s) m = remaining s m := by
  have hs := slotBase_eq m
  have ho := outcome_eq m
  have kept : Keeps (SlotArea m) s (interruptOrder e s) := keeps_interruptOrder_slot hm
  exact ⟨kept.byteAt (by omega), kept.longAt (by omega) (by omega) (by omega)⟩

theorem committed_interruptOrder {e : OrderEntry} (hm : MemoryOk s) (i : Account) :
    committed (interruptOrder e s) i.val
      = committed s i.val - if e.kind = .copy ∧ accountIndex s e.slot = i.val then remaining s e.slot else 0 := by
  rw [interruptOrder_eq, committed_keeps (keeps_finishOrder e.slot .interrupted _)]
  by_cases hk : e.kind = .copy
  · have closed : Keeps Amount s (closePending e.slot .interrupted s) := (Quiet.closePending (Quiet.refl s)).amounts
    rw [interrupting, if_pos hk, release, committed_lowerCommitment (memoryOk_closePending hm), Nat.min_self,
      accountIndex_closePending, remaining_keeps closed, committed_keeps closed]
    by_cases hi : i.val = accountIndex s e.slot
    · rw [if_pos hi, if_pos ⟨hk, hi.symm⟩]
    · rw [if_neg hi, if_neg fun c => hi c.2.symm, Nat.sub_zero]
  · rw [interrupting, if_neg hk, if_neg fun c => hk c.1, Nat.sub_zero]

/-- Every account's committed falls by the remaining commitments of its COPY orders (R45). -/
theorem committed_interruptAll {xs : List OrderEntry} (hn : (xs.map OrderEntry.slot).Nodup) (hm : MemoryOk s) (i : Account) :
    committed (interruptAll xs s) i.val = committed s i.val - lifted s xs i.val := by
  induction xs generalizing s with
  | nil => rfl
  | cons e xs ih =>
    obtain ⟨fresh, hn⟩ := List.nodup_cons.mp hn
    have same : lifted (interruptOrder e s) xs i.val = lifted s xs i.val :=
      lifted_congr i.val fun f hf => slot_interruptOrder fun c => fresh (List.mem_map.mpr ⟨f, hf, c.symm⟩)
    calc committed (interruptAll xs (interruptOrder e s)) i.val
        = committed (interruptOrder e s) i.val - lifted (interruptOrder e s) xs i.val := ih hn (memoryOk_interruptOrder hm)
      _ = committed s i.val - lifted s (e :: xs) i.val := by
        rw [same, committed_interruptOrder hm, lifted_cons, Nat.sub_sub]

end Sys2Proof.Proofs
end

section
/-! SUPPORT. The stand reset's end of the orders (R45, R46). -/

namespace Sys2Proof.Proofs

open Sys2Proof Sys2Proof.Machine Sys2Proof.Safety Sys2Proof.Laws Sys2Proof.Claims

variable {s t u : State} {n m : Slot} {K : Nat → Prop}

/-! ### From the key to the end -/

theorem exec_standReset (h : atWork s = true) : exec .standReset s = .next (takeStandReset s) := by
  show Host.Outcome.next (hostWriteRegister .stand 0xC303 s) = _
  have taken : hostWriteRegister .stand 0xC303 s = commandStandReset s := rfl
  rw [taken, commandStandReset, if_pos h]

theorem blocksReset_orders (s : State) : (blocksReset s).orders = { s.orders with choice := none } := by rw [blocksReset_only]

theorem blocksReset_runList (s : State) : (blocksReset s).orders.runList = s.orders.runList := by rw [blocksReset_orders]

theorem blocksReset_recorded (s : State) (n : Slot) : recordedHand (blocksReset s) n = recordedHand s n := by
  unfold recordedHand
  rw [blocksReset_orders]

theorem takeStandReset_mem (s : State) : (takeStandReset s).mem = (interruptAll s.orders.runList (blocksReset s)).mem := by
  rw [takeStandReset_eq, ← blocksReset_runList]
  rfl

theorem takeStandReset_recorded (s : State) (n : Slot) :
    recordedHand (takeStandReset s) n = recordedHand (interruptAll s.orders.runList (blocksReset s)) n := by
  rw [takeStandReset_eq, ← blocksReset_runList]
  rfl

theorem takeStandReset_control (s : State) :
    (takeStandReset s).control = (interruptAll s.orders.runList (blocksReset s)).control := by
  rw [takeStandReset_eq, ← blocksReset_runList]
  rfl

theorem takeStandReset_intake (s : State) : (takeStandReset s).orders.intake
    = (List.finRange 16).filter fun n => decide (recordedHand (takeStandReset s) n = .filed) := rfl

/-! ### The bytes of the orders -/

/-- The bytes of the slots and the accounts but for the spoiled counts. -/
def OrderByte (a : Nat) : Prop :=
  a < 0x4000 ∧ a % 0x400 ≠ 0x208 ∧ a % 0x400 ≠ 0x209 ∧ (a % 0x400 < 0x220 ∨ a % 0x10 ≠ 6) ∨ 0x5000 ≤ a ∧ a < 0x5800

theorem resetApart_orderByte : ResetApart OrderByte where
  frames sh k _ _ b hb hb' := by
    have := sheetIndex_lt sh
    rw [frameRecord_eq] at hb hb'
    unfold OrderByte
    omega
  counts sh b hb hb' := by
    have := sheetIndex_lt sh
    rw [sheetBase_eq] at hb hb'
    unfold OrderByte
    omega
  states b hb hb' := by unfold OrderByte; omega
  printer b hb hb' := by unfold OrderByte; omega
  errors b hb hb' := by unfold OrderByte; omega

theorem spoilApart_orderByte (r : ShotRecord) : SpoilApart OrderByte r where
  causes f _ b hb hb' := by
    have := sheetIndex_lt (shotSheet r)
    rw [frameRecord_eq] at hb hb'
    unfold OrderByte
    omega
  order b hb hb' := by
    have := r.slot.isLt
    rw [outcome_eq] at hb hb'
    unfold OrderByte
    omega
  shot b hb hb' := by
    have := r.slot.isLt
    rw [shotOutcome_eq] at hb hb'
    unfold OrderByte
    omega

theorem keeps_orderByte (s : State) : Keeps OrderByte s (blocksReset s) :=
  (Keeps.refl s).blocksReset resetApart_orderByte fun r _ => spoilApart_orderByte r

/-- What the statement reads of a slot is as before the reset of the orders. -/
theorem slot_blocksReset (s : State) (n : Slot) :
    (∀ i, shotCode (blocksReset s) n i = shotCode s n i) ∧ shotCount (blocksReset s) n = shotCount s n
      ∧ charged (blocksReset s) n = charged s n ∧ remaining (blocksReset s) n = remaining s n
      ∧ accountIndex (blocksReset s) n = accountIndex s n := by
  have kept := keeps_orderByte s
  have hn := n.isLt
  have hs := slotBase_eq n
  have ho := outcome_eq n
  have long {j : Nat} (h0 : 0x10 ≤ j) (hj : j < 0x1E) : longAt (blocksReset s) (outcome n + j) = longAt s (outcome n + j) :=
    kept.longAt (by unfold OrderByte; omega) (by unfold OrderByte; omega) (by unfold OrderByte; omega)
  refine ⟨fun i => kept.byteAt ?_, kept.wordAt ?_ ?_, long (by decide) (by decide), long (by decide) (by decide), kept.byteAt ?_⟩
  · rw [shotOutcome_eq]
    unfold OrderByte
    omega
  all_goals
    unfold OrderByte
    omega

theorem account_blocksReset (s : State) (i : Account) :
    spent (blocksReset s) i.val = spent s i.val ∧ committed (blocksReset s) i.val = committed s i.val := by
  have kept := keeps_orderByte s
  have hi := i.isLt
  have ha := accountBase_eq i.val
  have long {j : Nat} (hj : j < 0x1E) : longAt (blocksReset s) (accountBase i.val + j) = longAt s (accountBase i.val + j) :=
    kept.longAt (by unfold OrderByte; omega) (by unfold OrderByte; omega) (by unfold OrderByte; omega)
  exact ⟨long (by decide), long (by decide)⟩

theorem spent_interruptAll (xs : List OrderEntry) (s : State) (i : Account) :
    spent (interruptAll xs s) i.val = spent s i.val := by
  have hi := i.isLt
  have ha := accountBase_eq i.val
  refine Keeps.long (foldl_keeps (I := Keeps (within (accountBase i.val + 0x10) 4) s) (fun u e _ kept => ?_) (.refl s))
  have he := e.slot.isLt
  have hs := slotBase_eq e.slot
  have ho := outcome_eq e.slot
  have hj := accountBase_eq (accountIndex u e.slot)
  refine kept.interruptOrder (apart_within (by omega)) (apart_within (by omega)) (apart_within (by omega)) fun _ =>
    ⟨fun k _ => apart_within ?_, apart_within (by omega), apart_within (by omega)⟩
  rw [shotOutcome_eq]
  omega

/-! ### Nothing else is written -/

theorem resetApart_writes (s : State) : ResetApart fun a => ¬ StandResetWrites s a where
  frames sh k hlo hhi := apart_others fun b hb hb' => .inr (.inr (.inl ⟨sh, k, hlo, hhi, hb, by omega⟩))
  counts sh := apart_others fun b hb hb' => .inr (.inr (.inr (.inl ⟨sh, hb, hb'⟩)))
  states := apart_others fun b hb hb' => .inr (.inr (.inr (.inr (.inl ⟨hb, hb'⟩))))
  printer := apart_others fun b hb hb' => .inr (.inr (.inr (.inr (.inr (.inl ⟨hb, hb'⟩)))))
  errors := apart_others fun b hb hb' => .inr (.inr (.inr (.inr (.inr (.inr (.inr ⟨hb, by omega⟩))))))

/-- The byte that names a slot's account. -/
def AccountByte (a : Nat) : Prop := a < 0x4000 ∧ a % 0x400 = 6

theorem accountIndex_of_kept (h : Keeps AccountByte s t) (n : Slot) : accountIndex t n = accountIndex s n := by
  have hn := n.isLt
  have hs := slotBase_eq n
  refine h.byteAt ?_
  unfold AccountByte
  omega

theorem Keeps.accountByte {e : OrderEntry} (h : Keeps AccountByte s t) : Keeps AccountByte s (Machine.interruptOrder e t) := by
  have he := e.slot.isLt
  have hs := slotBase_eq e.slot
  have ho := outcome_eq e.slot
  have hj := accountBase_eq (accountIndex t e.slot)
  have apart {a k : Nat} (hk : 0x4000 ≤ a ∨ ∀ b, a ≤ b → b < a + k → b % 0x400 ≠ 6) : Apart AccountByte a k := by
    rintro b hb hb' ⟨h0, h1⟩
    rcases hk with hk | hk
    · omega
    · exact hk b hb hb' h1
  refine h.interruptOrder (apart (.inr (by omega))) (apart (.inr (by omega))) (apart (.inl (by decide))) fun _ =>
    ⟨fun k _ => apart (.inr ?_), apart (.inr (by omega)), apart (.inl (by omega))⟩
  have := shotOutcome_eq e.slot k
  omega

theorem keepsBytes_standReset (hr : RecordsInRange s) : KeepsBytes s (takeStandReset s) (StandResetWrites s) := by
  have blocks : Keeps (fun a => ¬ StandResetWrites s a) s (blocksReset s) :=
    (Keeps.refl s).blocksReset (resetApart_writes s) fun r h =>
      { causes := fun f hf => apart_others fun b hb hb' =>
          .inr (.inr (.inl ⟨shotSheet r, f.frame, ((hr.2.2 r h).2 f hf).1, ((hr.2.2 r h).2 f hf).2, by omega, by omega⟩))
        order := apart_others fun b hb hb' => .inr (.inl ⟨r, h, .inl ⟨hb, hb'⟩⟩)
        shot := apart_others fun b hb hb' => .inr (.inl ⟨r, h, .inr (by omega)⟩) }
  have ended : Keeps (fun a => ¬ StandResetWrites s a) s (interruptAll s.orders.runList (blocksReset s))
      ∧ Keeps AccountByte (blocksReset s) (interruptAll s.orders.runList (blocksReset s)) := by
    refine foldl_keeps (I := fun u => Keeps (fun a => ¬ StandResetWrites s a) s u ∧ Keeps AccountByte (blocksReset s) u)
      (fun u e he kept => ⟨?_, kept.2.accountByte⟩) ⟨blocks, .refl _⟩
    have index : accountIndex u e.slot = accountIndex s e.slot :=
      (accountIndex_of_kept kept.2 e.slot).trans (slot_blocksReset s e.slot).2.2.2.2
    refine kept.1.interruptOrder (apart_others fun b hb hb' => .inl ⟨e, he, .inl ⟨hb, hb'⟩⟩)
      (apart_others fun b hb hb' => .inl ⟨e, he, .inr (.inl ⟨hb, hb'⟩)⟩)
      (apart_others fun b hb hb' => .inr (.inr (.inr (.inr (.inr (.inr (.inl ⟨hb, hb'⟩))))))) fun hk => ⟨fun i hi => ?_, ?_, ?_⟩
    · exact apart_others fun b hb hb' => .inl ⟨e, he, .inr (.inr ⟨hk, .inl ⟨i, hi, by omega⟩⟩)⟩
    · exact apart_others fun b hb hb' => .inl ⟨e, he, .inr (.inr ⟨hk, .inr (.inl ⟨hb, hb'⟩)⟩)⟩
    · rw [index]
      exact apart_others fun b hb hb' => .inl ⟨e, he, .inr (.inr ⟨hk, .inr (.inr ⟨hb, hb'⟩)⟩)⟩
  intro a ha
  rw [takeStandReset_mem]
  exact ended.1 a ha

/-! ### The amounts -/

theorem memoryOk_blocksReset (hm : MemoryOk s) : MemoryOk (blocksReset s) := by
  have stopped : Quiet s (standStopped s) := Quiet.setResetCause (Quiet.setStand ((Quiet.refl s).same rfl rfl rfl rfl))
  have gate : MemoryOk (gateStage s) := Meets.resetGate (l := .form) (stopped.memory hm)
  exact (quiet_resetBlocks (gateStage s)).memory gate

/-- Settles O9: each order's slot at its own end, each account over all of them, and the bytes that the blocks write. -/
theorem standResetInterruptsEveryOrder : Obligations.StandResetInterruptsEveryOrder := by
  unfold Obligations.StandResetInterruptsEveryOrder
  intro s hm hw hnodup
  have memory := memoryOk_blocksReset hm
  have last : Keeps (fun _ => True) (interruptAll s.orders.runList (blocksReset s)) (takeStandReset s) :=
    fun a _ => by rw [takeStandReset_mem]
  refine ⟨takeStandReset s, exec_standReset hw, fun e he => ?_, fun hne => ?_, fun n hn => ?_, takeStandReset_intake s,
    fun hr => ⟨fun e he hk => ?_, fun i => ?_, keepsBytes_standReset hr⟩⟩
  · obtain ⟨found, state, sub⟩ := endReads_interruptAll hnodup he memory
    refine ⟨?_, (last.wordAt trivial trivial).trans found, (last.byteAt trivial).trans state, (last.byteAt trivial).trans sub⟩
    rw [takeStandReset_recorded, recordedHand_interruptAll, if_pos (List.mem_map_of_mem he)]
  · unfold flagSet flagSeen
    rw [takeStandReset_control]
    exact orderDone_interruptAll hne (blocksReset s)
  · have absent : n ∉ s.orders.runList.map OrderEntry.slot := fun c => by
      obtain ⟨e, he, hs⟩ := List.mem_map.mp c
      exact hn e he hs
    rw [takeStandReset_recorded, recordedHand_interruptAll, if_neg absent, blocksReset_recorded]
  · obtain ⟨codes, left, spentBy⟩ := copyEndReads_interruptAll hnodup he memory hk
    obtain ⟨code, count, charge, _, _⟩ := slot_blocksReset s e.slot
    refine ⟨fun i hi => ?_, (last.longAt trivial trivial trivial).trans left,
      (last.longAt trivial trivial trivial).trans (spentBy.trans charge)⟩
    refine (last.byteAt trivial).trans ((codes i hi).trans ?_)
    rw [code, count]
  · obtain ⟨spentSame, committedSame⟩ := account_blocksReset s i
    have same : lifted (blocksReset s) s.orders.runList i.val = lifted s s.orders.runList i.val :=
      lifted_congr i.val fun e _ => by
        obtain ⟨_, _, _, left, index⟩ := slot_blocksReset s e.slot
        exact ⟨index, left⟩
    refine ⟨?_, ?_⟩
    · exact (last.longAt trivial trivial trivial).trans ((spent_interruptAll _ _ i).trans spentSame)
    · refine (last.longAt trivial trivial trivial).trans ((committed_interruptAll hnodup memory i).trans ?_)
      rw [committedSame, same]
      rfl

end Sys2Proof.Proofs
end

section
/-! SUPPORT. Frame states and label states through a stand reset (R72, R90, R168). -/

namespace Sys2Proof.Proofs

open Sys2Proof Sys2Proof.Machine Sys2Proof.Safety Sys2Proof.Laws Sys2Proof.Claims

variable {s t u : State} {sh x : Sheet} {k j : Nat} {K : Nat → Prop}

/-! ### One frame record -/

theorem frameRecord_lt (sh : Sheet) (k : Nat) : frameRecord sh k < Config.memorySize := by
  have hi := sheetIndex_lt sh
  have hsize : Config.memorySize = 0x8000 := rfl
  rw [frameRecord_eq]
  omega

theorem byteAt_setFrameByte (hm : MemoryOk s) (v : Nat) :
    byteAt (setByte (frameRecord x j) v s) (frameRecord sh k)
      = if frameRecord sh k = frameRecord x j then v % 256 else byteAt s (frameRecord sh k) := by
  split
  · next e =>
    rw [e]
    exact byteAt_setByte_same hm (frameRecord_lt x j)
  · next e => exact byteAt_setByte_other hm e

theorem frameCode_setFrameState (hm : MemoryOk s) (f : FrameState) :
    frameCode (setFrameState x j f s) sh k = if frameRecord sh k = frameRecord x j then f.code else frameCode s sh k := by
  have hf : f.code < 8 := by cases f <;> decide
  unfold frameCode setFrameState
  rw [byteAt_setFrameByte hm]
  split <;> omega

theorem labelCode_setFrameState (hm : MemoryOk s) (f : FrameState) :
    labelCode (setFrameState x j f s) sh k = labelCode s sh k := by
  have hf : f.code < 8 := by cases f <;> decide
  have hb := byteAt_lt s (frameRecord x j)
  unfold labelCode setFrameState
  rw [byteAt_setFrameByte hm]
  split
  · next e => rw [e]; omega
  · rfl

theorem frameCode_setLabelState (hm : MemoryOk s) (l : LabelState) :
    frameCode (setLabelState x j l s) sh k = frameCode s sh k := by
  have hl : l.code < 8 := by cases l <;> decide
  have hb := byteAt_lt s (frameRecord x j)
  unfold frameCode setLabelState
  dsimp only
  rw [byteAt_setFrameByte hm]
  split
  · next e => rw [e]; omega
  · rfl

theorem labelCode_setLabelState (hm : MemoryOk s) (l : LabelState) :
    labelCode (setLabelState x j l s) sh k = if frameRecord sh k = frameRecord x j then l.code else labelCode s sh k := by
  have hl : l.code < 8 := by cases l <;> decide
  have hb := byteAt_lt s (frameRecord x j)
  unfold labelCode setLabelState
  dsimp only
  rw [byteAt_setFrameByte hm]
  split
  · omega
  · rfl

/-! ### Changes that leave labels and the frames that are not RESERVED -/

/-- The bytes that hold frame states and label states. -/
def FrameByte (a : Nat) : Prop := ∃ sh k, a = frameRecord sh k

theorem frameCode_kept (h : Keeps FrameByte s t) (sh : Sheet) (k : Nat) : frameCode t sh k = frameCode s sh k := by
  unfold frameCode
  rw [h.byteAt ⟨sh, k, rfl⟩]

theorem labelCode_kept (h : Keeps FrameByte s t) (sh : Sheet) (k : Nat) : labelCode t sh k = labelCode s sh k := by
  unfold labelCode
  rw [h.byteAt ⟨sh, k, rfl⟩]

theorem apart_frameByte {a n : Nat} (h : ∀ b, a ≤ b → b < a + n → b < 0x4040 ∨ 0x5000 ≤ b ∨ b % 0x400 < 0x40 ∨ b % 0x10 ≠ 0) :
    Apart FrameByte a n := by
  rintro b hb hb' ⟨sh, k, rfl⟩
  have hi := sheetIndex_lt sh
  have := h _ hb hb'
  rw [frameRecord_eq] at this
  omega

/-- The labels are kept, and of the frames only RESERVED ones may change. -/
structure FrameCalm (s t : State) : Prop where
  memory : MemoryOk t
  labels : ∀ sh k, labelCode t sh k = labelCode s sh k
  frames : ∀ sh k, frameCode s sh k ≠ 1 → frameCode t sh k = frameCode s sh k

namespace FrameCalm

theorem refl (h : MemoryOk s) : FrameCalm s s := ⟨h, fun _ _ => rfl, fun _ _ _ => rfl⟩

theorem trans (h : FrameCalm s t) (k : FrameCalm t u) : FrameCalm s u where
  memory := k.memory
  labels sh j := (k.labels sh j).trans (h.labels sh j)
  frames sh j hj := (k.frames sh j (by rw [h.frames sh j hj]; exact hj)).trans (h.frames sh j hj)

theorem keep (h : FrameCalm s t) (hm : MemoryOk u) (k : Keeps FrameByte t u) : FrameCalm s u :=
  h.trans ⟨hm, labelCode_kept k, fun sh j _ => frameCode_kept k sh j⟩

theorem same (h : FrameCalm s t) (hm : u.mem = t.mem) : FrameCalm s u :=
  h.keep (by rw [MemoryOk, hm]; exact h.memory) ((Keeps.refl t).same hm)

theorem report {a n : Nat} (h : FrameCalm s t) (ha : a < 0x100) : FrameCalm s (report a n t) := by
  have hr : Config.report = 0x5D00 := rfl
  exact h.keep (memoryOk_report h.memory) ((Keeps.refl t).report (apart_frameByte fun b _ _ => by omega))

end FrameCalm

theorem keeps_raiseSheetCount {f : FrameState} : Keeps FrameByte s (raiseByte (sheetBase x + sheetCount f) s) := by
  have hi := sheetIndex_lt x
  have hb := sheetBase_eq x
  have hc : sheetCount f < 0x40 := by cases f <;> decide
  exact (Keeps.refl s).setByte (apart_frameByte fun b _ _ => by omega)

theorem frameCode_closeFrame (hm : MemoryOk s) (f : FrameState) :
    frameCode (closeFrame x j f s) sh k = if frameRecord sh k = frameRecord x j then f.code else frameCode s sh k := by
  rw [← frameCode_setFrameState hm f]
  unfold closeFrame
  dsimp only
  split
  · exact frameCode_kept keeps_raiseSheetCount sh k
  · rfl

theorem labelCode_closeFrame (hm : MemoryOk s) (f : FrameState) : labelCode (closeFrame x j f s) sh k = labelCode s sh k := by
  rw [← labelCode_setFrameState hm f (x := x) (j := j)]
  unfold closeFrame
  dsimp only
  split
  · exact labelCode_kept keeps_raiseSheetCount sh k
  · rfl

/-- A RESERVED frame that is dropped is UNUSED. -/
theorem frameCode_dropReserved (hm : MemoryOk s) :
    frameCode (dropReserved x j s) sh k
      = if frameRecord sh k = frameRecord x j ∧ frameCode s sh k = 1 then 4 else frameCode s sh k := by
  have reserved : isReserved s x j = true ↔ frameCode s x j = 1 := by
    unfold isReserved
    exact decide_eq_true_iff
  have same (e : frameRecord sh k = frameRecord x j) : frameCode s sh k = frameCode s x j := by
    unfold frameCode
    rw [e]
  unfold dropReserved
  split
  · next h =>
    rw [frameCode_closeFrame hm]
    by_cases e : frameRecord sh k = frameRecord x j
    · rw [if_pos e, if_pos ⟨e, (same e).trans (reserved.mp h)⟩]
      rfl
    · rw [if_neg e, if_neg fun c => e c.1]
  · next h =>
    rw [if_neg fun c => h (reserved.mpr ((same c.1).symm.trans c.2))]

theorem memoryOk_dropReserved (hm : MemoryOk s) : MemoryOk (dropReserved x j s) :=
  (Quiet.dropReserved (Quiet.refl s)).memory hm

theorem FrameCalm.dropReserved (h : FrameCalm s t) : FrameCalm s (dropReserved x j t) := by
  refine h.trans ⟨memoryOk_dropReserved h.memory, fun sh k => ?_, fun sh k hk => ?_⟩
  · unfold Machine.dropReserved
    split
    · exact labelCode_closeFrame h.memory _
    · rfl
  · rw [frameCode_dropReserved h.memory, if_neg fun c => hk c.2]

theorem FrameCalm.dropAllReserved {e : Option Nat} (h : FrameCalm s t) : FrameCalm s (dropAllReserved x e t) := by
  refine foldl_keeps (I := FrameCalm s) (fun v k _ calm => ?_) h
  split
  · exact calm
  · exact calm.dropReserved

theorem FrameCalm.dropShotFrames {r : ShotRecord} (h : FrameCalm s t) : FrameCalm s (dropShotFrames r t) :=
  foldl_keeps (I := FrameCalm s) (fun _ _ _ calm => calm.dropReserved) h

theorem frameCode_foldl_dropReserved {g : SetFrame} {xs : List SetFrame} (hg : g ∈ xs) (hm : MemoryOk s)
    (h : frameCode s x g.frame = 1 ∨ frameCode s x g.frame = 4) :
    frameCode (xs.foldl (fun s f => dropReserved x f.frame s) s) x g.frame = 4 := by
  induction xs generalizing s with
  | nil => exact absurd hg List.not_mem_nil
  | cons f xs ih =>
    have step := frameCode_dropReserved (x := x) (j := f.frame) (sh := x) (k := g.frame) hm
    rw [List.foldl_cons]
    rcases List.mem_cons.mp hg with rfl | hg
    · have dropped : frameCode (dropReserved x g.frame s) x g.frame = 4 := by
        rw [step]
        rcases h with h | h <;> simp [h]
      have calm := foldl_keeps (I := FrameCalm (dropReserved x g.frame s)) (xs := xs)
        (f := fun s (f : SetFrame) => dropReserved x f.frame s) (fun _ _ _ c => c.dropReserved)
        (FrameCalm.refl (memoryOk_dropReserved hm))
      exact (calm.frames _ _ (by rw [dropped]; decide)).trans dropped
    · refine ih hg (memoryOk_dropReserved hm) ?_
      rw [step]
      split
      · exact .inr rfl
      · exact h

/-- Every RESERVED frame of a shot's set is UNUSED once its frames are dropped (R72). -/
theorem frameCode_dropShotFrames {r : ShotRecord} {g : SetFrame} (hm : MemoryOk s) (hg : g ∈ r.frames)
    (h : frameCode s (shotSheet r) g.frame = 1) : frameCode (dropShotFrames r s) (shotSheet r) g.frame = 4 :=
  frameCode_foldl_dropReserved hg hm (.inl h)

/-! ### The blocks -/

theorem FrameCalm.enterBack {bk : Back} {st : BackState} (h : FrameCalm s t) : FrameCalm s (enterBack bk st t) :=
  (h.same (setBack_mem ..)).report (by cases bk <;> decide)

theorem FrameCalm.jamBack {bk : Back} (h : FrameCalm s t) : FrameCalm s (jamBack bk t) := by
  have dropped : FrameCalm s (jamDropped bk t) := by
    unfold jamDropped
    split
    · exact h.dropAllReserved
    · exact h
  rw [jamBack_eq]
  exact (((dropped.same (setBack_mem ..)).same (setBack_mem ..)).enterBack).same rfl

theorem FrameCalm.resetBack {bk : Back} (h : FrameCalm s t) : FrameCalm s (resetBack bk t) := by
  unfold Machine.resetBack
  refine FrameCalm.same ?_ (setBack_mem ..)
  split
  · exact h.jamBack
  split
  · exact h.enterBack.same (setBack_mem ..)
  · exact h

theorem frameCalm_standStopped (hm : MemoryOk s) : FrameCalm s (standStopped s) :=
  (((((FrameCalm.refl hm).same (u := { s with control := { s.control with
    resetting := true, stand := .stopped, cause := .none } }) rfl).report (a := 0x00) (by decide)).report (a := 0x01)
      (by decide)).same (u := { setStand .stopped .none { s with control := { s.control with resetting := true } } with
        control := { s.control with resetting := true, stand := .stopped, cause := .none, resetCause := .none } }) rfl).report
          (a := 0x02) (by decide)

/-- From the gate's reset to the backs' the labels stay, and the frames that are not RESERVED. -/
theorem frameCalm_backStage (hm : MemoryOk (gateStage s)) : FrameCalm (gateStage s) (backStage s) := by
  have lamp : FrameCalm (gateStage s) (lampStage s) :=
    (((FrameCalm.refl hm).same (u := { endPulse (gateStage s) with
      lamp := { (endPulse (gateStage s)).lamp with lowCount := 0, faultCount := 0 }, supply := Supply.reset }) rfl).report
        (a := 0x16) (n := 0) (by decide)).same rfl
  exact lamp.resetBack.resetBack

/-! ### The labels -/

theorem memoryOk_setLabelState {l : LabelState} (hm : MemoryOk s) : MemoryOk (setLabelState x j l s) := memoryOk_setByte hm

/-- The labels of a list of frames are SKIPPED. -/
def skipLabels (xs : List (Sheet × Nat)) (s : State) : State := xs.foldl (fun s x => setLabelState x.1 x.2 .skipped s) s

/-- Every frame state stays, the labels of the list are SKIPPED, and every other label stays. -/
theorem skipLabels_spec (xs : List (Sheet × Nat)) (hm : MemoryOk s) :
    MemoryOk (skipLabels xs s) ∧ (∀ sh k, frameCode (skipLabels xs s) sh k = frameCode s sh k)
      ∧ (∀ sh k, labelCode (skipLabels xs s) sh k = labelCode s sh k ∨ labelCode (skipLabels xs s) sh k = 5)
      ∧ ∀ x ∈ xs, labelCode (skipLabels xs s) x.1 x.2 = 5 := by
  induction xs generalizing s with
  | nil => exact ⟨hm, fun _ _ => rfl, fun _ _ => .inl rfl, fun _ h => absurd h List.not_mem_nil⟩
  | cons x xs ih =>
    obtain ⟨memory, frames, labels, skipped⟩ := ih (memoryOk_setLabelState (x := x.1) (j := x.2) (l := .skipped) hm)
    have step (sh : Sheet) (k : Nat) := labelCode_setLabelState (x := x.1) (j := x.2) (sh := sh) (k := k) hm .skipped
    refine ⟨memory, fun sh k => (frames sh k).trans (frameCode_setLabelState hm _), fun sh k => ?_, fun y hy => ?_⟩
    · rcases labels sh k with h | h
      · rw [step] at h
        split at h
        · exact .inr h
        · exact .inl h
      · exact .inr h
    · rcases List.mem_cons.mp hy with rfl | hy
      · rcases labels y.1 y.2 with h | h
        · rw [step, if_pos rfl] at h
          exact h
        · exact h
      · exact skipped y hy

theorem labelsSkipped_eq (s : State) : labelsSkipped s =
    skipLabels (allFrames.filter fun x => isWaiting (skipLabels (s.labels.queue.map fun e => (e.sheet, e.frame)) s) x)
      (skipLabels (s.labels.queue.map fun e => (e.sheet, e.frame)) s) := by
  have queued : s.labels.queue.foldl (fun s e => setLabelState e.sheet e.frame .skipped s) s
      = skipLabels (s.labels.queue.map fun e => (e.sheet, e.frame)) s := by
    unfold skipLabels
    rw [List.foldl_map]
  unfold labelsSkipped
  dsimp only
  rw [queued]
  rfl

theorem mem_allFrames (sh : Sheet) (hlo : 1 ≤ k) (hhi : k ≤ 40) : (sh, k) ∈ allFrames := by
  have number : k ∈ frameNumbers := by
    have : Config.sheetFrames = 40 := rfl
    exact List.mem_range'_1.mpr ⟨hlo, by omega⟩
  exact List.mem_flatMap.mpr ⟨sh, mem_allSheets sh, List.mem_map_of_mem number⟩

/-- Every WAITING label and every label of the queue is SKIPPED, and no frame state changes (R168). -/
theorem labelsSkipped_spec (hm : MemoryOk s) :
    (∀ sh k, frameCode (labelsSkipped s) sh k = frameCode s sh k)
      ∧ (∀ sh k, 1 ≤ k → k ≤ 40 → labelCode s sh k = 1 → labelCode (labelsSkipped s) sh k = 5)
      ∧ ∀ e ∈ s.labels.queue, labelCode (labelsSkipped s) e.sheet e.frame = 5 := by
  rw [labelsSkipped_eq]
  obtain ⟨memory, frames, labels, skipped⟩ := skipLabels_spec (s.labels.queue.map fun e => (e.sheet, e.frame)) hm
  generalize skipLabels (s.labels.queue.map fun e => (e.sheet, e.frame)) s = v at *
  obtain ⟨_, frames', labels', skipped'⟩ := skipLabels_spec (allFrames.filter fun x => isWaiting v x) memory
  have stays (sh : Sheet) (k : Nat) (h : labelCode v sh k = 5) :
      labelCode (skipLabels (allFrames.filter fun x => isWaiting v x) v) sh k = 5 := by
    rcases labels' sh k with h' | h'
    · exact h'.trans h
    · exact h'
  refine ⟨fun sh k => (frames' sh k).trans (frames sh k), fun sh k hlo hhi hw => ?_, fun e he => ?_⟩
  · rcases labels sh k with h | h
    · refine skipped' (sh, k) (List.mem_filter.mpr ⟨mem_allFrames sh hlo hhi, ?_⟩)
      exact decide_eq_true (h.trans hw)
    · exact stays sh k h
  · exact stays _ _ (skipped (e.sheet, e.frame) (List.mem_map_of_mem (f := fun e => (e.sheet, e.frame)) he))

end Sys2Proof.Proofs
end

section
/-! SUPPORT. The stand reset of every block (R19, R72, R95, R149, R168, R195). -/

namespace Sys2Proof.Proofs

open Sys2Proof Sys2Proof.Machine Sys2Proof.Safety Sys2Proof.Laws Sys2Proof.Claims

variable {s t u : State} {sh x : Sheet} {k j : Nat} {K : Nat → Prop}

/-! ### The frame in its passage (R72) -/

theorem frameRecord_injective (hj : 1 ≤ j) (hj' : j ≤ 40) (hk : 1 ≤ k) (hk' : k ≤ 40) (h : frameRecord x k = frameRecord x j) :
    k = j := by
  rw [frameRecord_eq, frameRecord_eq] at h
  omega

/-- What the spoiling of the frame in its passage leaves. -/
structure PassageSpoiled (r : ShotRecord) (f : SetFrame) (s t : State) : Prop where
  memory : MemoryOk t
  labels : ∀ sh k, labelCode t sh k = labelCode s sh k
  frames : ∀ sh k, frameCode t sh k
    = if frameRecord sh k = frameRecord (shotSheet r) f.frame then 3 else frameCode s sh k
  cause : byteAt t (frameRecord (shotSheet r) f.frame + 1) / 16 % 8 = 5

theorem passageSpoiled {r : ShotRecord} {f : SetFrame} (hm : MemoryOk s) (hn : nextFrame r = some f) :
    PassageSpoiled r f s (spoilPassage r s) := by
  have spoiled : spoilPassage r s = writeSpoiled r f .reset s := by
    unfold spoilPassage
    rw [hn]
  have hi := sheetIndex_lt (shotSheet r)
  have hf := frameRecord_eq (shotSheet r) f.frame
  have hb := sheetBase_eq (shotSheet r)
  have hsize : Config.memorySize = 0x8000 := rfl
  have hs := r.slot.isLt
  have ho := outcome_eq r.slot
  have hshot := shotOutcome_eq r.slot r.shot
  have marked : MemoryOk (setSpoilCause (shotSheet r) f.frame .reset s) := memoryOk_setByte hm
  have causeKept : Keeps FrameByte s (setSpoilCause (shotSheet r) f.frame .reset s) :=
    (Keeps.refl s).setByte (apart_frameByte fun b _ _ => by omega)
  have closed : MemoryOk (closeFrame (shotSheet r) f.frame .spoiled (setSpoilCause (shotSheet r) f.frame .reset s)) :=
    (Quiet.closeFrame (Quiet.refl _)).memory marked
  have counted {K : Nat → Prop} (hK : ∀ a, a < 0x4000 → ¬ K a) :
      Keeps K (closeFrame (shotSheet r) f.frame .spoiled (setSpoilCause (shotSheet r) f.frame .reset s))
        (writeSpoiled r f .reset s) :=
    (((Keeps.refl _).same (u := setShot (markRecorded f.frame r) _) rfl).setByte fun b _ _ => hK b (by omega)).setWord
      fun b _ _ => hK b (by omega)
  have rest := counted (K := FrameByte) fun a ha => by
    rintro ⟨sh, k, rfl⟩
    rw [frameRecord_eq] at ha
    omega
  rw [spoiled]
  refine ⟨memoryOk_setWord (memoryOk_setByte (s := setShot (markRecorded f.frame r) _) closed),
    fun sh k => ?_, fun sh k => ?_, ?_⟩
  · rw [labelCode_kept rest, labelCode_closeFrame marked, labelCode_kept causeKept]
  · rw [frameCode_kept rest, frameCode_closeFrame marked, frameCode_kept causeKept]
    rfl
  · have byte : byteAt (writeSpoiled r f .reset s) (frameRecord (shotSheet r) f.frame + 1)
        = byteAt (setSpoilCause (shotSheet r) f.frame .reset s) (frameRecord (shotSheet r) f.frame + 1) :=
      Keeps.byteAt (K := fun a => a = frameRecord (shotSheet r) f.frame + 1)
        (Keeps.trans
          ((Keeps.refl _).closeFrame (f := .spoiled) (apart_byte (by omega)) (apart_byte (by simp only [sheetCount]; omega)))
          (counted fun a ha => by omega)) rfl
    have code : SpoilCause.reset.code = 5 := rfl
    rw [byte, setSpoilCause, byteAt_setByte_same hm (by omega), code]
    omega

/-! ### The gate's reset -/

theorem resetGate_mem_none (h : s.gate.shot = none) : (resetGate s).mem = s.mem := by
  unfold resetGate
  rw [h]
  rfl

theorem resetGate_mem_some {r : ShotRecord} (h : s.gate.shot = some r) :
    (resetGate s).mem = (dropShotFrames r (if s.gate.phase = .passage then spoilPassage r s else s)).mem := by
  unfold resetGate
  rw [h]
  rfl

theorem memoryOk_spoilPassage {r : ShotRecord} (hm : MemoryOk s) : MemoryOk (spoilPassage r s) := by
  cases hn : nextFrame r with
  | none => unfold spoilPassage; rw [hn]; exact hm
  | some f => exact (passageSpoiled hm hn).memory

/-- The gate's reset keeps every label. -/
theorem labelCode_resetGate (hm : MemoryOk s) (sh : Sheet) (k : Nat) : labelCode (resetGate s) sh k = labelCode s sh k := by
  cases hs : s.gate.shot with
  | none => exact labelCode_kept ((Keeps.refl s).same (resetGate_mem_none hs)) sh k
  | some r =>
    have spoiled : labelCode (if s.gate.phase = .passage then spoilPassage r s else s) sh k = labelCode s sh k := by
      split
      · cases hn : nextFrame r with
        | none => unfold spoilPassage; rw [hn]
        | some f => exact (passageSpoiled hm hn).labels sh k
      · rfl
    have memory : MemoryOk (if s.gate.phase = .passage then spoilPassage r s else s) := by
      split
      · exact memoryOk_spoilPassage hm
      · exact hm
    have dropped := FrameCalm.dropShotFrames (r := r) (FrameCalm.refl memory)
    exact (labelCode_kept ((Keeps.refl _).same (resetGate_mem_some hs)) sh k).trans ((dropped.labels sh k).trans spoiled)

/-- The frames of a shot that was not in its passage. -/
theorem frames_resetGate {r : ShotRecord} (hm : MemoryOk s) (hs : s.gate.shot = some r) (hp : s.gate.phase ≠ .passage)
    {g : SetFrame} (hg : g ∈ r.frames) (h : frameCode s (shotSheet r) g.frame = 1) :
    frameCode (resetGate s) (shotSheet r) g.frame = 4 := by
  have mem := resetGate_mem_some hs
  rw [if_neg hp] at mem
  exact (frameCode_kept ((Keeps.refl _).same mem) _ _).trans (frameCode_dropShotFrames hm hg h)

/-- The frames of a shot in its passage. -/
theorem frames_resetGate_passage {r : ShotRecord} {f : SetFrame} (hm : MemoryOk s) (hs : s.gate.shot = some r)
    (hp : s.gate.phase = .passage) (hn : nextFrame r = some f) (hr : FramesOnSheet r) :
    frameCode (resetGate s) (shotSheet r) f.frame = 3
      ∧ byteAt (resetGate s) (frameRecord (shotSheet r) f.frame + 1) / 16 % 8 = 5
      ∧ ∀ g ∈ r.frames, g.frame ≠ f.frame → frameCode s (shotSheet r) g.frame = 1 →
          frameCode (resetGate s) (shotSheet r) g.frame = 4 := by
  have mem := resetGate_mem_some hs
  rw [if_pos hp] at mem
  obtain ⟨memory, _, frames, cause⟩ := passageSpoiled hm hn
  have dropped := FrameCalm.dropShotFrames (r := r) (FrameCalm.refl memory)
  have last : Keeps FrameByte (dropShotFrames r (spoilPassage r s)) (resetGate s) := (Keeps.refl _).same mem
  have three : frameCode (spoilPassage r s) (shotSheet r) f.frame = 3 := by rw [frames, if_pos rfl]
  refine ⟨?_, ?_, fun g hg hne hcode => ?_⟩
  · rw [frameCode_kept last, dropped.frames _ _ (by rw [three]; decide), three]
  · have kept : Keeps (fun a => a = frameRecord (shotSheet r) f.frame + 1) (spoilPassage r s) (resetGate s) := by
      refine (Keeps.foldl (fun v g _ kept => kept.dropReserved (apart_byte ?_) (apart_byte ?_)) (.refl _)).same mem
      · rw [frameRecord_eq, frameRecord_eq]; omega
      · rw [frameRecord_eq, sheetBase_eq]; omega
    rw [kept.byteAt rfl]
    exact cause
  · have apart : frameRecord (shotSheet r) g.frame ≠ frameRecord (shotSheet r) f.frame := fun e => by
      obtain ⟨hlo, hhi⟩ := hr f (List.mem_of_find?_eq_some hn)
      obtain ⟨hlo', hhi'⟩ := hr g hg
      exact hne (frameRecord_injective hlo hhi hlo' hhi' e)
    rw [frameCode_kept last]
    refine frameCode_dropShotFrames memory hg ?_
    rw [frames, if_neg apart]
    exact hcode

/-! ### From the gate's reset to the end -/

/-- The bytes of the sheets, and the two counts of labels. -/
def SheetByte (a : Nat) : Prop := 0x4000 ≤ a ∧ a < 0x5000 ∨ a = 0x5D0A ∨ a = 0x5D0B

theorem keeps_interruptAll_sheets (xs : List OrderEntry) (s : State) : Keeps SheetByte s (interruptAll xs s) := by
  refine foldl_keeps (I := Keeps SheetByte s) (fun u e _ kept => ?_) (.refl s)
  have he := e.slot.isLt
  have hs := slotBase_eq e.slot
  have ho := outcome_eq e.slot
  have hj := accountBase_eq (accountIndex u e.slot)
  have apart {a n : Nat} (h : a + n ≤ 0x4000 ∨ 0x5000 ≤ a ∧ (a + n ≤ 0x5D0A ∨ 0x5D0C ≤ a)) : Apart SheetByte a n := by
    intro b _ _ hb
    unfold SheetByte at hb
    omega
  refine kept.interruptOrder (apart (by omega)) (apart (by omega)) (apart (by decide)) fun _ =>
    ⟨fun i _ => apart ?_, apart (by omega), apart (by omega)⟩
  have := shotOutcome_eq e.slot i
  omega

theorem keeps_blocksReset_end (s : State) : Keeps SheetByte (blocksReset s) (takeStandReset s) :=
  (keeps_interruptAll_sheets s.orders.runList (blocksReset s)).same (takeStandReset_mem s)

theorem frameByte_sheet {a : Nat} (h : FrameByte a) : SheetByte a := by
  obtain ⟨sh, k, rfl⟩ := h
  have := sheetIndex_lt sh
  rw [frameRecord_eq]
  unfold SheetByte
  omega

/-- The state whose labels the Label Unit's reset skips. -/
def labelStage (s : State) : State := stopFeeder (resetCarriage (backStage s))

theorem frameCalm_labelStage (hm : MemoryOk (gateStage s)) : FrameCalm (gateStage s) (labelStage s) := by
  have backs := frameCalm_backStage hm
  refine FrameCalm.same (t := resetCarriage (backStage s)) ?_ rfl
  unfold resetCarriage
  split
  · exact backs
  · exact (backs.same (u := { backStage s with
      carriage := { (backStage s).carriage with homingTimer := none, state := .fault } }) rfl).report (a := 0x03) (by decide)

theorem keeps_labelsSkipped_end (s : State) : Keeps FrameByte (labelsSkipped (labelStage s)) (takeStandReset s) := by
  have cleared := (Keeps.refl (K := FrameByte) (labelsSkipped (labelStage s))).labelsCleared
    (apart_frameByte fun b _ _ => by omega) (apart_frameByte fun b _ _ => by omega)
  have line := cleared.lineReset (apart_frameByte fun b _ _ => by omega)
  exact line.trans fun a ha => keeps_blocksReset_end s a (frameByte_sheet ha)

/-- A frame that the gate's reset leaves not RESERVED has its state at the end. -/
theorem frameCode_end (hm : MemoryOk (gateStage s)) (h : frameCode (gateStage s) sh k ≠ 1) :
    frameCode (takeStandReset s) sh k = frameCode (gateStage s) sh k := by
  have calm := frameCalm_labelStage hm
  rw [frameCode_kept (keeps_labelsSkipped_end s), (labelsSkipped_spec calm.memory).1, calm.frames sh k h]

theorem memoryOk_gateStage (hm : MemoryOk s) : MemoryOk (gateStage s) :=
  Meets.resetGate (l := .form) (frameCalm_standStopped hm).memory

/-- Every label of the queue and every WAITING label is SKIPPED (R168). -/
theorem labels_end (hm : MemoryOk s) :
    (∀ sh k, 1 ≤ k → k ≤ 40 → labelCode s sh k = 1 → labelCode (takeStandReset s) sh k = 5)
      ∧ ∀ e ∈ s.labels.queue, labelCode (takeStandReset s) e.sheet e.frame = 5 := by
  have stopped := frameCalm_standStopped hm
  have calm := frameCalm_labelStage (memoryOk_gateStage hm)
  have queue : (labelStage s).labels = s.labels := by
    show (resetCarriage (backStage s)).labels = s.labels
    rw [resetCarriage_only, backStage_only]
  obtain ⟨_, waiting, queued⟩ := labelsSkipped_spec calm.memory
  refine ⟨fun sh k hlo hhi h => ?_, fun e he => ?_⟩
  · rw [labelCode_kept (keeps_labelsSkipped_end s)]
    refine waiting sh k hlo hhi ?_
    rw [calm.labels, gateStage, labelCode_resetGate stopped.memory, stopped.labels, h]
  · rw [labelCode_kept (keeps_labelsSkipped_end s)]
    exact queued e (by rw [queue]; exact he)

/-- Both counts of labels are 0 (R168). -/
theorem counts_end (hm : MemoryOk s) : reportByte (takeStandReset s) 0x0A = 0 ∧ waitingCount (takeStandReset s) = 0 := by
  have memory : MemoryOk (labelsSkipped (labelStage s)) := by
    rw [labelsSkipped_eq]
    exact (skipLabels_spec _ (skipLabels_spec _ (frameCalm_labelStage (memoryOk_gateStage hm)).memory).1).1
  have queueEmpty : byteAt (setQueue [] (labelsSkipped (labelStage s))) 0x5D0A = 0 :=
    byteAt_setByte_same (a := 0x5D0A) (n := 0) (s := { labelsSkipped (labelStage s) with labels := _ }) memory (by decide)
  have noneWaiting : byteAt (setWaitingCount 0 (setQueue [] (labelsSkipped (labelStage s)))) 0x5D0B = 0 :=
    byteAt_setByte_same (a := 0x5D0B) (n := 0) (s := setQueue [] (labelsSkipped (labelStage s)))
      (memoryOk_report (s := { labelsSkipped (labelStage s) with labels := _ }) memory) (by decide)
  have errors {K : Nat → Prop} (v : State) (he : Apart K 0x5D14 2) : Keeps K v (setErrors 0 v) :=
    ((Keeps.refl v).same (u := { v with labels := { v.labels with errors := 0 } }) rfl).setWord he
  have line {a : Nat} (ha : a = 0x5D0A ∨ a = 0x5D0B) :
      Keeps (fun b => b = a) (labelsCleared (labelsSkipped (labelStage s))) (takeStandReset s) :=
    ((Keeps.refl _).lineReset (apart_byte (by omega))).trans fun b hb =>
      keeps_blocksReset_end s b (by unfold SheetByte; omega)
  constructor
  · have kept := ((Keeps.refl (K := fun b => b = 0x5D0A) (setQueue [] (labelsSkipped (labelStage s)))).report (a := 0x0B) (n := 0)
      (apart_byte (by decide))).trans (errors _ (apart_byte (by decide)))
    exact ((kept.trans (line (.inl rfl))).byteAt rfl).trans queueEmpty
  · have kept := errors (K := fun b => b = 0x5D0B) (setWaitingCount 0 (setQueue [] (labelsSkipped (labelStage s))))
      (apart_byte (by decide))
    exact ((kept.trans (line (.inr rfl))).byteAt rfl).trans noneWaiting

end Sys2Proof.Proofs
end

section
/-! SUPPORT. The statement about the stand reset of every block (R19, R95, R149, R168, R195). -/

namespace Sys2Proof.Proofs

open Sys2Proof Sys2Proof.Machine Sys2Proof.Safety Sys2Proof.Laws Sys2Proof.Claims

variable {s t : State} {u : BackUnit} {sh : Sheet} {k : Nat}

/-! ### A Back Unit after its reset (R95) -/

theorem inMotion_iff (b : BackState) : inMotion b = true ↔ b = .loading ∨ b = .winding ∨ b = .rewinding := by
  cases b <;> decide

theorem shutterInUse_iff (u : BackUnit) : shutterInUse u = true ↔ shutterInPassage u := by
  simp [shutterInUse]

/-- A back whose shutter is in use has no film in motion. -/
theorem notInMotion_of_shutterInUse (h : shutterInUse u = true) : inMotion u.state = false := by
  rcases (shutterInUse_iff u).mp h with h | ⟨h, _⟩ <;> rw [h] <;> rfl

theorem unitAfterReset_state (u : BackUnit) : (unitAfterReset u).state = backAfterReset u := by
  unfold unitAfterReset backAfterReset
  simp only [inMotion_iff, shutterInUse_iff]
  split
  · rfl
  split <;> rfl

theorem unitAfterReset_moved (u : BackUnit) :
    inMotion u.state = true ∧ unitAfterReset u = { jammedUnit u with
        motor := { stoppedMotor (stoppedMotor u.motor) with perforations := 0 }
        shutter := { closedShutter u.shutter with command := .none, timer := none } }
      ∨ shutterInUse u = true ∧ unitAfterReset u = { closingUnit u with
          motor := { stoppedMotor u.motor with perforations := 0 } }
      ∨ inMotion u.state = false ∧ shutterInUse u = false ∧ unitAfterReset u = { u with
          motor := { stoppedMotor u.motor with perforations := 0 }
          shutter := { u.shutter with command := .none, timer := none } } := by
  unfold unitAfterReset
  cases hs : shutterInUse u with
  | true =>
    rw [notInMotion_of_shutterInUse hs]
    exact .inr (.inl ⟨rfl, rfl⟩)
  | false =>
    cases hm : inMotion u.state with
    | true => exact .inl ⟨rfl, rfl⟩
    | false => exact .inr (.inr ⟨rfl, rfl, rfl⟩)

/-- What the reset of a Back Unit keeps, stops and commands. -/
structure UnitReset (u v : BackUnit) : Prop where
  frame : v.gateFrame = u.gateFrame
  live : v.live = u.live
  direction : v.motor.direction = .stopped
  start : v.motor.start = .stopped
  perforations : v.motor.perforations = 0
  stall : v.motor.stallTimer = none
  rewind : v.motor.rewindTimer = none
  levels : v.levels = u.levels
  readyAt : v.readyAt = u.readyAt
  first : v.handFirst = u.handFirst
  second : v.handSecond = u.handSecond
  closing : shutterInPassage u → v.shutter.command = .close ∧ v.shutter.timer = some 1600
  quiet : ¬ shutterInPassage u → v.shutter.command = .none ∧ v.shutter.timer = none
  origin : u.state = .rewinding → v.origin = .none

theorem unitReset (u : BackUnit) : UnitReset u (unitAfterReset u) := by
  have inUse := shutterInUse_iff u
  rcases unitAfterReset_moved u with ⟨hm, h⟩ | ⟨hs, h⟩ | ⟨hm, hs, h⟩
  · have unused : ¬ shutterInPassage u := fun c => by
      rw [notInMotion_of_shutterInUse (inUse.mpr c)] at hm
      exact Bool.noConfusion hm
    rw [h]
    exact ⟨rfl, rfl, rfl, rfl, rfl, rfl, rfl, rfl, rfl, rfl, rfl, fun c => absurd c unused, fun _ => ⟨rfl, rfl⟩, fun _ => rfl⟩
  · rw [h]
    exact ⟨rfl, rfl, rfl, rfl, rfl, rfl, rfl, rfl, rfl, rfl, rfl, fun _ => ⟨rfl, rfl⟩, fun c => absurd (inUse.mp hs) c,
      fun _ => rfl⟩
  · have unused : ¬ shutterInPassage u := fun c => by
      rw [inUse.mpr c] at hs
      exact Bool.noConfusion hs
    rw [h]
    refine ⟨rfl, rfl, rfl, rfl, rfl, rfl, rfl, rfl, rfl, rfl, rfl, fun c => absurd c unused, fun _ => ⟨rfl, rfl⟩, fun c => ?_⟩
    rw [c] at hm
    exact Bool.noConfusion hm

/-! ### The state after the key -/

theorem flagsGrow_takeStandReset (s : State) : FlagsGrow (standStopped s) (takeStandReset s) := by
  have gate : FlagsGrow (standStopped s) (gateStage s) := .same (by rw [gateStage_only]; rfl)
  have lamp : FlagsGrow (gateStage s) (lampStage s) := .same (by rw [lampStage_only, gateStage_only])
  have backs : FlagsGrow (lampStage s) (backStage s) := (resetBacks_only (lampStage s)).2
  have blocks : FlagsGrow (backStage s) (blocksReset s) := .same (by rw [blocksReset_only])
  have orders : FlagsGrow (blocksReset s) (takeStandReset s) :=
    (flagsGrow_interruptAll s.orders.runList (blocksReset s)).trans (.same (takeStandReset_control s))
  exact (((gate.trans lamp).trans backs).trans blocks).trans orders

/-- The watch after its reset (R19). -/
def watchAfterReset (w : Watch) : Watch := { slotOrder := [], sheetMarks := [], settleMarks := [], settleHeld := w.settleMarks }

theorem clearMarks_resetOrders_only (s : State) : clearMarks (resetOrders s) = { s with
    mem := (clearMarks (resetOrders s)).mem
    control := (clearMarks (resetOrders s)).control
    orders := (clearMarks (resetOrders s)).orders
    watch := watchAfterReset s.watch } := by
  have ended := resetOrders_only s
  generalize (interruptAll s.orders.runList s).mem = m, (interruptAll s.orders.runList s).control = c at ended
  generalize (resetOrders s).orders = o at ended
  generalize resetOrders s = v at ended
  subst ended
  rfl

theorem takeStandReset_only (s : State) : takeStandReset s = { s with
    mem := (takeStandReset s).mem
    control := (takeStandReset s).control
    orders := (takeStandReset s).orders
    watch := watchAfterReset s.watch
    gate := Gate.reset
    exposure := exposureAfterReset s.exposure
    lamp := lampAfterReset s.lamp
    supply := Supply.reset
    converter := { s.converter with supply := false, lamp := false }
    backA := unitAfterReset s.backA
    backB := unitAfterReset s.backB
    carriage := carriageAfterReset s.carriage
    feeder := { s.feeder with drive := .stopped, target := none, homingTimer := none }
    labels := labelsAfterReset s.labels } := by
  have last := clearMarks_resetOrders_only (blocksReset s)
  have before := blocksReset_only s
  rw [takeStandReset_eq]
  generalize clearMarks (resetOrders (blocksReset s)) = t at last
  generalize (blocksReset s).mem = m, (backStage s).control = c at before
  generalize blocksReset s = v at last before
  subst before
  exact last

/-! ### The frames at the end -/

theorem cause_end (s : State) (sh : Sheet) (k : Nat) :
    byteAt (takeStandReset s) (frameRecord sh k + 1) = byteAt (gateStage s) (frameRecord sh k + 1) := by
  have hi := sheetIndex_lt sh
  have hf := frameRecord_eq sh k
  have apart : ResetApart fun a => a = frameRecord sh k + 1 :=
    { frames := fun x j _ _ => apart_byte (by rw [frameRecord_eq, frameRecord_eq]; omega)
      counts := fun x => apart_byte (by rw [sheetBase_eq, frameRecord_eq]; omega)
      states := apart_byte (by omega), printer := apart_byte (by omega), errors := apart_byte (by omega) }
  refine ((Keeps.afterGate (Keeps.refl (gateStage s)) apart).trans fun a ha => keeps_blocksReset_end s a ?_).byteAt rfl
  unfold SheetByte
  omega

/-- What becomes of the frames of the shot at the gate (R72, R112). -/
theorem frames_end {r : ShotRecord} (hm : MemoryOk s) (hs : s.gate.shot = some r) (hr : FramesOnSheet r) :
    (∀ f, s.gate.phase = .passage → nextFrame r = some f →
      frameCode (takeStandReset s) ⟨r.back, r.which⟩ f.frame = 3
        ∧ byteAt (takeStandReset s) (frameRecord ⟨r.back, r.which⟩ f.frame + 1) / 16 % 8 = 5
        ∧ ∀ g ∈ r.frames, g.frame ≠ f.frame → frameCode s ⟨r.back, r.which⟩ g.frame = 1 →
            frameCode (takeStandReset s) ⟨r.back, r.which⟩ g.frame = 4)
      ∧ (s.gate.phase ≠ .passage → ∀ g ∈ r.frames, frameCode s ⟨r.back, r.which⟩ g.frame = 1 →
          frameCode (takeStandReset s) ⟨r.back, r.which⟩ g.frame = 4) := by
  have stopped := (frameCalm_standStopped hm).memory
  have gate := memoryOk_gateStage hm
  have atGate : (standStopped s).gate = s.gate := by rw [standStopped_only]
  have bytes : Keeps FrameByte s (standStopped s) := by
    have hr : Config.report = 0x5D00 := rfl
    exact (((((Keeps.refl s).same (u := { s with control := { s.control with
      resetting := true, stand := .stopped, cause := .none } }) rfl).report (a := 0x00)
        (apart_frameByte fun b _ _ => by omega)).report (a := 0x01) (apart_frameByte fun b _ _ => by omega)).same
          (u := { setStand .stopped .none { s with control := { s.control with resetting := true } } with
            control := stoppedControl s.control }) rfl).report (a := 0x02) (apart_frameByte fun b _ _ => by omega)
  have reserved {g : SetFrame} (h : frameCode s ⟨r.back, r.which⟩ g.frame = 1) :
      frameCode (standStopped s) (shotSheet r) g.frame = 1 := (frameCode_kept bytes _ _).trans h
  have stays {j c : Nat} (hc : c ≠ 1) (h : frameCode (gateStage s) (shotSheet r) j = c) :
      frameCode (takeStandReset s) ⟨r.back, r.which⟩ j = c :=
    (frameCode_end (sh := shotSheet r) gate (by rw [h]; exact hc)).trans h
  refine ⟨fun f hp hn => ?_, fun hp g hg h => ?_⟩
  · obtain ⟨three, cause, four⟩ := frames_resetGate_passage stopped (by rw [atGate]; exact hs) (by rw [atGate]; exact hp) hn hr
    refine ⟨stays (by decide) three, ?_, fun g hg hne h => stays (by decide) (four g hg hne (reserved h))⟩
    rw [cause_end]
    exact cause
  · exact stays (by decide) (frames_resetGate stopped (by rw [atGate]; exact hs) (by rw [atGate]; exact hp) hg (reserved h))

theorem carriageAfterReset_state (c : Carriage) :
    (carriageAfterReset c).state = if c.state = .shifting ∨ c.state = .homing then .fault else c.state := by
  unfold carriageAfterReset
  split <;> rfl

/-- Settles O8: each block at its reset state, the frames of the shot from the gate's reset to the end, and the labels. -/
theorem standResetTakesEveryBlock : Obligations.StandResetTakesEveryBlock := by
  unfold Obligations.StandResetTakesEveryBlock
  intro s hm hw
  have only := takeStandReset_only s
  have flags := flagsGrow_takeStandReset s
  have runs : (takeStandReset s).orders.runList = [] := resetOrders_runList (blocksReset s)
  have choice : (takeStandReset s).orders.choice = none := rfl
  have started : s.control.startUp = .ended := by
    obtain ⟨h, _⟩ := Bool.and_eq_true_iff.mp hw
    exact of_decide_eq_true h
  obtain ⟨waiting, queued⟩ := labels_end hm
  obtain ⟨queueCount, waitingNone⟩ := counts_end hm
  have frames (r : ShotRecord) (hs : s.gate.shot = some r) (hr : FramesOnSheet r) := frames_end hm hs hr
  refine ⟨takeStandReset s, exec_standReset hw, ?_⟩
  generalize takeStandReset s = t at *
  have control : t.control = { stoppedControl s.control with notice := t.control.notice, seen := t.control.seen } := flags.1
  have unit (bk : Back) : t.back bk = unitAfterReset (s.back bk) := by
    cases bk
    · show t.backA = _
      rw [only]
      rfl
    · show t.backB = _
      rw [only]
      rfl
  have watch : t.watch = watchAfterReset s.watch := by rw [only]
  have gate : t.gate = Gate.reset := by rw [only]
  have lamp : t.lamp = lampAfterReset s.lamp := by rw [only]
  have exposure : t.exposure = exposureAfterReset s.exposure := by rw [only]
  have labels : t.labels = labelsAfterReset s.labels := by rw [only]
  have carriage : t.carriage = carriageAfterReset s.carriage := by rw [only]
  refine ⟨by rw [control]; rfl, by rw [control]; rfl, by rw [control]; rfl, by rw [control]; rfl, by rw [control]; rfl,
    fun f hf => flags.2 f hf, ?_, by rw [watch]; rfl, by rw [watch]; rfl, by rw [watch]; rfl, by rw [watch]; rfl, runs, choice,
    by rw [gate]; rfl, by rw [gate]; rfl, by rw [gate]; rfl, by rw [lamp]; rfl, by rw [lamp]; rfl, by rw [lamp]; rfl,
    by rw [lamp]; rfl, by rw [lamp]; rfl, by rw [lamp]; rfl, by rw [only]; rfl, by rw [exposure]; rfl, by rw [exposure]; rfl,
    fun bk => ?_, fun r hs _ hr => frames r hs hr, waiting, queued, queueCount, waitingNone, by rw [only], ?_,
    by rw [only], by rw [only], by rw [labels]; rfl, by rw [labels]; rfl, by rw [labels]; rfl, by rw [labels]; rfl,
    by rw [labels]; rfl, by rw [labels]; rfl, by rw [labels]; rfl, by rw [labels]; rfl, by rw [labels]; rfl, by rw [only],
    by rw [only], by rw [only]⟩
  · unfold ident Machine.started
    rw [control]
    show (if decide (s.control.startUp = .ended) = true then (0x9340 : Word) else 0x1340) = 0x9340
    rw [started]
    rfl
  · have reset := unitReset (s.back bk)
    rw [unit bk]
    exact ⟨unitAfterReset_state _, reset.frame, reset.live, reset.direction, reset.start, reset.perforations, reset.stall,
      reset.rewind, reset.levels, reset.readyAt, reset.first, reset.second, reset.closing, reset.quiet, reset.origin⟩
  · rw [carriage]
    exact carriageAfterReset_state _

end Sys2Proof.Proofs
end

section
/-! SUPPORT. The checks of an order at its take: the first check of the table that fails gives the refusal. -/

namespace Sys2Proof.Proofs

open Sys2Proof Sys2Proof.Machine Sys2Proof.Safety Sys2Proof.Laws Sys2Proof.Claims

variable {s t u : State} {n m : Slot}

/-- The checks of R24 that a COPY order meets, in the order of the table. -/
def copyTable : List RefusalCode :=
  [.badAccount, .accountClosed, .badProfile, .badShots, .badPosition, .badBracket, .badCopies, .badStyle, .badBack,
    .notCalibrated, .overCeiling]

theorem copyTable_rising : copyTable.Pairwise fun c d => c.code < d.code := by decide

theorem mem_copyTable (c : RefusalCode) : c ∈ copyTable ↔ c ≠ .badKind := by cases c <;> decide

theorem someEntry_iff {bad : Nat → Bool} {P : Nat → Prop} (h : ∀ i, bad i = true ↔ P i) :
    someEntry s n bad = true ↔ someShot s n P := by
  simp only [someEntry, List.any_eq_true, List.mem_range, h]

theorem badTray_iff {i : Nat} : badTray s n i = true ↔ trayPosition s n i = 0 ∨ 80 < trayPosition s n i := by
  simp [badTray]

theorem commitmentFits_eq_false : commitmentFits s n = false ↔ Fails s n .overCeiling := by
  have : planCommitment s n = planned s n := rfl
  simp only [commitmentFits, this, Config.max24, Bool.and_eq_false_iff, Bool.not_eq_false', Bool.and_eq_true, decide_eq_true_eq]

/-- Two chains of checks with the same verdicts agree on the first of them and then on the rest. -/
theorem ite_chain {α : Type} {P Q : Prop} {a x y : α} {_ : Decidable P} {_ : Decidable Q} (h : P ↔ Q) (e : x = y) :
    (if P then a else x) = if Q then a else y := if_congr h rfl e

theorem find?_cons_prop {α : Type} {P : α → Prop} [DecidablePred P] {a : α} {l : List α} :
    (a :: l).find? (fun x => decide (P x)) = if P a then some a else l.find? fun x => decide (P x) := by
  by_cases h : P a <;> simp [h]

open Classical in
/-- The check of a COPY order is a search of the table for the first check that fails. -/
theorem checkCopy_eq_find : checkCopy s n = copyTable.find? fun c => decide (Fails s n c) := by
  have profile : profileValid s (orderProfile s n) = false ↔ byteAt s (profileBase (orderProfile s n)) = 0 := by
    simp [profileValid]
  have style : styleValid s (styleIndex s n) = false ↔ byteAt s (styleBase (styleIndex s n)) = 0 := by simp [styleValid]
  have scale : calibrated s = false ↔ wordAt s 0x5C40 = 0 := by
    unfold calibrated
    exact decide_eq_false_iff_not.trans not_not
  unfold checkCopy copyTable
  simp only [find?_cons_prop, List.find?_nil]
  exact ite_chain .rfl <| ite_chain .rfl <| ite_chain (or_congr .rfl profile) <| ite_chain .rfl <|
    ite_chain (someEntry_iff fun i => badTray_iff) <|
    ite_chain (someEntry_iff fun i => by simp [badBracketEntry, and_assoc]) <|
    ite_chain (someEntry_iff fun i => by simp [badCopiesEntry]) <|
    ite_chain (or_congr .rfl style) <| ite_chain .rfl <| ite_chain scale <| ite_chain commitmentFits_eq_false rfl

theorem find?_rising_iff {p : RefusalCode → Bool} {c : RefusalCode} :
    ∀ {l : List RefusalCode}, (l.Pairwise fun c d => c.code < d.code) →
      (l.find? p = some c ↔ c ∈ l ∧ p c = true ∧ ∀ d ∈ l, d.code < c.code → p d = false)
  | [], _ => by simp
  | x :: l, h => by
    obtain ⟨first, rest⟩ := List.pairwise_cons.mp h
    rw [List.find?_cons]
    cases hx : p x with
    | true =>
      simp only [Option.some.injEq]
      refine ⟨fun e => ⟨e ▸ .head l, e ▸ hx, fun d hd hlt => ?_⟩, fun ⟨hc, _, before⟩ => ?_⟩
      · subst e
        rcases List.mem_cons.mp hd with rfl | hd
        · omega
        · have := first d hd; omega
      · rcases List.mem_cons.mp hc with rfl | hc
        · rfl
        · have := before x (.head l) (first c hc); simp [hx] at this
    | false =>
      refine (find?_rising_iff rest).trans ⟨fun ⟨hc, hp, before⟩ => ⟨.tail x hc, hp, fun d hd hlt => ?_⟩,
        fun ⟨hc, hp, before⟩ => ⟨?_, hp, fun d hd => before d (.tail x hd)⟩⟩
      · rcases List.mem_cons.mp hd with rfl | hd
        · exact hx
        · exact before d hd hlt
      · rcases List.mem_cons.mp hc with rfl | hc
        · simp [hx] at hp
        · exact hc

theorem not_fails_badKind (h : kindByte s n = 1) : ¬ Fails s n .badKind := fun hk => hk.1 h

theorem checkCopy_eq_some {c : RefusalCode} (h : kindByte s n = 1) :
    checkCopy s n = some c ↔ Fails s n c ∧ ∀ d : RefusalCode, d.code < c.code → ¬ Fails s n d := by
  rw [checkCopy_eq_find, find?_rising_iff copyTable_rising]
  simp only [mem_copyTable, decide_eq_true_eq, decide_eq_false_iff_not]
  have kind := not_fails_badKind h
  constructor
  · rintro ⟨-, hc, before⟩
    refine ⟨hc, fun d hd => ?_⟩
    by_cases hk : d = .badKind
    · exact hk ▸ kind
    · exact before d hk hd
  · rintro ⟨hc, before⟩
    exact ⟨fun e => kind (e ▸ hc), hc, fun d _ => before d⟩

theorem checkCopy_eq_none : checkCopy s n = none ↔ ∀ c, c ≠ .badKind → ¬ Fails s n c := by
  rw [checkCopy_eq_find, List.find?_eq_none]
  simp only [mem_copyTable, decide_eq_true_eq]

theorem checkOrder_refused {c : RefusalCode} (h : kindByte s n = 1) : checkOrder s n = .inl c ↔ checkCopy s n = some c := by
  simp only [checkOrder, orderKind, h, if_true]
  cases checkCopy s n <;> simp

theorem checkOrder_eq_copy : checkOrder s n = .inr .copy ↔ kindByte s n = 1 ∧ checkCopy s n = none := by
  by_cases h : kindByte s n = 1
  · simp only [checkOrder, orderKind, h, if_true]
    cases checkCopy s n <;> simp
  · simp only [checkOrder, orderKind, h, if_false, false_and, iff_false]
    by_cases h2 : kindByte s n = 2
    · simp [h2]; split <;> simp
    · by_cases h3 : kindByte s n = 3
      · simp [h3]; split <;> simp
      · simp [h2, h3]

theorem not_someShot {P Q : Nat → Prop} (h : ∀ i, ¬ P i ↔ Q i) : ¬ someShot s n P ↔ ∀ i, i < shotCount s n → Q i := by
  simp only [someShot, not_exists, not_and, h]

/-- Settles O19: the checks are a search of a table of rising codes for the first one that fails. -/
theorem checksAreMadeInTheirOrder : Obligations.ChecksAreMadeInTheirOrder := by
  unfold Obligations.ChecksAreMadeInTheirOrder
  refine ⟨fun s n => ?_, fun s n c hk => ?_, fun s n => ⟨fun h1 h2 h3 => ?_, fun h => ?_, fun h => ?_⟩⟩
  · rw [checkOrder_eq_copy, checkCopy_eq_none]
    have tray := not_someShot (s := s) (n := n) (P := fun i => trayPosition s n i = 0 ∨ 80 < trayPosition s n i)
      (Q := fun i => 1 ≤ trayPosition s n i ∧ trayPosition s n i ≤ 80) fun i => by omega
    have bracket := not_someShot (s := s) (n := n)
      (P := fun i => bracketCount s n i ≠ 1 ∧ bracketCount s n i ≠ 3 ∧ bracketCount s n i ≠ 5 ∨ 4 < stepCode s n i)
      (Q := fun i => (bracketCount s n i = 1 ∨ bracketCount s n i = 3 ∨ bracketCount s n i = 5) ∧ stepCode s n i ≤ 4)
      fun i => by omega
    have copies := not_someShot (s := s) (n := n) (P := fun i => copyCount s n i = 0 ∨ 3 < copyCount s n i)
      (Q := fun i => 1 ≤ copyCount s n i ∧ copyCount s n i ≤ 3) fun i => by omega
    constructor
    · rintro ⟨hk, pass⟩
      have ht := tray.mp (pass .badPosition (by decide))
      have hb := bracket.mp (pass .badBracket (by decide))
      have hc := copies.mp (pass .badCopies (by decide))
      have ha := pass .badAccount (by decide)
      have hcl := pass .accountClosed (by decide)
      have hp := pass .badProfile (by decide)
      have hs := pass .badShots (by decide)
      have hst := pass .badStyle (by decide)
      have hbk := pass .badBack (by decide)
      have hcal := pass .notCalibrated (by decide)
      have hov := pass .overCeiling (by decide)
      dsimp only [Fails] at ha hcl hp hs hst hbk hcal hov
      exact ⟨hk, by omega, by omega, by omega, by omega, by omega, by omega,
        fun i hi => ⟨(ht i hi).1, (ht i hi).2, (hb i hi).1, (hb i hi).2, hc i hi⟩, by omega, by omega, by omega, hcal,
        fun _ => by omega, by omega⟩
    · rintro ⟨hk, ha, hcl, hp, hpv, hs, hs', hshots, hst, hstv, hbk, hcal, hceil, hmax⟩
      refine ⟨hk, fun c hc => ?_⟩
      cases c
      case badKind => exact absurd rfl hc
      case badPosition => exact tray.mpr fun i hi => ⟨(hshots i hi).1, (hshots i hi).2.1⟩
      case badBracket => exact bracket.mpr fun i hi => ⟨(hshots i hi).2.2.1, (hshots i hi).2.2.2.1⟩
      case badCopies => exact copies.mpr fun i hi => (hshots i hi).2.2.2.2
      all_goals dsimp only [Fails]; omega
  · rw [checkOrder_refused hk, checkCopy_eq_some hk]
  · simp [checkOrder, orderKind, h1, h2, h3]
  · simp only [checkOrder, orderKind, h, badTray_iff]; simp
  · simp only [checkOrder, orderKind, h]; simp

end Sys2Proof.Proofs
end

section
/-! SUPPORT. What the Order Engine's operations change: the bytes each of them writes, the parts of the state that it may change, and
what a read finds after it (R29, R35, R36, R42, R175 to R177). -/

namespace Sys2Proof.Proofs

open Sys2Proof Sys2Proof.Machine Sys2Proof.Safety Sys2Proof.Laws Sys2Proof.Claims

variable {s t u : State} {n m : Slot} {V W : Nat → Prop}

/-! ### The bytes written -/

/-- Only bytes of the set of addresses may differ. -/
abbrev Writes (W : Nat → Prop) (s t : State) : Prop := Keeps (fun a => ¬ W a) s t

theorem Writes.mono (h : Writes W s t) (hw : ∀ a, W a → V a) : Writes V s t := fun a ha => h a fun w => ha (hw a w)

theorem Writes.andThen (h : Writes W s t) (k : Writes W t u) : Writes W s u := Keeps.trans h k

/-- The bytes of the roll wanted fields (R36). -/
theorem writes_refreshWanted (s : State) : Writes (within 0x5D10 2) s (refreshWanted s) :=
  (Keeps.refl s).refreshWanted (apart_others fun b _ _ => by have : Config.report = 0x5D00 := rfl; omega)
    (apart_others fun b _ _ => by have : Config.report = 0x5D00 := rfl; omega)

theorem writes_setSub (n : Slot) (sub : SubState) (s : State) : Writes (fun a => a = outcome n + 1) s (setSub n sub s) :=
  ((Keeps.refl s).same (u := updateOrder n _ s) rfl).setByte (apart_others fun b _ _ => by omega)

/-- The bytes that the end of an order writes: the hand, the order state and sub-state, and the roll wanted fields. -/
abbrev FinishBytes (n : Slot) (a : Nat) : Prop :=
  within (slotBase n) 2 a ∨ within (outcome n) 2 a ∨ within 0x5D10 2 a

theorem writes_finishOrder (n : Slot) (o : OrderState) (s : State) : Writes (FinishBytes n) s (finishOrder n o s) := by
  have hr : Config.report = 0x5D00 := rfl
  exact (Keeps.refl s).finishOrder (apart_others fun b _ _ => by omega) (apart_others fun b _ _ => by omega)
    (apart_others fun b _ _ => by omega) (apart_others fun b _ _ => by omega) (apart_others fun b _ _ => by omega)

/-- The bytes that a release from an order with account i writes: the order's remaining commitment and the account's committed. -/
abbrev ReleaseBytes (n : Slot) (i a : Nat) : Prop := within (outcome n + 0x18) 4 a ∨ within (accountBase i + 0x14) 4 a

theorem writes_release (n : Slot) (x : Nat) (s : State) : Writes (ReleaseBytes n (accountIndex s n)) s (release n x s) :=
  (Keeps.refl s).release (apart_others fun b _ _ => by omega) (apart_others fun b _ _ => by omega)

/-- The bytes that a charge writes: those of a release, the order's charged, and the account's saturated mark and spent. -/
abbrev ChargeBytes (n : Slot) (i a : Nat) : Prop :=
  within (outcome n + 0x14) 4 a ∨ ReleaseBytes n i a ∨ within (accountBase i + 6) 2 a ∨ within (accountBase i + 0x10) 4 a

theorem accountIndex_setCharged {x : Nat} : accountIndex (setCharged n x s) m = accountIndex s m := by
  have hn := n.isLt
  have hm := m.isLt
  exact byteAt_setLong_apart (by rw [outcome_eq, slotBase_eq]; omega)

theorem writes_charge (n : Slot) (x : Nat) (s : State) : Writes (ChargeBytes n (accountIndex s n)) s (charge n x s) := by
  have charged : Writes (ChargeBytes n (accountIndex s n)) s (setCharged n (charged s n + x) s) :=
    (Keeps.refl s).setLong (apart_others fun b _ _ => by omega)
  have lowered := (writes_release n x (setCharged n (Machine.charged s n + x) s)).mono (V := ChargeBytes n (accountIndex s n))
    fun a ha => by rw [accountIndex_setCharged] at ha; exact .inr (.inl ha)
  unfold charge
  dsimp only
  rw [accountIndex_lowerCommitment, accountIndex_setCharged]
  exact (charged.andThen lowered).raiseSpent (apart_others fun b _ _ => by omega) (apart_others fun b _ _ => by omega)

theorem writes_settleSurcharge (e : OrderEntry) (s : State) :
    Writes (ChargeBytes e.slot (accountIndex s e.slot)) s (settleSurcharge e s) :=
  Keeps.ite (fun _ => Keeps.ite (fun _ => writes_charge e.slot _ s) fun _ =>
    (writes_release e.slot _ s).mono fun _ ha => .inr (.inl ha)) fun _ => .refl s

theorem accountIndex_of_writes (h : Writes W s t) (hw : ¬ W (slotBase n + 6)) : accountIndex t n = accountIndex s n :=
  h.byteAt hw

/-- The bytes that the completion of a COPY order with account i writes. -/
abbrev CompleteBytes (n : Slot) (i a : Nat) : Prop := FinishBytes n a ∨ ChargeBytes n i a

theorem accountIndex_settleSurcharge (e : OrderEntry) (s : State) :
    accountIndex (settleSurcharge e s) e.slot = accountIndex s e.slot := by
  have hn := e.slot.isLt
  have hs := slotBase_eq e.slot
  have ho := outcome_eq e.slot
  have ha := accountBase_eq (accountIndex s e.slot)
  exact accountIndex_of_writes (writes_settleSurcharge e s) (by omega)

theorem completeCopy_some {e : OrderEntry} (h : findOrder s n = some e) :
    completeCopy n s = finishOrder n
      (completedState e (release n (remaining (settleSurcharge e s) n) (settleSurcharge e s)))
      (release n (remaining (settleSurcharge e s) n) (settleSurcharge e s)) := by
  unfold completeCopy
  rw [h]

theorem writes_completeCopy (n : Slot) (s : State) : Writes (CompleteBytes n (accountIndex s n)) s (completeCopy n s) := by
  cases h : findOrder s n with
  | none =>
    unfold completeCopy
    rw [h]
    exact .refl s
  | some e =>
    obtain ⟨-, rfl⟩ := findOrder_some h
    rw [completeCopy_some h]
    have paid := (writes_settleSurcharge e s).mono (V := CompleteBytes e.slot (accountIndex s e.slot)) fun _ ha => .inr ha
    have freed := (writes_release e.slot (remaining (settleSurcharge e s) e.slot) (settleSurcharge e s)).mono
      (V := CompleteBytes e.slot (accountIndex s e.slot)) fun a ha => by
        rw [accountIndex_settleSurcharge] at ha; exact .inr (.inr (.inl ha))
    exact (paid.andThen freed).andThen ((writes_finishOrder _ _ _).mono fun _ ha => .inl ha)

/-! ### The parts of the state that may change -/

/-- Only common memory, the orders, the flags and the labels may differ. -/
def InOrders (s t : State) : Prop :=
  t = { s with mem := t.mem, orders := t.orders, control := t.control, labels := t.labels }

namespace InOrders

theorem refl (s : State) : InOrders s s := rfl

theorem trans (h : InOrders s t) (k : InOrders t u) : InOrders s u := by
  unfold InOrders at *
  rw [k, h]

theorem memory (h : t = { s with mem := t.mem }) : InOrders s t := by
  unfold InOrders
  rw [h]

theorem ite {c : Prop} [Decidable c] (h : c → InOrders s t) (k : ¬ c → InOrders s u) : InOrders s (if c then t else u) := by
  split
  · exact h ‹_›
  · exact k ‹_›

/-- With the labels as before. -/
theorem orders (h : InOrders s t) (hl : t.labels = s.labels) :
    t = { s with mem := t.mem, orders := t.orders, control := t.control } := by
  unfold InOrders at h
  rw [hl] at h
  exact h

/-- With the labels and the flags as before. -/
theorem ordersAlone (h : InOrders s t) (hl : t.labels = s.labels) (hc : t.control = s.control) :
    t = { s with mem := t.mem, orders := t.orders } := by
  have := h.orders hl
  rw [hc] at this
  exact this

end InOrders

theorem inOrders_raise (f : Flag) (s : State) : InOrders s (raise f s) := rfl

theorem inOrders_updateOrder (f : OrderEntry → OrderEntry) : InOrders s (updateOrder n f s) := rfl

theorem inOrders_setSub (sub : SubState) : InOrders s (setSub n sub s) :=
  (inOrders_updateOrder _).trans (.memory (setByte_only_mem _ _ _))

theorem inOrders_refreshWanted (s : State) : InOrders s (refreshWanted s) := .memory (refreshWanted_only_mem s)

theorem inOrders_release (x : Nat) : InOrders s (release n x s) := .memory (release_only_mem n x s)

theorem inOrders_settleSurcharge (e : OrderEntry) (s : State) : InOrders s (settleSurcharge e s) :=
  .memory (settleSurcharge_only_mem e s)

theorem inOrders_finishOrder (o : OrderState) : InOrders s (finishOrder n o s) := by
  unfold InOrders
  rw [finishOrder_only]

theorem finishOrder_labels (n : Slot) (o : OrderState) (s : State) : (finishOrder n o s).labels = s.labels := by
  rw [finishOrder_only]

theorem finishOrder_control (n : Slot) (o : OrderState) (s : State) :
    (finishOrder n o s).control = (raise .orderDone s).control := by
  rw [finishOrder_only]

theorem refreshWanted_orders (s : State) : (refreshWanted s).orders = s.orders := by rw [refreshWanted_only_mem]

theorem refreshWanted_labels (s : State) : (refreshWanted s).labels = s.labels := by rw [refreshWanted_only_mem]

theorem refreshWanted_control (s : State) : (refreshWanted s).control = s.control := by rw [refreshWanted_only_mem]

/-- What a completion leaves of the state beside common memory. -/
theorem completeCopy_only {e : OrderEntry} (h : findOrder s n = some e) : completeCopy n s = { s with
    mem := (completeCopy n s).mem
    orders := { s.orders with
      recorded := s.orders.recorded.set n.val .done n.isLt
      runList := s.orders.runList.filter fun e => decide (e.slot ≠ n) }
    control := (raise .orderDone s).control } := by
  have paid : OnlyMem s (release n (remaining (settleSurcharge e s) n) (settleSurcharge e s)) :=
    ⟨_, only_mem_trans (settleSurcharge_only_mem e s) (release_only_mem n _ _)⟩
  rw [completeCopy_some h]
  generalize release n (remaining (settleSurcharge e s) n) (settleSurcharge e s) = v at paid
  rw [finishOrder_only]
  generalize (finishOrder n (completedState e v) v).mem = k
  obtain ⟨k', rfl⟩ := paid
  rfl

theorem inOrders_completeCopy (n : Slot) (s : State) : InOrders s (completeCopy n s) := by
  cases h : findOrder s n with
  | none =>
    unfold completeCopy
    rw [h]
    exact .refl s
  | some e =>
    unfold InOrders
    rw [completeCopy_only h]

theorem inOrders_afterShot (n : Slot) (s : State) : InOrders s (afterShot n s) := by
  unfold afterShot
  split
  · exact .refl s
  · split
    · exact (inOrders_setSub _).trans (inOrders_refreshWanted _)
    · split
      · exact (inOrders_setSub _).trans (inOrders_refreshWanted _)
      · exact inOrders_completeCopy n s

/-! ### What the end of an order leaves to be read -/

/-- What the end of an order with a state code writes in its slot. -/
structure FinishReads (n : Slot) (code : Nat) (t : State) : Prop where
  recorded : recordedHand t n = .done
  found : handFound t n = 3
  state : byteAt t (outcome n) = code
  sub : byteAt t (outcome n + 1) = 0

theorem OrderState.code_lt (o : OrderState) : o.code < 256 := by cases o <;> decide

theorem finishReads (o : OrderState) (hm : MemoryOk s) : FinishReads n o.code (finishOrder n o s) := by
  have hn := n.isLt
  have hs := slotBase_eq n
  have ho := outcome_eq n
  have hr : Config.report = 0x5D00 := rfl
  have hsize : Config.memorySize = 0x8000 := rfl
  have opened : MemoryOk (setByte (outcome n) o.code s) := memoryOk_setByte hm
  refine ⟨recordedHand_of (s := s) (by rw [finishOrder_orders]), ?_, ?_, ?_⟩
  · refine (Keeps.word (a := slotBase n) ((Keeps.refl (writeHand n .done _)).setRunList.raise.refreshWanted
      (apart_within (by omega)) (apart_within (by omega)))).trans ?_
    exact handFound_writeHand (memoryOk_setByte opened)
  · refine ((((Keeps.refl _).setByte (apart_byte (k := outcome n) (by omega))).writeHand (apart_byte
      (by omega))).setRunList.raise.refreshWanted (apart_byte (by omega)) (apart_byte (by omega)) |>.byteAt rfl).trans ?_
    exact (byteAt_setByte_same (a := outcome n) hm (by omega)).trans (Nat.mod_eq_of_lt (OrderState.code_lt o))
  · refine (((Keeps.refl _).writeHand (apart_byte (k := outcome n + 1)
      (by omega))).setRunList.raise.refreshWanted (apart_byte (by omega)) (apart_byte (by omega)) |>.byteAt rfl).trans ?_
    exact byteAt_setByte_same (a := outcome n + 1) opened (by omega)

theorem raisesOnly_finishOrder (n : Slot) (o : OrderState) (s : State) : RaisesOnly .orderDone s (finishOrder n o s) :=
  raisesOnly_of_control (finishOrder_control n o s)

/-! ### Sub-states -/

theorem SubState.code_lt (x : SubState) : x.code < 256 := by cases x <;> decide

theorem memoryOk_setSub {sub : SubState} (h : MemoryOk s) : MemoryOk (setSub n sub s) :=
  memoryOk_setByte (s := updateOrder n _ s) h

/-- The sub-state just entered, as the slot names it. -/
theorem byteAt_setSub {sub : SubState} (h : MemoryOk s) : byteAt (setSub n sub s) (outcome n + 1) = sub.code := by
  have hn := n.isLt
  exact (byteAt_setByte_same (s := updateOrder n _ s) h (by rw [outcome_eq]; unfold Config.memorySize; omega)).trans
    (Nat.mod_eq_of_lt (SubState.code_lt sub))

theorem setSub_control (n : Slot) (sub : SubState) (s : State) : (setSub n sub s).control = s.control := setByte_control ..

theorem setSub_labels (n : Slot) (sub : SubState) (s : State) : (setSub n sub s).labels = s.labels := setByte_labels ..

theorem setSub_runList (n : Slot) (sub : SubState) (s : State) :
    (setSub n sub s).orders.runList = s.orders.runList.map fun e => if e.slot = n then { e with sub := sub } else e := by
  unfold setSub
  rw [setByte_orders]
  rfl

/-- A sub-state that nothing but the roll wanted fields follows. -/
theorem byteAt_sub_refreshed {sub : SubState} (h : MemoryOk s) :
    byteAt (refreshWanted (setSub n sub s)) (outcome n + 1) = sub.code := by
  have hn := n.isLt
  have ho := outcome_eq n
  exact ((writes_refreshWanted (setSub n sub s)).byteAt (by omega)).trans (byteAt_setSub h)

/-! ### An order of a run list -/

theorem findOrder_single {e : OrderEntry} (h : s.orders.runList = [e]) : findOrder s e.slot = some e := by
  unfold findOrder
  rw [h]
  simp

theorem findOrder_of_orders (h : t.orders.runList = s.orders.runList) : findOrder t n = findOrder s n := by
  unfold findOrder
  rw [h]

/-- A change of the order of one slot, in a run list with one order for each slot. -/
theorem map_of_nodup {e : OrderEntry} {pre post : List OrderEntry} (f : OrderEntry → OrderEntry)
    (h : ((pre ++ e :: post).map OrderEntry.slot).Nodup) :
    (pre ++ e :: post).map (fun x => if x.slot = e.slot then f x else x) = pre ++ f e :: post := by
  rw [List.map_append, List.map_cons, List.nodup_append] at h
  obtain ⟨-, hpost, apart⟩ := h
  have before : ∀ x ∈ pre, x.slot ≠ e.slot := fun x hx =>
    apart _ (List.mem_map_of_mem hx) _ (.head _)
  have behind : ∀ x ∈ post, x.slot ≠ e.slot := fun x hx c =>
    (List.nodup_cons.mp hpost).1 (c ▸ List.mem_map_of_mem hx)
  rw [List.map_append, List.map_cons, if_pos rfl, List.map_congr_left fun x hx => if_neg (before x hx),
    List.map_congr_left fun x hx => if_neg (behind x hx)]
  simp

/-! ### The next shot (R29) -/

theorem nextShot_eq_some {i : Nat} : nextShot s n = some i ↔
    (i < 24 ∧ i < shotCount s n ∧ shotCode s n i = 0) ∧ ∀ j, j < i → shotCode s n j ≠ 0 := by
  unfold nextShot
  rw [List.find?_range_eq_some]
  simp only [decide_eq_true_eq, List.mem_range, Nat.lt_min, Bool.not_eq_true', decide_eq_false_iff_not]
  constructor
  · rintro ⟨hc, ⟨h24, hk⟩, before⟩
    exact ⟨⟨h24, hk, hc⟩, before⟩
  · rintro ⟨⟨h24, hk, hc⟩, before⟩
    exact ⟨hc, ⟨h24, hk⟩, before⟩

theorem nextShot_eq_none : nextShot s n = none ↔ ∀ j, j < 24 → j < shotCount s n → shotCode s n j ≠ 0 := by
  unfold nextShot
  simp only [List.find?_eq_none, List.mem_range, Nat.lt_min, decide_eq_true_eq, and_imp]
  exact Iff.rfl

theorem nextShot_isSome : (nextShot s n).isSome = true ↔ ∃ j, j < 24 ∧ j < shotCount s n ∧ shotCode s n j = 0 := by
  rw [Option.isSome_iff_ne_none, ne_eq, nextShot_eq_none]
  simp only [not_forall, not_not, exists_prop]

end Sys2Proof.Proofs
end

section
/-! SUPPORT. The amounts of an order and of its account after a charge, after a release and after a completion (R42, R175 to R180). -/

namespace Sys2Proof.Proofs

open Sys2Proof Sys2Proof.Machine Sys2Proof.Safety Sys2Proof.Laws Sys2Proof.Claims

variable {s t u : State} {n m : Slot} {i x y : Nat}

/-! ### Fields of an account and of an order -/

theorem longAt_of_keeps {a : Nat} (h : Keeps (within a 4) s t) : longAt t a = longAt s a := h.long

theorem charged_lt (s : State) (n : Slot) : charged s n < 16777216 := longAt_lt _ _

theorem spent_lt (s : State) (i : Nat) : spent s i < 16777216 := longAt_lt _ _

/-- What an account's spent does when an amount is charged, told so that two charges are one (R176). -/
structure SpentGoes (i x : Nat) (s t : State) : Prop where
  amount : spent t i = min 16777215 (spent s i + x)
  full : 16777215 < spent s i + x → saturatedMark t i = 1
  marked : saturatedMark s i = 1 → saturatedMark t i = 1
  below : spent s i + x < 16777215 → saturatedMark t i = saturatedMark s i

theorem SpentGoes.rises (h : SpentGoes i x s t) : SpentRises s t i x := ⟨h.amount, h.full, h.below⟩

theorem SpentGoes.trans (h : SpentGoes i x s t) (k : SpentGoes i y t u) : SpentGoes i (x + y) s u := by
  have ha := h.amount
  have ka := k.amount
  refine ⟨by omega, fun hf => ?_, fun hm => k.marked (h.marked hm), fun hb => ?_⟩
  · by_cases hx : 16777215 < spent s i + x
    · exact k.marked (h.full hx)
    · exact k.full (by omega)
  · rw [k.below (by omega), h.below (by omega)]

/-- The bytes of an account's saturated mark and spent. -/
abbrev SpentBytes (i a : Nat) : Prop := within (accountBase i + 6) 2 a ∨ within (accountBase i + 0x10) 4 a

theorem SpentGoes.kept (h : Keeps (SpentBytes i) s t) : SpentGoes i 0 s t := by
  have hs : spent t i = spent s i := h.longAt (by omega) (by omega) (by omega)
  have hk : saturatedMark t i = saturatedMark s i := h.wordAt (by omega) (by omega)
  have := spent_lt s i
  exact ⟨by omega, fun hf => by omega, fun hm => hk.trans hm, fun _ => hk⟩

theorem spentGoes_raiseSpent (hm : MemoryOk s) (hi : i < 256) (x : Nat) : SpentGoes i x s (raiseSpent i x s) := by
  have hb := accountBase_eq i
  have hsize : Config.memorySize = 0x8000 := rfl
  have hmax : Config.max24 = 16777215 := rfl
  have := spent_lt s i
  have read (v : Nat) (hv : v < 16777216) : spent (setSpent i v s) i = v :=
    longAt_setLong_same (a := accountBase i + 0x10) hm (by omega) hv
  unfold raiseSpent
  split
  · next full =>
    have mark : saturatedMark (setSaturated i 1 (setSpent i Config.max24 s)) i = 1 :=
      wordAt_setWord_same (a := accountBase i + 6) (memoryOk_setLong hm) (by omega)
    have kept : spent (setSaturated i 1 (setSpent i Config.max24 s)) i = spent (setSpent i Config.max24 s) i :=
      Keeps.long (a := accountBase i + 0x10) ((Keeps.refl _).setWord (apart_within (by omega)))
    exact ⟨by rw [kept, read _ (by omega)]; omega, fun _ => mark, fun _ => mark, fun hb => by omega⟩
  · next room =>
    have kept : saturatedMark (setSpent i (spent s i + x) s) i = saturatedMark s i :=
      Keeps.word (a := accountBase i + 6) ((Keeps.refl s).setLong (apart_within (by omega)))
    exact ⟨by rw [read _ (by omega)]; omega, fun hf => by omega, fun h => kept.trans h, fun _ => kept⟩

/-! ### Charges and releases (R175, R177) -/

/-- The bytes of an order's account index and amounts, and of its account's. -/
abbrev PurseBytes (n : Slot) (i a : Nat) : Prop := a = slotBase n + 6 ∨ ChargeBytes n i a

/-- The order is charged x, and its account with it; whatever else leaves the order's remaining commitment leaves its account's committed
too (R175, R178). -/
structure Pays (n : Slot) (x : Nat) (s t : State) : Prop where
  account : accountIndex t n = accountIndex s n
  charged : charged s n + x ≤ 16777215 → charged t n = charged s n + x
  left : remaining t n ≤ remaining s n
  owed : committed t (accountIndex s n) = committed s (accountIndex s n) - (remaining s n - remaining t n)
  spent : SpentGoes (accountIndex s n) x s t

theorem Pays.trans (h : Pays n x s t) (k : Pays n y t u) : Pays n (x + y) s u := by
  have hl := h.left
  have kl := k.left
  have owed := k.owed
  have spent := k.spent
  have charged := k.charged
  rw [h.account] at owed spent
  refine ⟨k.account.trans h.account, fun room => ?_, by omega, ?_, h.spent.trans spent⟩
  · have first := h.charged (by omega)
    rw [first] at charged
    rw [charged (by omega)]
    omega
  · rw [owed, h.owed]
    omega

theorem Pays.kept (h : Keeps (PurseBytes n (accountIndex s n)) s t) : Pays n 0 s t := by
  have left : remaining t n = remaining s n := h.longAt (by omega) (by omega) (by omega)
  have owed : committed t (accountIndex s n) = committed s (accountIndex s n) := h.longAt (by omega) (by omega) (by omega)
  exact ⟨h.byteAt (.inl rfl), fun _ => h.longAt (by omega) (by omega) (by omega), by omega, by omega,
    .kept fun a ha => h a (by omega)⟩

theorem Pays.andKept (h : Pays n x s t) (k : Keeps (PurseBytes n (accountIndex s n)) t u) : Pays n x s u :=
  h.trans (Pays.kept (h.account ▸ k))

/-- A release takes what is left of its amount (R178). -/
theorem remaining_release (hm : MemoryOk s) (n : Slot) (x : Nat) : remaining (release n x s) n = remaining s n - x := by
  unfold release
  rw [remaining_lowerCommitment hm, if_pos rfl]
  omega

theorem pays_release (hm : MemoryOk s) (n : Slot) (x : Nat) : Pays n 0 s (release n x s) := by
  have hn := n.isLt
  have ho := outcome_eq n
  have hb := accountBase_eq (accountIndex s n)
  have bytes := writes_release n x s
  have left := remaining_release hm n x
  have owed : committed (release n x s) (accountIndex s n)
      = committed s (accountIndex s n) - min x (remaining s n) := by
    unfold release
    rw [committed_lowerCommitment hm, if_pos rfl]
  exact ⟨accountIndex_lowerCommitment x, fun _ => bytes.longAt (by omega) (by omega) (by omega), by omega, by omega,
    .kept fun a ha => bytes a (by omega)⟩

theorem writes_setCharged (n : Slot) (x : Nat) (s : State) : Writes (within (outcome n + 0x14) 4) s (setCharged n x s) :=
  (Keeps.refl s).setLong (apart_others fun b _ _ => by omega)

/-- A charge is its entry in the order's charged, a release, and a rise of the account's spent (R175). -/
theorem charge_eq (n : Slot) (x : Nat) (s : State) :
    charge n x s = raiseSpent (accountIndex s n) x (release n x (setCharged n (charged s n + x) s)) := by
  unfold charge
  dsimp only
  rw [accountIndex_lowerCommitment, accountIndex_setCharged]
  rfl

theorem writes_raiseSpent (i x : Nat) (s : State) : Writes (SpentBytes i) s (raiseSpent i x s) :=
  (Keeps.refl _).raiseSpent (apart_others fun b _ _ => by omega) (apart_others fun b _ _ => by omega)

theorem remaining_charge (hm : MemoryOk s) (n : Slot) (x : Nat) : remaining (charge n x s) n = remaining s n - x := by
  have hn := n.isLt
  have ho := outcome_eq n
  have hb := accountBase_eq (accountIndex s n)
  have rising := writes_raiseSpent (accountIndex s n) x (release n x (setCharged n (charged s n + x) s))
  have entered := writes_setCharged n (charged s n + x) s
  have kept : remaining (setCharged n (charged s n + x) s) n = remaining s n :=
    entered.longAt (by omega) (by omega) (by omega)
  rw [charge_eq]
  refine (rising.longAt (by omega) (by omega) (by omega) : remaining _ n = _).trans ?_
  rw [← kept]
  exact remaining_release (memoryOk_setLong hm) n x

theorem pays_charge (hm : MemoryOk s) (n : Slot) (x : Nat) : Pays n x s (charge n x s) := by
  have hn := n.isLt
  have ho := outcome_eq n
  have hs := slotBase_eq n
  have hi := accountIndex_lt s n
  have hb := accountBase_eq (accountIndex s n)
  have hsize : Config.memorySize = 0x8000 := rfl
  have m1 : MemoryOk (setCharged n (charged s n + x) s) := memoryOk_setLong hm
  have entered := writes_setCharged n (charged s n + x) s
  have left : remaining (setCharged n (charged s n + x) s) n = remaining s n := entered.longAt (by omega) (by omega) (by omega)
  have owed : committed (setCharged n (charged s n + x) s) (accountIndex s n) = committed s (accountIndex s n) :=
    entered.longAt (by omega) (by omega) (by omega)
  have freed := pays_release m1 n x
  have lowered := writes_release n x (setCharged n (charged s n + x) s)
  have rising := writes_raiseSpent (accountIndex s n) x (release n x (setCharged n (charged s n + x) s))
  have spends := spentGoes_raiseSpent (memoryOk_release (n := n) (x := x) m1) hi x
  have index : accountIndex (setCharged n (charged s n + x) s) n = accountIndex s n := accountIndex_setCharged
  have freedOwed := freed.owed
  have freedSpent := freed.spent
  have freedLeft := freed.left
  rw [index] at lowered freedOwed freedSpent
  have atEnd : remaining (charge n x s) n = remaining (release n x (setCharged n (charged s n + x) s)) n := by
    rw [charge_eq]
    exact rising.longAt (by omega) (by omega) (by omega)
  have before : SpentGoes (accountIndex s n) 0 s (setCharged n (charged s n + x) s) :=
    .kept fun a ha => entered a (by omega)
  rw [← charge_eq] at rising spends
  refine ⟨?_, fun room => ?_, by omega, ?_, ?_⟩
  · exact ((rising.byteAt (by omega)).trans (lowered.byteAt (by omega))).trans (entered.byteAt (by omega))
  · have kept : charged (charge n x s) n = charged (setCharged n (charged s n + x) s) n :=
      (rising.longAt (by omega) (by omega) (by omega)).trans (lowered.longAt (by omega) (by omega) (by omega))
    exact kept.trans (longAt_setLong_same (a := outcome n + 0x14) hm (by omega) (by omega))
  · have kept : committed (charge n x s) (accountIndex s n)
        = committed (release n x (setCharged n (charged s n + x) s)) (accountIndex s n) :=
      rising.longAt (by omega) (by omega) (by omega)
    rw [kept, freedOwed, owed]
    omega
  · simpa only [Nat.zero_add] using (before.trans freedSpent).trans spends

/-! ### The completion of a COPY order (R42, R180) -/

/-- What a RUSH order with a frame EXPOSED pays at its completion (R180). -/
def surchargeDue (rush : Bool) (n : Slot) (s : State) : Nat :=
  if rush = true ∧ 1 ≤ framesExposed s n then rushSurcharge s else 0

theorem pays_settleSurcharge (hm : MemoryOk s) (e : OrderEntry) :
    Pays e.slot (surchargeDue e.rush e.slot s) s (settleSurcharge e s) := by
  unfold surchargeDue settleSurcharge
  by_cases hr : e.rush = true
  · by_cases hf : 1 ≤ framesExposed s e.slot
    · rw [if_pos ⟨hr, hf⟩, if_pos hr, if_pos hf]
      exact pays_charge hm e.slot _
    · rw [if_neg fun h => hf h.2, if_pos hr, if_neg hf]
      exact pays_release hm e.slot _
  · rw [if_neg fun h => hr h.1, if_neg hr]
    exact .kept (.refl s)

theorem memoryOk_settleSurcharge {e : OrderEntry} (hm : MemoryOk s) : MemoryOk (settleSurcharge e s) := by
  unfold settleSurcharge
  split
  · split
    · exact memoryOk_charge hm
    · exact memoryOk_release hm
  · exact hm

theorem memoryOk_completeCopy (hm : MemoryOk s) : MemoryOk (completeCopy n s) := by
  unfold completeCopy
  split
  · exact hm
  · exact memoryOk_finishOrder (memoryOk_release (memoryOk_settleSurcharge hm))

/-- A completed order has paid what was due, and nothing is left of its commitment. -/
structure Completes (n : Slot) (x : Nat) (s t : State) : Prop where
  pays : Pays n x s t
  none : remaining t n = 0

theorem completes_completeCopy {e : OrderEntry} (hm : MemoryOk s) (he : findOrder s n = some e) (ha : accountIndex s n ≤ 63) :
    Completes n (surchargeDue e.rush n s) s (completeCopy n s) := by
  obtain ⟨-, rfl⟩ := findOrder_some he
  have hn := e.slot.isLt
  have ho := outcome_eq e.slot
  have hs := slotBase_eq e.slot
  have hb := accountBase_eq (accountIndex s e.slot)
  have paid := pays_settleSurcharge hm e
  have freed := pays_release (memoryOk_settleSurcharge (e := e) hm) e.slot (remaining (settleSurcharge e s) e.slot)
  have none := remaining_release (memoryOk_settleSurcharge (e := e) hm) e.slot (remaining (settleSurcharge e s) e.slot)
  rw [completeCopy_some he]
  have kept := writes_finishOrder e.slot
    (completedState e (release e.slot (remaining (settleSurcharge e s) e.slot) (settleSurcharge e s)))
    (release e.slot (remaining (settleSurcharge e s) e.slot) (settleSurcharge e s))
  have total := (paid.trans freed).andKept fun a ha => kept a (by omega)
  refine ⟨total, ?_⟩
  rw [Nat.sub_self] at none
  exact (kept.longAt (by omega) (by omega) (by omega) : remaining _ e.slot = _).trans none

/-- The amounts of a step that charged x and then completed the order, as the statements say them. -/
theorem Completes.amounts {rush : Bool} (hp : Pays n x s u) (h : Completes n y u t) (hy : y = surchargeDue rush n s) :
    CompletionAmounts s t n rush x := by
  have total := hp.trans h.pays
  have owed := total.owed
  rw [h.none, Nat.sub_zero] at owed
  refine ⟨h.none, owed, fun z hz room => ?_⟩
  have same : z = y := hz.trans hy.symm
  subst same
  exact ⟨total.charged room, total.spent.rises⟩

end Sys2Proof.Proofs
end

section
/-! SUPPORT. The motions that a Back Unit begins: rewinding and winding on (R81, R82, R85, R88). -/

namespace Sys2Proof.Proofs

open Sys2Proof Sys2Proof.Machine Sys2Proof.Safety Sys2Proof.Laws Sys2Proof.Claims

variable {s t u : State} {n m : Slot} {bk : Back} {x y : BackUnit} {V W : Nat → Prop}

/-- The motor as an operation calls for its start (R81). -/
def calledMotor (d : Direction) (s : State) : Motor :=
  { direction := .stopped, start := d, speed := 0, target := targetSpeed s, creep := creepSpeed s, ramp := rampStep s
    ramping := false, perforations := 0, stallTimer := none, rewindTimer := none, leaderTimer := none }

theorem callMotor_eq (bk : Back) (d : Direction) (s : State) :
    callMotor bk d s = startMotor bk (setMotor bk (calledMotor d s) s) := rfl

/-- Only common memory and the back's unit may differ, and the unit is as given. -/
structure UnitBecomes (bk : Back) (x : BackUnit) (s t : State) : Prop where
  unit : t.back bk = x
  other : t.back (otherBack bk) = s.back (otherBack bk)
  rest : t = { s with mem := t.mem, backA := t.backA, backB := t.backB }

namespace UnitBecomes

theorem refl (bk : Back) (s : State) : UnitBecomes bk (s.back bk) s s := ⟨rfl, rfl, rfl⟩

theorem trans (h : UnitBecomes bk x s t) (k : UnitBecomes bk y t u) : UnitBecomes bk y s u := by
  refine ⟨k.unit, k.other.trans h.other, ?_⟩
  have rest := k.rest
  rw [h.rest] at rest
  exact rest

theorem setBack (h : UnitBecomes bk x s t) (y : BackUnit) : UnitBecomes bk y s (setBack bk y t) := by
  have rest := h.rest
  have other := h.other
  cases bk
  · exact ⟨rfl, other, congrArg (fun v : State => { v with backA := y }) rest⟩
  · exact ⟨rfl, other, congrArg (fun v : State => { v with backB := y }) rest⟩

theorem report {k v : Nat} (h : UnitBecomes bk x s t) : UnitBecomes bk x s (report k v t) := by
  obtain ⟨hu, ho, hr⟩ := h
  exact ⟨(back_report ..).trans hu, (back_report ..).trans ho,
    congrArg (fun w : State => { w with mem := (Machine.report k v t).mem }) hr⟩

theorem enterBack {st : BackState} (h : UnitBecomes bk x s t) :
    UnitBecomes bk { x with state := st, origin := if st = .rewinding then x.origin else .none } s (enterBack bk st t) := by
  unfold Machine.enterBack
  dsimp only
  rw [h.unit]
  exact (h.setBack _).report

theorem startMotor (h : UnitBecomes bk x s t) : ∃ m, UnitBecomes bk { x with motor := m } s (startMotor bk t) := by
  unfold Machine.startMotor setMotor
  split
  · rw [h.unit]
    exact ⟨_, h.setBack _⟩
  · exact ⟨x.motor, h⟩

theorem callMotor {d : Direction} (h : UnitBecomes bk x s t) :
    ∃ m, UnitBecomes bk { x with motor := m } s (callMotor bk d t) := by
  rw [callMotor_eq, setMotor, h.unit]
  exact (h.setBack { x with motor := calledMotor d t }).startMotor

theorem beginRewind {o : RewindOrigin} (h : UnitBecomes bk x s t) :
    ∃ m, UnitBecomes bk { x with state := .rewinding, origin := o, motor := m } s (beginRewind bk o t) := by
  unfold Machine.beginRewind
  rw [h.unit]
  exact ((h.setBack { x with origin := o }).enterBack (st := .rewinding)).callMotor

theorem control (h : UnitBecomes bk x s t) : t.control = s.control := by rw [h.rest]

theorem orders (h : UnitBecomes bk x s t) : t.orders = s.orders := by rw [h.rest]

end UnitBecomes

theorem callMotor_mem (bk : Back) (d : Direction) (s : State) : (callMotor bk d s).mem = s.mem := by
  unfold callMotor setMotor
  rw [startMotor_mem, setBack_mem]

/-- A rewind begins as its entry into REWINDING, as common memory has it. -/
theorem beginRewind_mem (bk : Back) (o : RewindOrigin) (s : State) :
    (beginRewind bk o s).mem = (enterBack bk .rewinding (setBack bk { s.back bk with origin := o } s)).mem :=
  callMotor_mem ..

theorem backOffset_bounds (bk : Back) : 4 ≤ backOffset bk ∧ backOffset bk ≤ 5 := by cases bk <;> decide

theorem writes_enterBack (bk : Back) (st : BackState) (s : State) :
    Writes (fun a => a = 0x5D00 + backOffset bk) s (enterBack bk st s) :=
  (Keeps.refl s).enterBack (apart_others fun b _ _ => by have : Config.report = 0x5D00 := rfl; omega)

theorem writes_beginRewind (bk : Back) (o : RewindOrigin) (s : State) :
    Writes (fun a => a = 0x5D00 + backOffset bk) s (beginRewind bk o s) :=
  Keeps.same (Keeps.trans ((Keeps.refl s).same (setBack_mem ..)) (writes_enterBack bk .rewinding _)) (beginRewind_mem bk o s)

theorem reportByte_beginRewind {o : RewindOrigin} (hm : MemoryOk s) : reportByte (beginRewind bk o s) (backOffset bk) = 9 :=
  reportByte_enterBack (s := setBack bk { s.back bk with origin := o } s) (by rw [MemoryOk, setBack_mem]; exact hm)
    ((Keeps.refl _).same (beginRewind_mem bk o s))

/-! ### A jam of a back with no LIVE sheet (R90) -/

theorem jamBack_control (bk : Back) (s : State) : (jamBack bk s).control = (raise .backFault s).control := by
  rw [jamBack_eq]
  refine raise_control_of ?_
  unfold enterBack setShutter stopMotor setMotor
  simp only [report_control, setBack_control]
  rw [jamDropped_only_mem]

theorem jamDropped_noSheet (h : (s.back bk).live = none) : jamDropped bk s = s := by
  unfold jamDropped liveSheet
  rw [h]
  rfl

theorem jamBack_mem_noSheet (h : (s.back bk).live = none) : ∃ v, v.mem = s.mem ∧ (jamBack bk s).mem = (enterBack bk .jammed v).mem := by
  refine ⟨_, ?_, by rw [jamBack_eq, raise_mem]⟩
  unfold setShutter stopMotor setMotor
  rw [setBack_mem, setBack_mem, jamDropped_noSheet h]

theorem writes_jamBack_noSheet (h : (s.back bk).live = none) :
    Writes (fun a => a = 0x5D00 + backOffset bk) s (jamBack bk s) := by
  obtain ⟨v, hv, hj⟩ := jamBack_mem_noSheet h
  exact Keeps.same (Keeps.trans ((Keeps.refl s).same hv) (writes_enterBack bk .jammed v)) hj

theorem reportByte_jamBack_noSheet (hm : MemoryOk s) (h : (s.back bk).live = none) :
    reportByte (jamBack bk s) (backOffset bk) = 11 := by
  obtain ⟨v, hv, hj⟩ := jamBack_mem_noSheet h
  exact reportByte_enterBack (s := v) (by rw [MemoryOk, hv]; exact hm) ((Keeps.refl _).same hj)

end Sys2Proof.Proofs
end

section
/-! SUPPORT. A shot choice: the fit rule read as the statements have it, and what a choice does with one order (R31 to R36). -/

namespace Sys2Proof.Proofs

open Sys2Proof Sys2Proof.Machine Sys2Proof.Safety Sys2Proof.Laws Sys2Proof.Claims

variable {s t u : State} {n m : Slot} {bk : Back} {e : OrderEntry} {f i : Nat}

/-! ### The fit rule (R33, R34) -/

theorem allowsBack_iff : allowsBack s n bk = true ↔ backChoice s n = 0 ∨ backChoice s n = backCode bk := by
  unfold allowsBack
  cases bk <;> simp [backCode]

theorem matchingSheet_eq_some {sh : Sheet} :
    matchingSheet s n bk = some sh ↔ ∃ w, sh = ⟨bk, w⟩ ∧ Matches s n bk w := by
  unfold matchingSheet liveSheet
  cases hl : (s.back bk).live with
  | none => simp [Matches, hl]
  | some w =>
    simp only [Option.map_some, allowsBack_iff, Matches, hl]
    split
    · next h => exact ⟨fun e => ⟨w, (Option.some.inj e).symm, h.1, rfl, h.2⟩, fun ⟨v, e, _, hv, _⟩ => by rw [e, Option.some.inj hv]⟩
    · next h => exact ⟨nofun, fun ⟨v, _, ha, hv, hp⟩ => absurd ⟨ha, Option.some.inj hv ▸ hp⟩ h⟩

theorem matchingSheet_isSome : (matchingSheet s n bk).isSome = true ↔ ∃ w, Matches s n bk w := by
  rw [Option.isSome_iff_exists]
  simp only [matchingSheet_eq_some]
  exact ⟨fun ⟨_, w, _, h⟩ => ⟨w, h⟩, fun ⟨w, h⟩ => ⟨_, w, rfl, h⟩⟩

theorem hasRoom_iff : hasRoom s n f bk = true ↔ ∃ w, HasRoomFor s n f bk w := by
  unfold hasRoom
  split
  · next sh h =>
    obtain ⟨w, rfl, hw⟩ := matchingSheet_eq_some.mp h
    rw [decide_eq_true_eq]
    refine ⟨fun hf => ⟨w, hw, hf⟩, fun ⟨v, hv, hf⟩ => ?_⟩
    obtain rfl : w = v := Option.some.inj (hw.2.1.symm.trans hv.2.1)
    exact hf
  · next h => exact ⟨nofun, fun ⟨w, hw, _⟩ => nomatch h.symm.trans (matchingSheet_eq_some.mpr ⟨w, rfl, hw⟩)⟩

theorem couldHold_iff : couldHold s n f bk = true ↔ ∃ w, Matches s n bk w ∧ f ≤ capacity s ⟨bk, w⟩ := by
  unfold couldHold
  split
  · next sh h =>
    obtain ⟨w, rfl, hw⟩ := matchingSheet_eq_some.mp h
    rw [decide_eq_true_eq]
    refine ⟨fun hf => ⟨w, hw, hf⟩, fun ⟨v, hv, hf⟩ => ?_⟩
    obtain rfl : w = v := Option.some.inj (hw.2.1.symm.trans hv.2.1)
    exact hf
  · next h => exact ⟨nofun, fun ⟨w, hw, _⟩ => nomatch h.symm.trans (matchingSheet_eq_some.mpr ⟨w, rfl, hw⟩)⟩

/-- The back satisfies case 1 of the fit rule. -/
theorem serves_iff : (hasRoom s n f bk && canServe s bk) = true ↔ ∃ w, BackServes s n f bk w := by
  rw [Bool.and_eq_true, hasRoom_iff]
  unfold canServe
  rw [Bool.or_eq_true, decide_eq_true_eq, decide_eq_true_eq]
  exact ⟨fun ⟨⟨w, h⟩, hs⟩ => ⟨w, h, hs⟩, fun ⟨w, h, hs⟩ => ⟨⟨w, h⟩, hs⟩⟩

theorem inLine_apart (h : inLine s .a = true) : inLine s .b = false := by
  unfold inLine at *
  rw [decide_eq_true_eq] at h
  rw [h]
  rfl

theorem chooseBack_eq {w : Which} (h : BackServes s n f bk w) (hc : ChosenBack s n f bk) : chooseBack s n f = some bk := by
  have serves : (hasRoom s n f bk && canServe s bk) = true := serves_iff.mpr ⟨w, h⟩
  have other (hn : ∀ w, ¬ BackServes s n f (otherBack bk) w) :
      (hasRoom s n f (otherBack bk) && canServe s (otherBack bk)) = false := by
    rw [← Bool.not_eq_true, serves_iff]
    exact fun ⟨w, hw⟩ => hn w hw
  unfold chooseBack
  dsimp only
  cases bk with
  | a =>
    rw [serves]
    cases ho : hasRoom s n f .b && canServe s .b with
    | false => rfl
    | true =>
      rcases hc with hn | hl | ⟨-, hl⟩
      · exact absurd ((other hn).symm.trans ho) (by decide)
      · simp [inLine_apart hl]
      · simp [hl]
  | b =>
    rw [serves]
    cases ho : hasRoom s n f .a && canServe s .a with
    | false => rfl
    | true =>
      rcases hc with hn | hl | ⟨hb, -⟩
      · exact absurd ((other hn).symm.trans ho) (by decide)
      · simp [hl]
      · cases hb

theorem fitRule_served {w : Which} (h : BackServes s n f bk w) (hc : ChosenBack s n f bk) : fitRule s n f = .served bk := by
  unfold fitRule
  rw [chooseBack_eq h hc]

theorem chooseBack_none (h : ∀ bk w, ¬ BackServes s n f bk w) : chooseBack s n f = none := by
  have none (bk : Back) : (hasRoom s n f bk && canServe s bk) = false := by
    rw [← Bool.not_eq_true, serves_iff]
    exact fun ⟨w, hw⟩ => h bk w hw
  unfold chooseBack
  dsimp only
  rw [none .a, none .b]

theorem fitRule_passedOver (h : PassedOver s n f) : fitRule s n f = .passedOver := by
  obtain ⟨⟨bk, w, room⟩, none⟩ := h
  have some : (hasRoom s n f .a || hasRoom s n f .b) = true := by
    rw [Bool.or_eq_true]
    cases bk
    · exact .inl (hasRoom_iff.mpr ⟨w, room⟩)
    · exact .inr (hasRoom_iff.mpr ⟨w, room⟩)
  unfold fitRule
  rw [chooseBack_none none]
  simp only [some, if_true]

theorem hasRoom_eq_false (h : ∀ w, ¬ HasRoomFor s n f bk w) : hasRoom s n f bk = false := by
  rw [← Bool.not_eq_true, hasRoom_iff]
  exact fun ⟨w, hw⟩ => h w hw

theorem chooseBack_noRoom (h : ∀ bk w, ¬ HasRoomFor s n f bk w) : chooseBack s n f = none :=
  chooseBack_none fun bk w hw => h bk w hw.1

theorem fitRule_exceeds (hf : 1 ≤ f) (h : Exceeds s n f) : fitRule s n f = .exceedsRoll := by
  obtain ⟨⟨bk, w, hw⟩, above⟩ := h
  have noRoom (bk : Back) (w : Which) : ¬ HasRoomFor s n f bk w := fun hr => by
    have := above bk w hr.1
    have := hr.2
    omega
  have noHold (bk : Back) : couldHold s n f bk = false := by
    rw [← Bool.not_eq_true, couldHold_iff]
    rintro ⟨w, hm, hc⟩
    have := above bk w hm
    omega
  have some : ((matchingSheet s n .a).isSome || (matchingSheet s n .b).isSome) = true := by
    rw [Bool.or_eq_true]
    cases bk
    · exact .inl (matchingSheet_isSome.mpr ⟨w, hw⟩)
    · exact .inr (matchingSheet_isSome.mpr ⟨w, hw⟩)
  unfold fitRule
  rw [chooseBack_noRoom noRoom, hasRoom_eq_false (noRoom .a), hasRoom_eq_false (noRoom .b), noHold .a, noHold .b, some]
  rfl

/-- With room on no matching roll, and each of them large enough, the shot waits (R33 case 4). -/
theorem fitRule_waits (hr : ∀ bk w, ¬ HasRoomFor s n f bk w) (hc : ∀ bk w, Matches s n bk w → f ≤ capacity s ⟨bk, w⟩) :
    fitRule s n f = .waits := by
  have fits : (((matchingSheet s n .a).isSome || (matchingSheet s n .b).isSome)
      && !(couldHold s n f .a || couldHold s n f .b)) = false := by
    rw [Bool.and_eq_false_iff, or_iff_not_imp_left, Bool.not_eq_false, Bool.or_eq_true]
    intro some
    rw [Bool.not_eq_false', Bool.or_eq_true]
    rcases some with h | h
    · obtain ⟨w, hw⟩ := matchingSheet_isSome.mp h
      exact .inl (couldHold_iff.mpr ⟨w, hw, hc _ w hw⟩)
    · obtain ⟨w, hw⟩ := matchingSheet_isSome.mp h
      exact .inr (couldHold_iff.mpr ⟨w, hw, hc _ w hw⟩)
  unfold fitRule
  rw [chooseBack_noRoom hr, hasRoom_eq_false (hr .a), hasRoom_eq_false (hr .b), fits]
  rfl

/-! ### A choice over a run list -/

theorem exec_shotChoice (h : mayChoose s = true) : exec .shotChoice s = .next (shotChoice s) := by
  show Host.Outcome.next (if mayChoose s then shotChoice s else s) = _
  rw [if_pos h]

theorem gateIdle_of_mayChoose (h : mayChoose s = true) : gateIdle s = true := (Bool.and_eq_true _ _ ▸ h).2

theorem foldl_fixed {α : Type} {g : State → α → State} {xs : List α} (h : ∀ x ∈ xs, g s x = s) : xs.foldl g s = s := by
  induction xs with
  | nil => rfl
  | cons x xs ih =>
    rw [List.foldl_cons, h x (.head _)]
    exact ih fun y hy => h y (.tail _ hy)

theorem considerTask_copy (h : e.kind = .copy) : considerTask e s = s := by
  unfold considerTask
  rw [h]
  split <;> rfl

theorem considerTask_started (h : e.started = true) : considerTask e s = s := by
  unfold considerTask
  rw [h]
  exact if_neg fun c => absurd c.2.1 (by decide)

theorem considerTask_withdrawn (h : recordedHand s e.slot = .withdraw) : considerTask e s = s :=
  if_neg fun c => c.2.2 h

theorem considerTask_rewind (hg : gateIdle s = true) (hs : e.started = false) (hw : recordedHand s e.slot ≠ .withdraw)
    (hk : e.kind = .rewind) : considerTask e s = considerRewind e.slot s := by
  unfold considerTask
  rw [if_pos ⟨hg, hs, hw⟩, hk]

theorem considerTask_calibrate (hg : gateIdle s = true) (hs : e.started = false) (hw : recordedHand s e.slot ≠ .withdraw)
    (hk : e.kind = .calibrate) : considerTask e s = startCalibrate e.slot s := by
  unfold considerTask
  rw [if_pos ⟨hg, hs, hw⟩, hk]

theorem considerCopy_task (h : e.kind ≠ .copy) : considerCopy e s = s := if_neg fun c => h c.2.1

theorem considerCopy_busy (h : gateIdle s = false) : considerCopy e s = s :=
  if_neg fun c => absurd (h.symm.trans c.1) (by decide)

theorem considerTask_busy (h : gateIdle s = false) : considerTask e s = s :=
  if_neg fun c => absurd (h.symm.trans c.1) (by decide)

theorem considerCopy_waiting (hg : gateIdle s = true) (hk : e.kind = .copy) (hs : e.sub = .waitingRun)
    (hw : recordedHand s e.slot ≠ .withdraw) : considerCopy e s = considerShots e.slot 24 s := if_pos ⟨hg, hk, hs, hw⟩

/-- A choice over one COPY order that waits to run applies the fit rule to its shots. -/
theorem shotChoice_copy (h : ChoiceOverOne s e) (hk : e.kind = .copy) (hs : e.sub = .waitingRun) :
    shotChoice s = considerShots e.slot 24 s := by
  obtain ⟨hc, -, hl, hw⟩ := h
  unfold shotChoice
  dsimp only
  rw [hl, List.foldl_cons, List.foldl_nil, considerTask_copy hk, hl, List.foldl_cons, List.foldl_nil,
    considerCopy_waiting (gateIdle_of_mayChoose hc) hk hs hw]

/-- A choice over one REWIND order acts on its back alone. -/
theorem shotChoice_rewind (h : ChoiceOverOne s e) (hk : e.kind = .rewind) (hs : e.started = false)
    (ht : ∀ x ∈ (considerRewind e.slot s).orders.runList, x.kind ≠ .copy) : shotChoice s = considerRewind e.slot s := by
  obtain ⟨hc, -, hl, hw⟩ := h
  unfold shotChoice
  dsimp only
  rw [hl, List.foldl_cons, List.foldl_nil, considerTask_rewind (gateIdle_of_mayChoose hc) hs hw hk]
  exact foldl_fixed fun x hx => considerCopy_task (ht x hx)

/-- The first PENDING shot waits for a roll. -/
theorem considerShots_waits {fuel : Nat} (hn : nextShot s n = some i) (hf : fitRule s n (plannedFrames s n i) = .waits) :
    considerShots n (fuel + 1) s = waitForRoll n s := by
  unfold considerShots
  rw [hn]
  dsimp only
  rw [hf]

theorem considerShots_served {fuel : Nat} (hn : nextShot s n = some i) (hf : fitRule s n (plannedFrames s n i) = .served bk) :
    considerShots n (fuel + 1) s = serveShot n i bk s := by
  unfold considerShots
  rw [hn]
  dsimp only
  rw [hf]

theorem considerShots_passedOver {fuel : Nat} (hn : nextShot s n = some i)
    (hf : fitRule s n (plannedFrames s n i) = .passedOver) : considerShots n (fuel + 1) s = s := by
  unfold considerShots
  rw [hn]
  dsimp only
  rw [hf]

theorem considerShots_exceeds {fuel : Nat} (hn : nextShot s n = some i)
    (hf : fitRule s n (plannedFrames s n i) = .exceedsRoll) :
    considerShots n (fuel + 1) s = considerShots n fuel (exceedNext n s) := by
  conv => lhs; unfold considerShots
  rw [hn]
  dsimp only
  rw [hf]

theorem considerShots_none {fuel : Nat} (hn : nextShot s n = none) : considerShots n fuel s = s := by
  cases fuel with
  | zero => rfl
  | succ k =>
    unfold considerShots
    rw [hn]

end Sys2Proof.Proofs
end

section
/-! SUPPORT. A shot choice over one order that waits for a roll, and over one REWIND task (R32, R33, R36, R44, R88). -/

namespace Sys2Proof.Proofs

open Sys2Proof Sys2Proof.Machine Sys2Proof.Safety Sys2Proof.Laws Sys2Proof.Claims

variable {s t u : State} {n m : Slot} {bk : Back} {e : OrderEntry} {f i : Nat}

/-! ### The roll wanted fields (R36) -/

theorem refreshWanted_found (h : s.orders.runList.find? (fun e => decide (e.sub = SubState.waitingRoll)) = some e) :
    refreshWanted s = report 0x11 (nextPlanned s e.slot) (report 0x10 (orderProfile s e.slot) s) := by
  unfold refreshWanted
  rw [h]

theorem refreshWanted_none (h : s.orders.runList.find? (fun e => decide (e.sub = SubState.waitingRoll)) = none) :
    refreshWanted s = report 0x11 0 (report 0x10 0 s) := by
  unfold refreshWanted
  rw [h]

theorem reports_wanted {p q : Nat} (hm : MemoryOk s) (hp : p < 256) (hq : q < 256) :
    reportByte (report 0x11 q (report 0x10 p s)) 0x10 = p ∧ reportByte (report 0x11 q (report 0x10 p s)) 0x11 = q :=
  ⟨reportByte_of hm (by decide) hp ((Keeps.refl _).report (apart_byte (by decide))),
    reportByte_of (memoryOk_report hm) (by decide) hq (.refl _)⟩

theorem wanted_found (hm : MemoryOk s) (h : s.orders.runList.find? (fun e => decide (e.sub = SubState.waitingRoll)) = some e)
    (hf : nextPlanned s e.slot < 256) :
    reportByte (refreshWanted s) 0x10 = orderProfile s e.slot ∧ reportByte (refreshWanted s) 0x11 = nextPlanned s e.slot := by
  rw [refreshWanted_found h]
  exact reports_wanted hm (byteAt_lt _ _) hf

theorem wanted_none (hm : MemoryOk s) (h : ∀ x ∈ s.orders.runList, x.sub ≠ .waitingRoll) :
    reportByte (refreshWanted s) 0x10 = 0 ∧ reportByte (refreshWanted s) 0x11 = 0 := by
  rw [refreshWanted_none (List.find?_eq_none.mpr fun x hx => by simpa using h x hx)]
  exact reports_wanted hm (by decide) (by decide)

theorem nextPlanned_of (h : nextShot s n = some i) : nextPlanned s n = plannedFrames s n i := by
  unfold nextPlanned
  rw [h]

/-! ### What is read of an order's slot after its sub-state is entered -/

/-- The bytes of a slot that its order's host wrote: the fields and the shot entries. -/
abbrev OrderBytes (n : Slot) : Nat → Prop := within (slotBase n + 2) 0x1FE

theorem plannedFrames_kept (h : Keeps (OrderBytes n) s t) (hi : i < 24) : plannedFrames t n i = plannedFrames s n i := by
  have hb : bracketCount t n i = bracketCount s n i := h.byteAt (by unfold shotEntry; omega)
  have hc : copyCount t n i = copyCount s n i := h.byteAt (by unfold shotEntry; omega)
  unfold plannedFrames
  rw [hb, hc]

theorem keeps_setSub_order (sub : SubState) (s : State) : Keeps (OrderBytes n) s (setSub n sub s) := by
  have ho := outcome_eq n
  have hs := slotBase_eq n
  exact fun a ha => writes_setSub n sub s a (by omega)

theorem nextShot_setSub (sub : SubState) (s : State) : nextShot (setSub n sub s) n = nextShot s n :=
  nextShot_keeps (((Keeps.refl s).same (u := updateOrder n _ s) rfl).setByte (apart_shotByte_outcome (by decide))) n

theorem runList_single_sub (h : s.orders.runList = [e]) (sub : SubState) :
    (setSub e.slot sub s).orders.runList = [{ e with sub := sub }] := by
  rw [setSub_runList, h]
  simp

theorem nextPlanned_raise (g : Flag) (n : Slot) (s : State) : nextPlanned (raise g s) n = nextPlanned s n := rfl

theorem byteAt_raise (g : Flag) (a : Nat) (s : State) : byteAt (raise g s) a = byteAt s a := rfl

/-! ### A shot that waits for a roll -/

theorem waitForRoll_eq (n : Slot) (s : State) : waitForRoll n s = refreshWanted (raise .rollWanted (setSub n .waitingRoll s)) := rfl

/-- Settles O21: the fit rule finds case 4, and the order's wait writes its sub-state and the roll wanted fields. -/
theorem shotWaitsForARoll : Obligations.ShotWaitsForARoll := by
  intro s e i f hm hc ⟨hk, hs, hn, hf⟩ hlo hhi hrolls
  have ho := outcome_eq e.slot
  have hlt := e.slot.isLt
  have hl := hc.2.2.1
  have matching (bk : Back) (w : Which) (h : Matches s e.slot bk w) :
      f ≤ capacity s ⟨bk, w⟩ ∧ capacity s ⟨bk, w⟩ < framesUsed s ⟨bk, w⟩ + f :=
    (hrolls bk h.1 w h.2.1).resolve_left fun hp => hp h.2.2
  have waits : fitRule s e.slot (plannedFrames s e.slot i) = .waits := by
    rw [show plannedFrames s e.slot i = f from hf.symm]
    refine fitRule_waits (fun bk w hr => ?_) fun bk w hw => (matching bk w hw).1
    have := matching bk w hr.1
    have := hr.2
    omega
  have run : shotChoice s = waitForRoll e.slot s := by
    rw [shotChoice_copy hc hk hs]
    exact considerShots_waits hn waits
  have m1 : MemoryOk (raise .rollWanted (setSub e.slot .waitingRoll s)) := memoryOk_raise (memoryOk_setSub hm)
  have list : (raise .rollWanted (setSub e.slot .waitingRoll s)).orders.runList = [{ e with sub := .waitingRoll }] :=
    by rw [raise_orders, runList_single_sub hl]
  have planned : nextPlanned (raise .rollWanted (setSub e.slot .waitingRoll s)) e.slot = f := by
    have same : nextPlanned (raise .rollWanted (setSub e.slot .waitingRoll s)) e.slot
        = nextPlanned (setSub e.slot .waitingRoll s) e.slot := nextPlanned_raise ..
    rw [same, nextPlanned_of ((nextShot_setSub ..).trans hn),
      plannedFrames_kept (keeps_setSub_order _ s) (nextShot_eq_some.mp hn).1.1]
    exact hf.symm
  have wanted := wanted_found (e := { e with sub := .waitingRoll }) m1 (by rw [list]; rfl) (by rw [planned]; omega)
  have entered := writes_setSub e.slot .waitingRoll s
  have fields := writes_refreshWanted (raise .rollWanted (setSub e.slot .waitingRoll s))
  refine ⟨_, (exec_shotChoice hc.1).trans (congrArg _ run), ?_⟩
  rw [waitForRoll_eq]
  refine ⟨by rw [refreshWanted_orders, list], ?_, wanted.1.trans ?_, wanted.2.trans planned, ?_, ?_, ?_, ?_, ?_⟩
  · have kept := fields.byteAt (a := outcome e.slot + 1) (by omega)
    have raised := byteAt_raise .rollWanted (outcome e.slot + 1) (setSub e.slot .waitingRoll s)
    have written := byteAt_setSub (n := e.slot) (sub := .waitingRoll) hm
    rw [kept, raised, written]
    rfl
  · exact (byteAt_raise ..).trans (entered.byteAt (by rw [slotBase_eq]; omega))
  · exact raisesOnly_of_control (by rw [refreshWanted_control]; exact raise_control_of (setSub_control e.slot .waitingRoll s))
  · rw [refreshWanted_gate, raise_gate, setSub_gate]
  · rw [refreshWanted_orders, raise_orders]
    unfold setSub
    rw [setByte_orders]
    rfl
  · exact Keeps.trans (Keeps.raise (entered.mono fun _ h => .inl h)) (fields.mono fun _ h => .inr h)
  · exact (((inOrders_setSub _).trans (inOrders_raise .rollWanted _)).trans (inOrders_refreshWanted _)).orders
      (by rw [refreshWanted_labels, raise_labels, setSub_labels])

/-! ### A REWIND task (R44, R88) -/

theorem namedBack_eq (h : backChoice s n = backCode bk) : namedBack s n = bk := by
  unfold namedBack
  rw [h]
  cases bk <;> rfl

theorem rewindFinding_rewinds {b : BackState} (h : b ∈ [BackState.ready, .rollEnd, .stale, .jammed, .orphanFilm]) :
    rewindFinding b = .rewinds := by
  cases b <;> first | rfl | exact absurd h (by decide)

theorem rewindFinding_passedOver {b : BackState} (h : b ∈ [BackState.winding, .loading]) : rewindFinding b = .passedOver := by
  cases b <;> first | rfl | exact absurd h (by decide)

theorem rewindFinding_noFilm {b : BackState}
    (h : b ∈ [BackState.empty, .doorOpen, .awaitingSheet, .shutterOpen, .rewinding, .filmOut]) : rewindFinding b = .noFilm := by
  cases b <;> first | rfl | exact absurd h (by decide)

theorem considerRewind_rewinds (hb : namedBack s n = bk) (h : rewindFinding (s.back bk).state = .rewinds) :
    considerRewind n s = commandRewind bk (startedTask n s) := by
  unfold considerRewind
  dsimp only
  rw [hb, h]
  rfl

theorem considerRewind_noFilm (hb : namedBack s n = bk) (h : rewindFinding (s.back bk).state = .noFilm) :
    considerRewind n s = finishOrder n .noFilm s := by
  unfold considerRewind
  dsimp only
  rw [hb, h]

theorem considerRewind_passedOver (hb : namedBack s n = bk) (h : rewindFinding (s.back bk).state = .passedOver) :
    considerRewind n s = s := by
  unfold considerRewind
  dsimp only
  rw [hb, h]

theorem updateOrder_back (n : Slot) (g : OrderEntry → OrderEntry) (bk : Back) (s : State) :
    (updateOrder n g s).back bk = s.back bk := by cases bk <;> rfl

theorem setSub_back (n : Slot) (sub : SubState) (bk : Back) (s : State) : (setSub n sub s).back bk = s.back bk := by
  unfold setSub
  rw [back_setByte, updateOrder_back]

theorem startedTask_back (n : Slot) (bk : Back) (s : State) : (startedTask n s).back bk = s.back bk := by
  unfold startedTask
  rw [updateOrder_back, setSub_back]

theorem startedTask_inOrders (n : Slot) (s : State) : InOrders s (startedTask n s) :=
  (inOrders_setSub .atGate).trans (inOrders_updateOrder _)

theorem updateOrder_control (n : Slot) (g : OrderEntry → OrderEntry) (s : State) :
    (updateOrder n g s).control = s.control := rfl

theorem updateOrder_labels (n : Slot) (g : OrderEntry → OrderEntry) (s : State) : (updateOrder n g s).labels = s.labels := rfl

theorem startedTask_control (n : Slot) (s : State) : (startedTask n s).control = s.control := by
  unfold startedTask
  rw [updateOrder_control, setSub_control]

theorem startedTask_only (n : Slot) (s : State) : startedTask n s = { s with
    mem := (startedTask n s).mem, orders := (startedTask n s).orders } := by
  refine (startedTask_inOrders n s).ordersAlone ?_ (startedTask_control n s)
  unfold startedTask
  rw [updateOrder_labels, setSub_labels]

theorem runList_startedTask (h : s.orders.runList = [e]) :
    (startedTask e.slot s).orders.runList = [{ e with sub := .atGate, started := true }] := by
  unfold startedTask updateOrder
  rw [setRunList_runList, runList_single_sub h]
  simp

theorem updateOrder_mem (n : Slot) (g : OrderEntry → OrderEntry) (s : State) : (updateOrder n g s).mem = s.mem := rfl

theorem startedTask_mem (n : Slot) (s : State) : (startedTask n s).mem = (setSub n .atGate s).mem := by
  unfold startedTask
  rw [updateOrder_mem]

theorem writes_startedTask (n : Slot) (s : State) : Writes (fun a => a = outcome n + 1) s (startedTask n s) :=
  (writes_setSub n .atGate s).same (startedTask_mem n s)

theorem memoryOk_startedTask (hm : MemoryOk s) : MemoryOk (startedTask n s) := by
  rw [MemoryOk, startedTask_mem]
  exact memoryOk_setSub hm

theorem byteAt_startedTask (hm : MemoryOk s) : byteAt (startedTask n s) (outcome n + 1) = 2 :=
  (Keeps.byteAt (K := fun _ => True) ((Keeps.refl _).same (startedTask_mem n s)) trivial).trans (byteAt_setSub hm)

/-- The task that rewinds a back ends (R44). -/
theorem endRewindTask_single {o : OrderState} (h : s.orders.runList = [e]) (hk : e.kind = .rewind) (hs : e.started = true)
    (hb : backChoice s e.slot = backCode bk) : endRewindTask bk o s = finishOrder e.slot o s := by
  have found : rewindTask s bk = some e := by
    unfold rewindTask
    rw [h, List.find?_cons_of_pos]
    rw [hk, hs, hb]
    cases bk <;> rfl
  unfold endRewindTask
  rw [found]

theorem runList_finishOrder_single {o : OrderState} (h : s.orders.runList = [e]) :
    (finishOrder e.slot o s).orders.runList = [] := by
  rw [finishOrder_orders, h]
  simp

theorem finishOrder_back (n : Slot) (o : OrderState) (bk : Back) (s : State) : (finishOrder n o s).back bk = s.back bk := by
  rw [finishOrder_only]
  cases bk <;> rfl

/-- A change of the orders, then of a back. -/
theorem only_orders_back {v : State} (h : v = { s with mem := v.mem, orders := v.orders })
    (k : t = { v with mem := t.mem, backA := t.backA, backB := t.backB }) :
    t = { s with mem := t.mem, orders := t.orders, backA := t.backA, backB := t.backB } := by
  rw [k, h]

/-- A change of the orders, then of a back, then of the orders and flags. -/
theorem only_orders_backs_orders {v w : State} (h : v = { s with mem := v.mem, orders := v.orders })
    (k : w = { v with mem := w.mem, backA := w.backA, backB := w.backB, control := w.control })
    (l : t = { w with mem := t.mem, orders := t.orders, control := t.control }) :
    t = { s with mem := t.mem, orders := t.orders, control := t.control, backA := t.backA, backB := t.backB } := by
  rw [l, k, h]

/-- Settles O23, by what the task finds at its back. -/
theorem rewindTaskActsOnItsBack : Obligations.RewindTaskActsOnItsBack := by
  intro s e bk hm hc hk hstarted hchoice
  have ho := outcome_eq e.slot
  have hsb := slotBase_eq e.slot
  have hlt := e.slot.isLt
  have hl := hc.2.2.1
  have offset := backOffset_bounds bk
  have hr : Config.report = 0x5D00 := rfl
  have named := namedBack_eq hchoice
  have m1 : MemoryOk (startedTask e.slot s) := memoryOk_startedTask hm
  have list := runList_startedTask hl
  have entered := writes_startedTask e.slot s
  have only := startedTask_only e.slot s
  refine ⟨fun hstate hdoor => ?_, fun hstate hdoor hlive => ?_, fun hstate => ?_, fun hstate => ?_⟩
  · have task : considerRewind e.slot s = beginRewind bk (.left (s.back bk).state) (startedTask e.slot s) := by
      rw [considerRewind_rewinds named (rewindFinding_rewinds hstate)]
      unfold commandRewind
      rw [startedTask_back, hdoor]
      rfl
    obtain ⟨motor, unit⟩ := (UnitBecomes.refl bk (startedTask e.slot s)).beginRewind (o := .left (s.back bk).state)
    rw [startedTask_back] at unit
    have list' : (considerRewind e.slot s).orders.runList = [{ e with sub := .atGate, started := true }] := by
      rw [task, unit.orders, list]
    have run := shotChoice_rewind hc hk hstarted (by
      rw [list']
      intro x hx
      rw [List.mem_singleton.mp hx]
      exact fun h => absurd (hk.symm.trans h) (by decide))
    have rewound := writes_beginRewind bk (.left (s.back bk).state) (startedTask e.slot s)
    refine ⟨_, (exec_shotChoice hc.1).trans (congrArg _ (run.trans task)), ?_⟩
    beta_reduce
    rw [unit.unit]
    refine ⟨rfl, rfl, rfl, rfl, task ▸ list', ?_, reportByte_beginRewind m1, ?_, ?_, ?_⟩
    · exact (rewound.byteAt (by omega)).trans (byteAt_startedTask hm)
    · exact unit.other.trans (startedTask_back ..)
    · exact (entered.mono fun _ h => .inl h).andThen (rewound.mono fun _ h => .inr h)
    · exact only_orders_back only unit.rest
  · have noSheet : ((startedTask e.slot s).back bk).live = none := by rw [startedTask_back, hlive]
    have jam := jamBack_becomes bk (startedTask e.slot s)
    have jamBytes := writes_jamBack_noSheet noSheet
    have jamOrders : (jamBack bk (startedTask e.slot s)).orders = (startedTask e.slot s).orders := by rw [jam.rest]
    rw [startedTask_back] at jam
    have choice : backChoice (jamBack bk (startedTask e.slot s)) e.slot = backCode bk := by
      rw [← hchoice]
      have jammed := jamBytes.byteAt (a := slotBase e.slot + 3) (by omega)
      have kept := entered.byteAt (a := slotBase e.slot + 3) (by omega)
      exact jammed.trans kept
    have jamList : (jamBack bk (startedTask e.slot s)).orders.runList = [{ e with sub := .atGate, started := true }] := by
      rw [jamOrders, list]
    have task : considerRewind e.slot s = finishOrder e.slot .failedJam (jamBack bk (startedTask e.slot s)) := by
      rw [considerRewind_rewinds named (rewindFinding_rewinds hstate)]
      unfold commandRewind
      rw [startedTask_back, hdoor, if_pos rfl]
      exact endRewindTask_single (e := { e with sub := .atGate, started := true }) jamList hk rfl choice
    have list' : (considerRewind e.slot s).orders.runList = [] := by
      rw [task]
      exact runList_finishOrder_single (e := { e with sub := .atGate, started := true }) jamList
    have run := shotChoice_rewind hc hk hstarted (by rw [list']; exact fun x hx => absurd hx List.not_mem_nil)
    have reads := finishReads (n := e.slot) .failedJam ((Quiet.jamBack (Quiet.refl (startedTask e.slot s)) (bk := bk)).memory m1)
    have finished := writes_finishOrder e.slot .failedJam (jamBack bk (startedTask e.slot s))
    have flags := raisesOnly_finishOrder e.slot .failedJam (jamBack bk (startedTask e.slot s))
    have jamControl := jamBack_control bk (startedTask e.slot s)
    have jamFlags := raisesOnly_of_control (s := startedTask e.slot s) jamControl
    have control := finishOrder_control e.slot .failedJam (jamBack bk (startedTask e.slot s))
    refine ⟨_, (exec_shotChoice hc.1).trans (congrArg _ (run.trans task)), ?_⟩
    beta_reduce
    rw [finishOrder_back, jam.unit]
    refine ⟨rfl, rfl, rfl, rfl, hlive, rfl, rfl, ?_, ?_, reads.recorded, reads.found, reads.state, reads.sub, task ▸ list',
      flags.1, ?_, ?_, ?_, ?_, ?_, ?_, ?_⟩
    · exact (flags.2.2 .backFault (by decide)).1.trans jamFlags.1
    · exact (flags.2.2 .backFault (by decide)).2.trans jamFlags.2.1
    · exact (finished.byteAt (by omega)).trans (reportByte_jamBack_noSheet m1 noSheet)
    · exact (finishOrder_back ..).trans (jam.other.trans (startedTask_back ..))
    · unfold KeepsStartUp
      rw [control, raise_startUp, raise_resetting, raise_resetCause, raise_enables, jamControl, raise_startUp, raise_resetting,
        raise_resetCause, raise_enables, startedTask_control]
      exact ⟨rfl, rfl, rfl, rfl⟩
    · rw [control, raise_stand, jamControl, raise_stand, startedTask_control]
    · rw [control, raise_cause, jamControl, raise_cause, startedTask_control]
    · refine ((entered.mono fun a h => ?_).andThen (jamBytes.mono fun a h => ?_)).andThen (finished.mono fun a h => ?_) <;> omega
    · exact only_orders_backs_orders only jam.rest ((inOrders_finishOrder _).orders (finishOrder_labels ..))
  · have task := considerRewind_passedOver named (rewindFinding_passedOver hstate)
    have run := shotChoice_rewind hc hk hstarted (by
      rw [task, hl]
      intro x hx
      rw [List.mem_singleton.mp hx, hk]
      decide)
    exact (exec_shotChoice hc.1).trans (congrArg _ (run.trans task))
  · have task := considerRewind_noFilm named (rewindFinding_noFilm hstate)
    have list' : (considerRewind e.slot s).orders.runList = [] := by
      rw [task]
      exact runList_finishOrder_single hl
    have run := shotChoice_rewind hc hk hstarted (by rw [list']; exact fun x hx => absurd hx List.not_mem_nil)
    have reads := finishReads (n := e.slot) .noFilm hm
    refine ⟨_, (exec_shotChoice hc.1).trans (congrArg _ (run.trans task)), ?_⟩
    exact ⟨reads.recorded, reads.found, reads.state, reads.sub, task ▸ list', raisesOnly_finishOrder ..,
      (inOrders_finishOrder _).orders (finishOrder_labels ..)⟩

end Sys2Proof.Proofs
end

section
/-! SUPPORT. A shot choice over a run list, and the start of feeding (R31 to R34, R43, R50, R93, R94). -/

namespace Sys2Proof.Proofs

open Sys2Proof Sys2Proof.Machine Sys2Proof.Safety Sys2Proof.Laws Sys2Proof.Claims

variable {s t u : State} {n m : Slot} {bk : Back} {e : OrderEntry} {f i : Nat} {r : ShotRecord}

/-! ### Frame boundaries with nothing to take effect (R66 to R68) -/

/-- No withdrawal of the order at the gate has been accepted. -/
def NoWithdrawal (s : State) : Prop :=
  ∀ r, s.gate.shot = some r → r.calibrate = false → recordedHand s r.slot ≠ .withdraw

theorem withdrawAtGate_calm (h : NoWithdrawal s) : withdrawAtGate s = s := by
  unfold withdrawAtGate
  split
  · rfl
  · next r hr => exact if_neg fun c => h r hr c.1 c.2

theorem reachBoundary_calm (h : NoWithdrawal s) (hs : s.control.stand = .running) : reachBoundary s = s := by
  unfold reachBoundary takePendingHold restIfHeld
  rw [withdrawAtGate_calm h, if_neg (c := s.control.stand = .holdPending) (by rw [hs]; decide),
    if_neg (c := s.control.stand = .held ∧ s.gate.shot.isSome = true) (by rw [hs]; exact fun c => absurd c.1 (by decide)), ite_self]

/-! ### Feeding starts (R50) -/

theorem startDrive_idleLamp (h : s.lamp.mode = .idle) : startDrive s = s := by
  unfold startDrive
  rw [h]

/-- What the start of feeding to a position changes. -/
structure FeedingStarts (q : Nat) (s t : State) : Prop where
  tray : TrayGoesTo s t q
  rest : t = { s with mem := t.mem, gate := t.gate, feeder := t.feeder }
  shot : t.gate.shot = s.gate.shot
  rested : t.gate.rested = s.gate.rested
  bytes : Writes (fun a => a = 0x5D08 ∧ s.feeder.position = 0) s t

theorem arrive_calm (h : NoWithdrawal s) (hs : s.control.stand = .running) :
    arrive s = { s with gate := { s.gate with phase := .feedArrived, moveTimer := none } } :=
  reachBoundary_calm (s := { s with gate := { s.gate with phase := .feedArrived, moveTimer := none } }) h hs

/-- The feeder as a drive starts toward a position. -/
def feederToward (q : Nat) (x : Feeder) : Feeder :=
  { x with
    drive := if x.position = 0 then .homing else .moving
    target := some q
    homingTimer := if x.position = 0 then some 84000 else none }

/-- Away from the home switch, or from a known position, the feeder goes under its timers. -/
theorem moveFeeder_drives {q : Nat} (hl : s.lamp.mode = .idle) (hq : s.feeder.position ≠ q)
    (hh : ¬ (s.feeder.position = 0 ∧ s.feeder.home = true)) :
    moveFeeder q s = { s with feeder := feederToward q s.feeder } := by
  unfold moveFeeder feederToward
  by_cases h0 : s.feeder.position = 0
  · have home : s.feeder.home ≠ true := fun c => hh ⟨h0, c⟩
    unfold homeFeeder
    dsimp only
    rw [if_pos h0, if_neg home, startDrive_idleLamp (by exact hl), if_pos h0, if_pos h0]
    rfl
  · unfold driveToTarget
    dsimp only
    rw [if_neg h0, if_neg hq, startDrive_idleLamp (by exact hl), if_neg h0, if_neg h0]

/-- The feeder at its home position, stopped there or on its way to a position. -/
def feederHomedToward (q : Nat) (x : Feeder) : Feeder :=
  { x with
    position := 1
    drive := if q = 1 then .stopped else .moving
    target := if q = 1 then none else some q
    homingTimer := none }

/-- At position 0 with the home switch closed the position is 1 at once, and the feeder stops there or moves on. -/
theorem moveFeeder_home {q : Nat} (hl : s.lamp.mode = .idle) (h0 : s.feeder.position = 0) (hh : s.feeder.home = true) :
    moveFeeder q s = { setPosition 1 s with feeder := feederHomedToward q s.feeder } := by
  unfold moveFeeder homeFeeder feederHomed driveToTarget feederHomedToward
  dsimp only
  rw [if_pos h0, if_pos hh]
  by_cases h1 : q = 1
  · subst h1
    rfl
  · have apart : ¬ 1 = q := fun c => h1 c.symm
    show (if 1 = q then _ else _) = _
    rw [if_neg apart, if_neg h1, if_neg h1, startDrive_idleLamp (by exact hl)]
    rfl

theorem moveDistance_eq (p q : Nat) : moveDistance p q = distance p q := by
  unfold moveDistance distance
  split
  · omega
  · split <;> omega

theorem feedingStarts (hm : MemoryOk s) (hr : s.gate.shot = some r) (hw : NoWithdrawal s) (hs : s.control.stand = .running)
    (hl : s.lamp.mode = .idle) : FeedingStarts (trayPosition s r.slot r.shot) s (startFeeding s) := by
  generalize hq : trayPosition s r.slot r.shot = q
  have start : startFeeding s = if s.feeder.position = q then arrive s else
      if feederStill (moveFeeder q s) then arrive (moveFeeder q s)
      else { moveFeeder q s with gate := { (moveFeeder q s).gate with
        phase := .feedMoving, moveTimer := some (Config.moveTime (moveDistance s.feeder.position q)) } } := by
    unfold startFeeding
    rw [hr]
    dsimp only
    rw [hq]
  have time : Config.moveTime (moveDistance s.feeder.position q) = 20 * (200 + 50 * distance s.feeder.position q) := by
    rw [moveDistance_eq]
    unfold Config.moveTime ms
    omega
  by_cases here : s.feeder.position = q
  · rw [start, if_pos here, arrive_calm hw hs]
    refine ⟨?_, rfl, rfl, rfl, .same (.refl s) rfl⟩
    unfold TrayGoesTo
    rw [if_pos here]
    exact ⟨rfl, rfl⟩
  · by_cases home : s.feeder.position = 0 ∧ s.feeder.home = true
    · obtain ⟨h0, hh⟩ := home
      have away : Writes (fun a => a = 0x5D08 ∧ s.feeder.position = 0) s (setPosition 1 s) :=
        ((Keeps.refl s).same (u := { s with feeder := { s.feeder with position := 1 } }) rfl).report (a := 0x08)
          (apart_others fun b _ _ => ⟨by have : Config.report = 0x5D00 := rfl; omega, h0⟩)
      have position : reportByte (setPosition 1 s) 0x08 = 1 :=
        reportByte_of (s := { s with feeder := { s.feeder with position := 1 } }) hm (by decide) (by decide) (.refl _)
      rw [show distance s.feeder.position q = q by rw [h0]; unfold distance; omega] at time
      rw [start, if_neg here, moveFeeder_home hl h0 hh, time]
      generalize hv : { setPosition 1 s with feeder := feederHomedToward q s.feeder } = v
      by_cases h1 : q = 1
      · have still : feederStill v = true := by
          rw [← hv]
          unfold feederStill feederHomedToward
          rw [if_pos h1]
          rfl
        rw [if_pos still, arrive_calm (s := v) (by rw [← hv]; exact hw) (by rw [← hv]; exact hs), ← hv]
        refine ⟨?_, rfl, rfl, rfl, away.same rfl⟩
        unfold TrayGoesTo
        rw [if_neg here, if_pos ⟨h0, hh⟩]
        refine ⟨rfl, position, rfl, ?_⟩
        rw [if_pos h1]
        exact ⟨rfl, rfl, if_pos h1⟩
      · have moves : feederStill v = false := by
          rw [← hv]
          unfold feederStill feederHomedToward
          rw [if_neg h1]
          rfl
        rw [moves, ← hv]
        refine ⟨?_, rfl, rfl, rfl, away.same rfl⟩
        unfold TrayGoesTo
        rw [if_neg here, if_pos ⟨h0, hh⟩]
        refine ⟨rfl, position, rfl, ?_⟩
        rw [if_neg h1]
        exact ⟨rfl, rfl, if_neg h1, if_neg h1⟩
    · rw [start, if_neg here, moveFeeder_drives hl here home]
      have moves : feederStill { s with feeder := feederToward q s.feeder } = false := by
        unfold feederStill feederToward
        dsimp only
        split <;> rfl
      rw [moves, time]
      refine ⟨?_, rfl, rfl, rfl, .same (.refl s) rfl⟩
      unfold TrayGoesTo
      rw [if_neg here, if_neg home]
      exact ⟨rfl, rfl, rfl⟩

/-! ### Work takes the gate (R34, R43) -/

/-- What a choice changes when the work of an order takes the gate and its tray goes to a position. -/
structure GateTaken (n : Slot) (r : ShotRecord) (q : Nat) (s t : State) : Prop where
  shot : t.gate.shot = some r
  rested : t.gate.rested = s.gate.rested
  tray : TrayGoesTo s t q
  sub : byteAt t (outcome n + 1) = 2
  bytes : Writes (fun a => a = outcome n + 1 ∨ a = 0x5D08 ∧ s.feeder.position = 0) s t
  rest : t = { s with mem := t.mem, orders := t.orders, gate := t.gate, feeder := t.feeder }

theorem only_orders_gate {v w : State} (h : v = { s with mem := v.mem, orders := v.orders })
    (k : w = { v with gate := w.gate }) (l : t = { w with mem := t.mem, gate := t.gate, feeder := t.feeder }) :
    t = { s with mem := t.mem, orders := t.orders, gate := t.gate, feeder := t.feeder } := by
  rw [l, k, h]

theorem gateTaken {v : State} (only : v = { s with mem := v.mem, orders := v.orders })
    (bytes : Writes (fun a => a = outcome n + 1) s v) (sub : byteAt v (outcome n + 1) = 2) (hm : MemoryOk v)
    (hw : r.calibrate = false → recordedHand v r.slot ≠ .withdraw) (hs : s.control.stand = .running)
    (hl : s.lamp.mode = .idle) :
    GateTaken n r (trayPosition v r.slot r.shot) s (startFeeding (setShot r v))
      ∧ (startFeeding (setShot r v)).orders = v.orders := by
  have ho := outcome_eq n
  have hn := n.isLt
  have fv : v.feeder = s.feeder := by rw [only]
  have gv : v.gate = s.gate := by rw [only]
  have cv : v.control = s.control := by rw [only]
  have lv : v.lamp = s.lamp := by rw [only]
  have none : NoWithdrawal (setShot r v) := fun x hx hc => by
    obtain rfl : r = x := Option.some.inj hx
    exact hw hc
  obtain ⟨tray, rest, shot, rested, moved⟩ := feedingStarts (s := setShot r v) hm rfl none
    ((congrArg Control.stand cv).trans hs) ((congrArg Lamp.mode lv).trans hl)
  have feeder : (setShot r v).feeder = s.feeder := fv
  unfold TrayGoesTo at tray
  rw [feeder] at tray moved
  refine ⟨⟨shot, rested.trans (show v.gate.rested = s.gate.rested by rw [gv]), tray, ?_, ?_, only_orders_gate only rfl rest⟩, by rw [rest]; rfl⟩
  · exact (moved.byteAt (a := outcome n + 1) (by omega)).trans sub
  · exact Keeps.trans (Keeps.same (bytes.mono fun _ h => .inl h) (u := setShot r v) rfl) (moved.mono fun _ h => .inr h)

theorem trayPosition_kept (h : Writes (fun a => a = outcome n + 1) s t) :
    trayPosition t n i = trayPosition s n i :=
  h.byteAt (by
    have ho := outcome_eq n
    have hs := slotBase_eq n
    unfold shotEntry
    omega)

theorem setSub_orders (n : Slot) (sub : SubState) (s : State) : (setSub n sub s).orders =
    { s.orders with runList := s.orders.runList.map fun e => if e.slot = n then { e with sub := sub } else e } := by
  unfold setSub
  rw [setByte_orders]
  rfl

/-- A shot is served (R34). -/
theorem gateTaken_serveShot {w : Which} (hm : MemoryOk s) (hlive : (s.back bk).live = some w)
    (hw : recordedHand s n ≠ .withdraw) (hs : s.control.stand = .running) (hl : s.lamp.mode = .idle) :
    GateTaken n (servedRecord n i bk w (plannedFrames s n i)) (trayPosition s n i) s (serveShot n i bk s)
      ∧ (serveShot n i bk s).orders = { s.orders with
          choice := some (servedChoice n i bk (plannedFrames s n i))
          runList := s.orders.runList.map fun e => if e.slot = n then { e with sub := .atGate } else e } := by
  generalize hc : some (servedChoice n i bk (plannedFrames s n i)) = c
  have served : serveShot n i bk s = startFeeding (setShot (servedRecord n i bk w (plannedFrames s n i))
      (setSub n .atGate (setChoice c s))) := by
    unfold serveShot
    rw [hlive, ← hc]
    rfl
  have mc : MemoryOk (setChoice c s) := hm
  have bytes : Writes (fun a => a = outcome n + 1) s (setSub n .atGate (setChoice c s)) :=
    Keeps.trans ((Keeps.refl s).same (setChoice_mem s c)) (writes_setSub n .atGate (setChoice c s))
  have inside : InOrders s (setSub n .atGate (setChoice c s)) :=
    InOrders.trans (t := setChoice c s) rfl (inOrders_setSub .atGate)
  have orders : (setSub n .atGate (setChoice c s)).orders = { s.orders with
      choice := c
      runList := s.orders.runList.map fun e => if e.slot = n then { e with sub := .atGate } else e } := by
    exact setSub_orders n .atGate (setChoice c s)
  have hand : recordedHand (setSub n .atGate (setChoice c s)) n = recordedHand s n := by
    unfold recordedHand
    rw [orders]
  have taken := gateTaken (r := servedRecord n i bk w (plannedFrames s n i))
    (inside.ordersAlone (setSub_labels ..) (setSub_control ..)) bytes (byteAt_setSub mc) (memoryOk_setSub mc)
    (fun _ => show recordedHand (setSub n .atGate (setChoice c s)) n ≠ .withdraw by rw [hand]; exact hw) hs hl
  rw [served]
  exact ⟨trayPosition_kept bytes ▸ taken.1, taken.2.trans orders⟩

theorem startedTask_orders (n : Slot) (s : State) : (startedTask n s).orders = { s.orders with
    runList := s.orders.runList.map fun e => if e.slot = n then { e with sub := .atGate, started := true } else e } := by
  unfold startedTask updateOrder setRunList
  rw [setSub_orders]
  dsimp only
  rw [List.map_map]
  congr 2
  funext e
  dsimp only [Function.comp]
  split
  · rfl
  · rfl

/-- A CALIBRATE task starts (R43). -/
theorem gateTaken_startCalibrate (hm : MemoryOk s) (hs : s.control.stand = .running) (hl : s.lamp.mode = .idle) :
    GateTaken n (calibrateRecord n) (trayPosition s n 0) s (startCalibrate n s)
      ∧ (startCalibrate n s).orders = { s.orders with
          runList := s.orders.runList.map fun e =>
            if e.slot = n then { e with sub := .atGate, started := true } else e } := by
  have bytes := writes_startedTask n s
  have taken := gateTaken (r := calibrateRecord n) (startedTask_only n s) bytes (byteAt_startedTask hm)
    (memoryOk_startedTask hm) nofun hs hl
  rw [startCalibrate_eq]
  exact ⟨trayPosition_kept bytes ▸ taken.1, taken.2.trans (startedTask_orders n s)⟩

theorem gateIdle_of_shot (h : s.gate.shot = some r) : gateIdle s = false := by
  unfold gateIdle
  rw [h]
  exact Bool.and_false _

/-! ### A choice over many orders -/

theorem considerCopy_goesPast (hg : gateIdle s = true) (h : GoesPast s e) : considerCopy e s = s := by
  by_cases c : e.kind = .copy ∧ e.sub = .waitingRun ∧ recordedHand s e.slot ≠ .withdraw
  · obtain ⟨hk, hs, hw⟩ := c
    rw [considerCopy_waiting hg hk hs hw]
    rcases h with h | h | h | h | ⟨i, f, ⟨-, -, hn, hf⟩, hp⟩
    · exact absurd hk h
    · exact absurd hs h
    · exact absurd h hw
    · exact considerShots_none h
    · have planned : plannedFrames s e.slot i = f := hf.symm
      exact considerShots_passedOver hn (by rw [planned]; exact fitRule_passedOver hp)
  · exact if_neg fun k => c k.2

/-- With no stand task waiting to start, a choice examines the COPY orders alone. -/
theorem shotChoice_many (h : ChoiceOverMany s) :
    shotChoice s = s.orders.runList.foldl (fun s e => considerCopy e s) s := by
  have tasks : s.orders.runList.foldl (fun s e => considerTask e s) s = s :=
    foldl_fixed fun x hx => (h.2.2.2 x hx).elim considerTask_copy considerTask_started
  unfold shotChoice
  dsimp only
  rw [tasks]

theorem running_of_mayChoose (h : mayChoose s = true) : s.control.stand = .running :=
  of_decide_eq_true (Bool.and_eq_true _ _ ▸ (Bool.and_eq_true _ _ ▸ h).1).2

/-- Past the orders that it goes past, a choice serves the first that a back can take, and leaves the others. -/
theorem shotChoice_serves {pre post : List OrderEntry} {w : Which} (h : ChoiceOverMany s)
    (hl : s.orders.runList = pre ++ e :: post) (hp : ∀ x ∈ pre, GoesPast s x) (hn : NextIs s e i f)
    (hw : recordedHand s e.slot ≠ .withdraw) (hb : BackServes s e.slot f bk w) (hc : ChosenBack s e.slot f bk)
    (taken : gateIdle (serveShot e.slot i bk s) = false) : shotChoice s = serveShot e.slot i bk s := by
  obtain ⟨hk, hs, hnext, hf⟩ := hn
  have idle := gateIdle_of_mayChoose h.1
  have serves : considerCopy e s = serveShot e.slot i bk s := by
    rw [considerCopy_waiting idle hk hs hw]
    have planned : plannedFrames s e.slot i = f := hf.symm
    exact considerShots_served hnext (by rw [planned]; exact fitRule_served hb hc)
  rw [shotChoice_many h, hl, List.foldl_append, foldl_fixed fun x hx => considerCopy_goesPast idle (hp x hx), List.foldl_cons,
    serves]
  exact foldl_fixed fun x _ => considerCopy_busy taken

/-- A CALIBRATE task that is first takes the gate, and the choice ends with it. -/
theorem shotChoice_calibrates {pre post : List OrderEntry} (h : CalibrateIsFirst s pre post e)
    (taken : gateIdle (startCalibrate e.slot s) = false) : shotChoice s = startCalibrate e.slot s := by
  obtain ⟨hc, -, -, hl, hk, hs, hw, before⟩ := h
  have past : ∀ x ∈ pre, considerTask x s = s := fun x hx =>
    (before x hx).elim considerTask_copy fun h => h.elim considerTask_started considerTask_withdrawn
  have tasks : s.orders.runList.foldl (fun s e => considerTask e s) s = startCalibrate e.slot s := by
    rw [hl, List.foldl_append, foldl_fixed (xs := pre) past, List.foldl_cons, considerTask_calibrate (gateIdle_of_mayChoose hc) hs hw hk]
    exact foldl_fixed fun x _ => considerTask_busy taken
  unfold shotChoice
  dsimp only
  rw [tasks]
  exact foldl_fixed fun x _ => considerCopy_busy taken

/-- Settles O20: the orders before the one that is served leave the state as it is, and those behind it find the gate taken. -/
theorem shotIsServedAndFed : Obligations.ShotIsServedAndFed := by
  refine ⟨fun s pre post e i f bk w hm h hl hp hn hw hb hc hlamp hpos hdrive => ?_, fun s h hp => ?_,
    fun s pre post e hm h hlamp hdrive => ?_⟩
  · have nodup := h.2.2.1
    have hf : plannedFrames s e.slot i = f := hn.2.2.2.symm
    obtain ⟨taken, orders⟩ := gateTaken_serveShot hm hb.1.1.2.1 hw (running_of_mayChoose h.1) hlamp
    rw [hf] at taken orders
    have run := shotChoice_serves h hl hp hn hw hb hc (gateIdle_of_shot taken.shot)
    rw [hl, map_of_nodup _ (hl ▸ nodup)] at orders
    have tray := taken.tray
    refine ⟨_, (exec_shotChoice h.1).trans (congrArg _ run), ?_⟩
    refine ⟨by rw [orders]; rfl, by rw [orders], taken.sub,
      ⟨_, taken.shot, rfl, rfl, rfl, rfl, rfl, rfl, rfl, rfl, rfl, rfl⟩, ?_, ?_, taken.rest⟩
    · unfold TrayGoesTo at tray
      rw [if_neg (c := s.feeder.position = 0 ∧ s.feeder.home = true) fun c => hpos c.1, if_neg hpos, if_neg hpos] at tray
      split at tray
      · next here =>
        rw [if_pos here]
        exact tray
      · next away =>
        rw [if_neg away]
        obtain ⟨phase, timer, feeder⟩ := tray
        exact ⟨phase, by rw [feeder], by rw [feeder], by rw [feeder], timer⟩
    · exact taken.bytes.mono fun a ha => ha.resolve_right fun c => hpos c.2
  · rw [exec_shotChoice h.1, shotChoice_many h, foldl_fixed fun x hx => considerCopy_goesPast (gateIdle_of_mayChoose h.1) (hp x hx)]
  · obtain ⟨taken, orders⟩ := gateTaken_startCalibrate (n := e.slot) hm (running_of_mayChoose h.1) hlamp
    have run := shotChoice_calibrates h (gateIdle_of_shot taken.shot)
    obtain ⟨hc, hrest, nodup, hl, -⟩ := h
    rw [hl, map_of_nodup _ (hl ▸ nodup)] at orders
    exact ⟨_, (exec_shotChoice hc).trans (congrArg _ run), orders, taken.sub, ⟨_, taken.shot, rfl, rfl, rfl, rfl⟩, taken.tray,
      taken.rested.trans hrest, taken.bytes, taken.rest⟩

end Sys2Proof.Proofs
end

section
/-! SUPPORT. A shot that ends without a frame, and what its order does next (R35, R41, R51). -/

namespace Sys2Proof.Proofs

open Sys2Proof Sys2Proof.Machine Sys2Proof.Safety Sys2Proof.Laws Sys2Proof.Claims

variable {s t u : State} {n m : Slot} {e : OrderEntry} {i j x : Nat} {c : ShotCode}

/-! ### The outcome of a shot without a frame -/

/-- The bytes of a shot's outcome and of the order's shots done. -/
abbrev BareBytes (n : Slot) (i a : Nat) : Prop := within (shotOutcome n i) 16 a ∨ within (outcome n + 4) 2 a

/-- A shot's outcome with a code and every other field 0 but TRIM_CLAMPED, and shots done raised (R35, R51). -/
structure BareShot (n : Slot) (i code : Nat) (s t : State) : Prop where
  code : shotCode t n i = code
  zero : ∀ a, within (shotOutcome n i + 1) 13 a → Memory.read t.mem a = 0
  trim : byteAt t (shotOutcome n i + 0x0E) = byteAt s (shotOutcome n i + 0x0E) / 8 % 2 * 8
  last : byteAt t (shotOutcome n i + 0x0F) = 0
  done : wordAt s (outcome n + 4) < 65535 → wordAt t (outcome n + 4) = wordAt s (outcome n + 4) + 1

theorem BareShot.keep (h : BareShot n i j s t) (k : Keeps (BareBytes n i) t u) : BareShot n i j s u where
  code := (k.byteAt (a := shotOutcome n i) (by omega)).trans h.code
  zero a ha := (k a (by omega)).trans (h.zero a ha)
  trim := (k.byteAt (by omega)).trans h.trim
  last := (k.byteAt (by omega)).trans h.last
  done room := (k.wordAt (by omega) (by omega)).trans (h.done room)

/-- The outcome of the shot is written and shots done rises, before anything is released. -/
def bareEntered (n : Slot) (i : Nat) (c : ShotCode) (s : State) : State := raiseShotsDone n (writeBareOutcome n i c s)

theorem writes_writeBareOutcome (n : Slot) (i : Nat) (c : ShotCode) (s : State) :
    Writes (within (shotOutcome n i) 16) s (writeBareOutcome n i c s) :=
  (((Keeps.refl s).zeroBytes (apart_others fun b _ _ => by omega)).setByte (apart_others fun b _ _ => by omega)).setByte
    (apart_others fun b _ _ => by omega)

theorem writes_bareEntered (n : Slot) (i : Nat) (c : ShotCode) (s : State) :
    Writes (BareBytes n i) s (bareEntered n i c s) :=
  Keeps.setWord ((writes_writeBareOutcome n i c s).mono fun _ h => .inl h) (apart_others fun b _ _ => by omega)

theorem memoryOk_writeBareOutcome (hm : MemoryOk s) : MemoryOk (writeBareOutcome n i c s) :=
  memoryOk_setByte (memoryOk_setByte (memoryOk_zeroBytes hm))

theorem memoryOk_bareEntered (hm : MemoryOk s) : MemoryOk (bareEntered n i c s) :=
  memoryOk_setWord (memoryOk_writeBareOutcome hm)

theorem bareShot_entered (hm : MemoryOk s) : BareShot n i c.code s (bareEntered n i c s) := by
  have hn := n.isLt
  have ho := outcome_eq n
  have hi := shotOutcome_eq n i
  have hsize : Config.memorySize = 0x8000 := rfl
  have m1 : MemoryOk (zeroBytes (shotOutcome n i) (shotOutcome n i + 0x10) s) := memoryOk_zeroBytes hm
  have m2 := memoryOk_setByte (a := shotOutcome n i) (n := c.code) m1
  have raised : Writes (within (outcome n + 4) 2) (writeBareOutcome n i c s) (bareEntered n i c s) :=
    (Keeps.refl _).setWord (apart_others fun b _ _ => by omega)
  have trimmed : Writes (fun a => a = shotOutcome n i + 0x0E)
      (setShotCode n i c (zeroBytes (shotOutcome n i) (shotOutcome n i + 0x10) s)) (writeBareOutcome n i c s) :=
    (Keeps.refl _).setByte (apart_others fun b _ _ => by omega)
  have coded : Writes (fun a => a = shotOutcome n i) (zeroBytes (shotOutcome n i) (shotOutcome n i + 0x10) s)
      (setShotCode n i c (zeroBytes (shotOutcome n i) (shotOutcome n i + 0x10) s)) :=
    (Keeps.refl _).setByte (apart_others fun b _ _ => by omega)
  have zero (a : Nat) (h : shotOutcome n i ≤ a ∧ a < shotOutcome n i + 0x10) :
      Memory.read (zeroBytes (shotOutcome n i) (shotOutcome n i + 0x10) s).mem a = 0 := by
    unfold zeroBytes
    rw [read_zero, if_pos h]
  refine ⟨?_, fun a ha => ?_, ?_, ?_, fun room => ?_⟩
  · have kept := (raised.byteAt (a := shotOutcome n i) (by omega)).trans (trimmed.byteAt (by omega))
    have written := byteAt_setByte_same (a := shotOutcome n i) (n := c.code) m1 (by omega)
    exact kept.trans (written.trans (Nat.mod_eq_of_lt (ShotCode.code_lt c)))
  · rw [raised a (by omega), trimmed a (by omega), coded a (by omega), zero a (by omega)]
  · have kept := raised.byteAt (a := shotOutcome n i + 0x0E) (by omega)
    have written := byteAt_setByte_same (a := shotOutcome n i + 0x0E)
      (n := 8 * (byteAt s (shotOutcome n i + 0x0E) / 8 % 2)) m2 (by omega)
    refine kept.trans (written.trans ?_)
    omega
  · have kept := ((raised.byteAt (a := shotOutcome n i + 0x0F) (by omega)).trans (trimmed.byteAt (by omega))).trans
      (coded.byteAt (by omega))
    refine kept.trans ?_
    unfold byteAt
    rw [zero _ (by omega)]
    rfl
  · have kept : wordAt (writeBareOutcome n i c s) (outcome n + 4) = wordAt s (outcome n + 4) :=
      (writes_writeBareOutcome n i c s).wordAt (by omega) (by omega)
    have written := wordAt_setWord_same (a := outcome n + 4) (n := wordAt (writeBareOutcome n i c s) (outcome n + 4) + 1)
      (memoryOk_writeBareOutcome (n := n) (i := i) (c := c) hm) (by omega)
    refine written.trans ?_
    rw [kept]
    omega

/-! ### What f frame positions of the order cost -/

theorem price_kept {a : Nat} (h : Keeps (within a 2) s t) : price t a = price s a := by
  unfold price
  rw [h.word]

/-- The bytes of the prices. -/
abbrev PriceBytes : Nat → Prop := within 0x5900 0x200

theorem positionPrice_kept (h : Keeps (fun a => a = slotBase n + 7 ∨ PriceBytes a) s t) : positionPrice t n = positionPrice s n := by
  have hp : orderProfile t n = orderProfile s n := h.byteAt (.inl rfl)
  have := byteAt_lt s (slotBase n + 7)
  have bound : orderProfile s n < 256 := this
  have hc : Config.prices = 0x5900 := rfl
  have frame : framePrice t (orderProfile s n) = framePrice s (orderProfile s n) := price_kept fun a ha => h a (by omega)
  have label : labelPrice t = labelPrice s := price_kept fun a ha => h a (by omega)
  unfold positionPrice
  rw [hp, frame, label]

/-- A shot that ends without a frame releases its planned positions (R177). -/
theorem endBareShot_eq (hi : i < 24) :
    endBareShot n i c s = release n (plannedFrames s n i * positionPrice s n) (bareEntered n i c s) := by
  have hn := n.isLt
  have ho := outcome_eq n
  have hs := slotBase_eq n
  have hio := shotOutcome_eq n i
  have bytes := writes_bareEntered n i c s
  have frames : plannedFrames (bareEntered n i c s) n i = plannedFrames s n i :=
    plannedFrames_kept (fun a ha => bytes a (by omega)) hi
  have cost : positionPrice (bareEntered n i c s) n = positionPrice s n := positionPrice_kept fun a ha => bytes a (by omega)
  rw [← frames, ← cost]
  rfl

/-- The bytes that a shot without a frame writes: its outcome, shots done, and those of a release. -/
abbrev BareEndBytes (n : Slot) (i k a : Nat) : Prop := BareBytes n i a ∨ ReleaseBytes n k a

/-- What a shot that ends without a frame leaves: its outcome, and x released (R35, R51, R177). -/
structure BareEnds (n : Slot) (i code x : Nat) (s t : State) : Prop where
  shot : BareShot n i code s t
  pays : Pays n 0 s t
  left : remaining t n = remaining s n - x
  bytes : Writes (BareEndBytes n i (accountIndex s n)) s t

theorem memoryOk_endBareShot (hm : MemoryOk s) : MemoryOk (endBareShot n i c s) := memoryOk_release (memoryOk_bareEntered hm)

theorem bareEnds (hm : MemoryOk s) (hi : i < 24) :
    BareEnds n i c.code (plannedFrames s n i * positionPrice s n) s (endBareShot n i c s) := by
  have hn := n.isLt
  have ho := outcome_eq n
  have hs := slotBase_eq n
  have hio := shotOutcome_eq n i
  have hb := accountBase_eq (accountIndex s n)
  rw [endBareShot_eq hi]
  generalize plannedFrames s n i * positionPrice s n = x
  have entered := writes_bareEntered n i c s
  have m1 : MemoryOk (bareEntered n i c s) := memoryOk_bareEntered hm
  have account : accountIndex (bareEntered n i c s) n = accountIndex s n := entered.byteAt (by omega)
  have left : remaining (bareEntered n i c s) n = remaining s n := entered.longAt (by omega) (by omega) (by omega)
  have freed := writes_release n x (bareEntered n i c s)
  rw [account] at freed
  have before : Pays n 0 s (bareEntered n i c s) := .kept fun a ha => entered a (by omega)
  refine ⟨(bareShot_entered hm).keep fun a ha => freed a (by omega), before.trans (pays_release m1 n x), ?_, ?_⟩
  · rw [remaining_release m1, left]
  · exact (entered.mono fun _ h => .inl h).andThen (freed.mono fun _ h => .inr h)

theorem BareEnds.owed (h : BareEnds n i j x s t) (hx : x ≤ remaining s n) :
    committed t (accountIndex s n) = committed s (accountIndex s n) - x := by
  have := h.pays.owed
  have := h.left
  omega

theorem BareEnds.account (h : BareEnds n i j x s t) : accountIndex t n = accountIndex s n := h.pays.account

/-- The same from a state with the same common memory. -/
theorem BareEnds.after (h : BareEnds n i j x t u) (hm : t.mem = s.mem) : BareEnds n i j x s u := by
  have same : Keeps (fun _ => True) s t := .same (.refl s) hm
  have account : accountIndex t n = accountIndex s n := same.byteAt trivial
  have left : remaining t n = remaining s n := same.longAt trivial trivial trivial
  have bytes := h.bytes
  rw [account] at bytes
  exact ⟨⟨h.shot.code, h.shot.zero, h.shot.trim.trans (by rw [same.byteAt trivial]), h.shot.last,
    fun room => by rw [← same.wordAt trivial trivial] at room ⊢; exact h.shot.done room⟩,
    (Pays.kept fun a _ => same a trivial).trans h.pays, left ▸ h.left, Keeps.trans ((Keeps.refl s).same hm) bytes⟩

theorem BareEnds.keep (h : BareEnds n i j x s t)
    (k : Keeps (fun a => BareBytes n i a ∨ PurseBytes n (accountIndex s n) a) t u) :
    BareShot n i j s u ∧ Pays n 0 s u ∧ remaining u n = remaining s n - x := by
  have hn := n.isLt
  have ho := outcome_eq n
  refine ⟨h.shot.keep fun a ha => k a (.inl ha), h.pays.andKept fun a ha => k a (.inr ha), ?_⟩
  exact (k.longAt (a := outcome n + 0x18) (by omega) (by omega) (by omega)).trans h.left

/-! ### The shots of the order after one has ended -/

theorem BareEnds.codeKept {j' : Nat} (h : BareEnds n i j x s t) (hj : j' < 24) (hne : j' ≠ i % 24) :
    shotCode t n j' = shotCode s n j' := by
  have hn := n.isLt
  have ho := outcome_eq n
  have hio := shotOutcome_eq n i
  have hjo := shotOutcome_eq n j'
  have hb := accountBase_eq (accountIndex s n)
  exact h.bytes.byteAt (by omega)

theorem BareEnds.countKept (h : BareEnds n i j x s t) : shotCount t n = shotCount s n := by
  have hn := n.isLt
  have ho := outcome_eq n
  have hs := slotBase_eq n
  have hio := shotOutcome_eq n i
  have hb := accountBase_eq (accountIndex s n)
  exact h.bytes.wordAt (by omega) (by omega)

/-- Another PENDING shot is next. -/
theorem BareEnds.pending (h : BareEnds n i j x s t) (hi : i < 24) (hp : ∃ k, k < 24 ∧ k < shotCount s n ∧ k ≠ i ∧ shotCode s n k = 0) :
    (nextShot t n).isSome = true := by
  obtain ⟨k, hk, hc, hne, h0⟩ := hp
  exact nextShot_isSome.mpr ⟨k, hk, by rw [h.countKept]; exact hc, (h.codeKept hk (by omega)).trans h0⟩

/-- With no other PENDING shot there is no next one. -/
theorem BareEnds.noPending (h : BareEnds n i j x s t) (hi : i < 24) (hj : j ≠ 0)
    (hp : ¬ ∃ k, k < 24 ∧ k < shotCount s n ∧ k ≠ i ∧ shotCode s n k = 0) : nextShot t n = none := by
  refine nextShot_eq_none.mpr fun k hk hc h0 => ?_
  by_cases hki : k = i
  · exact hj (h.shot.code.symm.trans (hki ▸ h0))
  · rw [h.countKept] at hc
    exact hp ⟨k, hk, hc, hki, (h.codeKept hk (by omega)).symm.trans h0⟩

/-! ### What an order does after a shot (R41, R65) -/

theorem afterShot_waits (he : findOrder s n = some e) (hn : (nextShot s n).isSome = true) :
    afterShot n s = refreshWanted (setSub n .waitingRun s) := by
  unfold afterShot
  rw [he]
  dsimp only
  rw [if_pos hn]

theorem afterShot_finishing (he : findOrder s n = some e) (hn : nextShot s n = none) (ho : 0 < e.outstanding) :
    afterShot n s = refreshWanted (setSub n .finishing s) := by
  unfold afterShot
  rw [he, hn]
  dsimp only
  rw [if_neg (by decide), if_pos ho]

theorem afterShot_completes (he : findOrder s n = some e) (hn : nextShot s n = none) (ho : e.outstanding = 0) :
    afterShot n s = completeCopy n s := by
  unfold afterShot
  rw [he, hn]
  dsimp only
  rw [if_neg (by decide), ho, if_neg (by decide)]

/-- The bytes that an order writes when it goes on: its sub-state and the roll wanted fields. -/
abbrev GoesOnBytes (n : Slot) (a : Nat) : Prop := a = outcome n + 1 ∨ within 0x5D10 2 a

theorem writes_goesOn (n : Slot) (sub : SubState) (s : State) : Writes (GoesOnBytes n) s (refreshWanted (setSub n sub s)) :=
  ((writes_setSub n sub s).mono fun _ h => .inl h).andThen ((writes_refreshWanted _).mono fun _ h => .inr h)

theorem goesOn_control (n : Slot) (sub : SubState) (s : State) : (refreshWanted (setSub n sub s)).control = s.control := by
  rw [refreshWanted_control, setSub_control]

theorem goesOn_labels (n : Slot) (sub : SubState) (s : State) : (refreshWanted (setSub n sub s)).labels = s.labels := by
  rw [refreshWanted_labels, setSub_labels]

theorem goesOn_inOrders (n : Slot) (sub : SubState) (s : State) : InOrders s (refreshWanted (setSub n sub s)) :=
  (inOrders_setSub sub).trans (inOrders_refreshWanted _)

theorem goesOn_orders (n : Slot) (sub : SubState) (s : State) : (refreshWanted (setSub n sub s)).orders =
    { s.orders with runList := s.orders.runList.map fun e => if e.slot = n then { e with sub := sub } else e } := by
  rw [refreshWanted_orders, setSub_orders]

/-! ### The original-present test (R43, R50, R51) -/

/-- The test as the sequencer that waits for it makes it. -/
theorem exec_originalPresentTest {r : ShotRecord} (h : TestDue s r) (present : Bool) :
    exec (.originalPresentTest present) s = .next (testOriginal present { s with originalPresent := present }) := by
  obtain ⟨hl, hp, hr, hn, hs⟩ := h
  have waits : awaitsTest { s with originalPresent := present } = true := by
    unfold awaitsTest mayGoOn
    dsimp only
    rw [hp, hr, hn, hs]
    rfl
  show Host.Outcome.next (if isLive s then
      (if awaitsTest { s with originalPresent := present } then testOriginal present { s with originalPresent := present }
        else { s with originalPresent := present }) else s) = _
  rw [if_pos hl, if_pos waits]

theorem noWithdrawal_noShot (h : s.gate.shot = none) : NoWithdrawal s := fun r hr => by rw [h] at hr; cases hr

theorem recordedHand_clearGate (n : Slot) (s : State) : recordedHand (clearGate s) n = recordedHand s n := rfl

theorem endNoOriginal_eq {r : ShotRecord} (hr : recordedHand s r.slot = .taken) :
    endNoOriginal r s = reachBoundary (afterShot r.slot (clearGate (endBareShot r.slot r.shot .noOriginal s))) := by
  have hand : recordedHand (clearGate (endBareShot r.slot r.shot .noOriginal s)) r.slot = .taken := by
    have kept : recordedHand (endBareShot r.slot r.shot .noOriginal s) r.slot = recordedHand s r.slot := by
      unfold recordedHand
      rw [endBareShot_only_mem]
    exact (recordedHand_clearGate ..).trans (kept.trans hr)
  unfold endNoOriginal orderGoesOn
  rw [if_neg (by rw [hand]; decide)]

theorem memoryOk_clearGate (hm : MemoryOk s) : MemoryOk (clearGate s) := hm

theorem findOrder_clearGate (n : Slot) (s : State) : findOrder (clearGate s) n = findOrder s n := rfl

theorem nextShot_clearGate (n : Slot) (s : State) : nextShot (clearGate s) n = nextShot s n := rfl

/-- Settles O25: what the test finds decides among the metering, the end of the task, and the end of the shot. -/
theorem originalTestGoesOnOrEndsTheWork : Obligations.OriginalTestGoesOnOrEndsTheWork := by
  refine ⟨fun s r present hm h => ⟨fun hne => ?_, fun hp hc => ?_⟩,
    fun s r e x hm h hc hi he hand ha hcount hother hx hrem hcom hdone => ?_⟩
  · have hr := h.2.2.1
    have goes : testOriginal present { s with originalPresent := present }
        = setPhase .meterWait { s with originalPresent := present } := by
      unfold testOriginal
      dsimp only
      rw [hr]
      dsimp only
      by_cases hk : r.calibrate = true
      · rw [if_pos hk, if_neg fun c => hne (c.trans hk.symm)]
      · rw [if_neg hk, if_pos (Bool.eq_true_of_not_eq_false fun c => hne (c.trans (Bool.eq_false_of_not_eq_true hk).symm))]
    exact ⟨_, (exec_originalPresentTest h present).trans (congrArg _ goes), rfl, rfl, rfl⟩
  · subst hp
    have hr := h.2.2.1
    have running := h.2.2.2.2
    have ends : testOriginal true { s with originalPresent := true }
        = finishOrder r.slot .notClear (clearGate { s with originalPresent := true }) := by
      have idle : (finishOrder r.slot .notClear (clearGate { s with originalPresent := true })).gate.shot = none := by
        rw [finishOrder_gate]
        rfl
      have stand : (finishOrder r.slot .notClear (clearGate { s with originalPresent := true })).control.stand = .running := by
        rw [finishOrder_control]
        exact running
      unfold testOriginal endCalibrate
      dsimp only
      rw [hr]
      dsimp only
      rw [hc, if_pos rfl, if_pos rfl]
      exact reachBoundary_calm (noWithdrawal_noShot idle) stand
    refine ⟨_, (exec_originalPresentTest h true).trans (congrArg _ ends), ?_⟩
    have cleared : MemoryOk (clearGate { s with originalPresent := true }) := hm
    have reads := finishReads (n := r.slot) .notClear cleared
    have bytes := writes_finishOrder r.slot .notClear (clearGate { s with originalPresent := true })
    have control := finishOrder_control r.slot .notClear (clearGate { s with originalPresent := true })
    refine ⟨reads.recorded, reads.found, reads.state, reads.sub, ?_, ?_, ?_, ?_, ?_, ?_, ?_⟩
    · rw [finishOrder_gate]
      rfl
    · rw [finishOrder_gate]
      rfl
    · rw [finishOrder_orders]
      rfl
    · rw [finishOrder_orders]
      rfl
    · exact raisesOnly_of_control control
    · rw [control]
      exact running
    · exact Keeps.trans ((Keeps.refl s).same rfl) bytes
  · have hr := h.2.2.1
    have running := h.2.2.2.2
    have hn := r.slot.isLt
    have ho := outcome_eq r.slot
    have hs := slotBase_eq r.slot
    have hio := shotOutcome_eq r.slot r.shot
    have hb := accountBase_eq (accountIndex s r.slot)
    have price : x = plannedFrames s r.slot r.shot * positionPrice s r.slot := hx
    obtain ⟨w, hw⟩ : ∃ w : State, w = { s with originalPresent := false } := ⟨_, rfl⟩
    have memory : w.mem = s.mem := by rw [hw]
    have same : Keeps (fun _ => True) s w := .same (.refl s) memory
    have mw : MemoryOk w := by rw [MemoryOk, memory]; exact hm
    have price' : plannedFrames w r.slot r.shot * positionPrice w r.slot = x := by
      rw [price, plannedFrames_kept (fun a _ => same a trivial) hi, positionPrice_kept fun a _ => same a trivial]
    have bare := (bareEnds (n := r.slot) (c := .noOriginal) mw hi).after memory
    rw [price'] at bare
    obtain ⟨v, hv⟩ : ∃ v, v = endBareShot r.slot r.shot .noOriginal w := ⟨_, rfl⟩
    have onlyV : v = { w with mem := v.mem } := by
      rw [hv]
      exact endBareShot_only_mem ..
    obtain ⟨g, hg⟩ : ∃ g, g = clearGate v := ⟨_, rfl⟩
    have only : g = clearGate { s with originalPresent := false, mem := v.mem } := by
      rw [hw] at onlyV
      rw [hg]
      exact congrArg clearGate onlyV
    have memory : g.mem = v.mem := by rw [hg, clearGate_mem]
    have mg : MemoryOk g := by rw [MemoryOk, memory, hv]; exact memoryOk_endBareShot mw
    rw [← hv] at bare
    have order : findOrder g r.slot = some e := by rw [only]; exact he
    have next : (nextShot g r.slot).isSome = true := by
      obtain ⟨j, hj, hne, h0⟩ := hother
      rw [nextShot_keeps ((Keeps.refl _).same memory)]
      exact bare.pending hi ⟨j, by omega, hj, hne, h0⟩
    have ends : testOriginal false { s with originalPresent := false } = refreshWanted (setSub r.slot .waitingRun g) := by
      have idle : (refreshWanted (setSub r.slot .waitingRun g)).gate.shot = none := by
        rw [refreshWanted_gate, setSub_gate, only]
        rfl
      have stand : (refreshWanted (setSub r.slot .waitingRun g)).control.stand = .running := by
        rw [goesOn_control, only]
        exact running
      have goes : testOriginal false { s with originalPresent := false }
          = endNoOriginal r { s with originalPresent := false } := by
        unfold testOriginal
        dsimp only
        rw [hr]
        dsimp only
        rw [hc]
        rfl
      have taken : recordedHand w r.slot = .taken := by rw [hw]; exact hand
      rw [goes, ← hw, endNoOriginal_eq taken, ← hv, ← hg, afterShot_waits order next]
      exact reachBoundary_calm (noWithdrawal_noShot idle) stand
    refine ⟨_, (exec_originalPresentTest h false).trans (congrArg _ ends), ?_⟩
    have bytes := writes_goesOn r.slot .waitingRun g
    have kept : Writes (GoesOnBytes r.slot) v
        (refreshWanted (setSub r.slot .waitingRun g)) := Keeps.trans ((Keeps.refl _).same memory) bytes
    obtain ⟨shot, pays, left⟩ := bare.keep fun a ha => kept a (by omega)
    have owed := pays.owed
    refine ⟨shot.code, shot.trim, shot.zero, shot.done (by omega), left, by omega, byteAt_sub_refreshed mg, ?_, ?_, ?_, ?_, ?_, ?_⟩
    · rw [refreshWanted_gate, setSub_gate, only]
      rfl
    · rw [refreshWanted_gate, setSub_gate, only]
      rfl
    · rw [goesOn_orders, only]
      rfl
    · unfold KeepsNotice
      rw [goesOn_control, only]
      exact ⟨rfl, rfl, rfl⟩
    · have exposure : (refreshWanted (setSub r.slot .waitingRun g)).exposure = g.exposure := by rw [goesOn_inOrders]
      rw [exposure, only]
      rfl
    · exact (bare.bytes.mono fun a ha => (by omega)).andThen (kept.mono fun a ha => (by omega))

end Sys2Proof.Proofs
end

section
/-! SUPPORT. The end of a CALIBRATE scan (R43, R118, R121). -/

namespace Sys2Proof.Proofs

open Sys2Proof Sys2Proof.Machine Sys2Proof.Safety Sys2Proof.Laws Sys2Proof.Claims

variable {s t u : State} {n m : Slot} {r : ShotRecord} {c l : Rgb}

/-! ### Levels (R120) -/

theorem levelTable_le (j : Nat) : levelTable.getD j 0 ≤ 11 := by
  by_cases h : j < 16
  · have every : ∀ k < 16, levelTable.getD k 0 ≤ 11 := by decide
    exact every j h
  · rw [List.getD_eq_default _ _ (by simp only [levelTable, List.length_cons, List.length_nil]; omega)]
    omega

/-- The level of a code of 12 bits. -/
theorem level_le {k : Nat} (h : k ≤ 4095) : level k ≤ 143 := by
  have top : Nat.log2 k ≤ 11 := by
    by_cases h0 : k = 0
    · subst h0
      decide
    · exact Nat.lt_succ_iff.mp ((Nat.log2_lt h0).mpr (by omega))
  have := levelTable_le (k * 16 / 2 ^ Nat.log2 k - 16)
  unfold level
  dsimp only
  omega

/-! ### The calibration record (R121) -/

theorem wordAt_setWord_apart {a b v : Nat} (h : b + 1 < a ∨ a + 1 < b) : wordAt (setWord a v s) b = wordAt s b :=
  Keeps.word (a := b) ((Keeps.refl s).setWord (apart_within (by omega)))

theorem wordAt_setWord_lt {a v : Nat} (hm : MemoryOk s) (ha : a + 1 < 0x8000) (hv : v < 65536) : wordAt (setWord a v s) a = v :=
  (wordAt_setWord_same hm ha).trans (Nat.mod_eq_of_lt hv)

theorem wordAt_raise (f : Flag) (a : Nat) (s : State) : wordAt (raise f s) a = wordAt s a := rfl

theorem writes_storeCalibration (c l : Rgb) (s : State) : Writes (within 0x5C40 14) s (storeCalibration c l s) := by
  have hc : Config.calibration = 0x5C40 := rfl
  unfold storeCalibration
  refine Keeps.raise ?_
  refine ((((((Keeps.refl s).setWord ?_).setWord ?_).setWord ?_).setWord ?_).setWord ?_).setWord ?_ |>.setWord ?_ <;>
    exact apart_others fun b _ _ => by omega

/-- What the record holds after a qualifying calibration. -/
structure Calibration (c l : Rgb) (t : State) : Prop where
  valid : wordAt t 0x5C40 = 1
  levelRed : wordAt t 0x5C42 = l.red
  levelGreen : wordAt t 0x5C44 = l.green
  levelBlue : wordAt t 0x5C46 = l.blue
  red : wordAt t 0x5C48 = c.red
  green : wordAt t 0x5C4A = c.green
  blue : wordAt t 0x5C4C = c.blue

theorem Calibration.keep (h : Calibration c l t) (k : Keeps (within 0x5C40 14) t u) : Calibration c l u := by
  obtain ⟨h0, h1, h2, h3, h4, h5, h6⟩ := h
  constructor
  · exact (k.wordAt (by omega) (by omega)).trans h0
  · exact (k.wordAt (by omega) (by omega)).trans h1
  · exact (k.wordAt (by omega) (by omega)).trans h2
  · exact (k.wordAt (by omega) (by omega)).trans h3
  · exact (k.wordAt (by omega) (by omega)).trans h4
  · exact (k.wordAt (by omega) (by omega)).trans h5
  · exact (k.wordAt (by omega) (by omega)).trans h6

/-- Each reading and each level is below 65,536. -/
abbrev WordSized (x : Rgb) : Prop := x.red < 65536 ∧ x.green < 65536 ∧ x.blue < 65536

theorem calibration_stored (hm : MemoryOk s) (hc : WordSized c) (hl : WordSized l) : Calibration c l (storeCalibration c l s) := by
  obtain ⟨cr, cg, cb⟩ := hc
  obtain ⟨lr, lg, lb⟩ := hl
  have m1 := memoryOk_setWord (a := 0x5C48) (n := c.red) hm
  have m2 := memoryOk_setWord (a := 0x5C4A) (n := c.green) m1
  have m3 := memoryOk_setWord (a := 0x5C4C) (n := c.blue) m2
  have m4 := memoryOk_setWord (a := 0x5C42) (n := l.red) m3
  have m5 := memoryOk_setWord (a := 0x5C44) (n := l.green) m4
  have m6 := memoryOk_setWord (a := 0x5C46) (n := l.blue) m5
  have stored : storeCalibration c l s = raise .calibrated (setWord 0x5C40 1 (setWord 0x5C46 l.blue (setWord 0x5C44 l.green
      (setWord 0x5C42 l.red (setWord 0x5C4C c.blue (setWord 0x5C4A c.green (setWord 0x5C48 c.red s))))))) := by
    unfold storeCalibration Config.calibration
    simp only [Nat.reduceAdd]
  rw [stored]
  constructor <;> rw [wordAt_raise]
  · exact wordAt_setWord_lt m6 (by omega) (by omega)
  · iterate 3 rw [wordAt_setWord_apart (by omega)]
    exact wordAt_setWord_lt m3 (by omega) lr
  · iterate 2 rw [wordAt_setWord_apart (by omega)]
    exact wordAt_setWord_lt m4 (by omega) lg
  · rw [wordAt_setWord_apart (by omega)]
    exact wordAt_setWord_lt m5 (by omega) lb
  · iterate 6 rw [wordAt_setWord_apart (by omega)]
    exact wordAt_setWord_lt hm (by omega) cr
  · iterate 5 rw [wordAt_setWord_apart (by omega)]
    exact wordAt_setWord_lt m1 (by omega) cg
  · iterate 4 rw [wordAt_setWord_apart (by omega)]
    exact wordAt_setWord_lt m2 (by omega) cb

theorem writes_writeOpenLevels (n : Slot) (l : Rgb) (s : State) :
    Writes (within (shotOutcome n 0 + 8) 3) s (writeOpenLevels n l s) := by
  unfold writeOpenLevels
  refine (((Keeps.refl s).setByte ?_).setByte ?_).setByte ?_ <;> exact apart_others fun b _ _ => by omega

/-- What stands in the densities of the task's shot outcome 0. -/
structure OpenLevels (n : Slot) (l : Rgb) (t : State) : Prop where
  red : byteAt t (shotOutcome n 0 + 8) = l.red
  green : byteAt t (shotOutcome n 0 + 9) = l.green
  blue : byteAt t (shotOutcome n 0 + 10) = l.blue

theorem OpenLevels.keep (h : OpenLevels n l t) (k : Keeps (within (shotOutcome n 0 + 8) 3) t u) : OpenLevels n l u :=
  ⟨(k.byteAt (by omega)).trans h.red, (k.byteAt (by omega)).trans h.green, (k.byteAt (by omega)).trans h.blue⟩

theorem openLevels_written (hm : MemoryOk s) (hr : l.red < 256) (hg : l.green < 256) (hb : l.blue < 256) :
    OpenLevels n l (writeOpenLevels n l s) := by
  have hn := n.isLt
  have ho := shotOutcome_eq n 0
  have hsize : Config.memorySize = 0x8000 := rfl
  have m1 := memoryOk_setByte (a := shotOutcome n 0 + 8) (n := l.red) hm
  have m2 := memoryOk_setByte (a := shotOutcome n 0 + 9) (n := l.green) m1
  have written : writeOpenLevels n l s = setByte (shotOutcome n 0 + 10) l.blue (setByte (shotOutcome n 0 + 9) l.green
      (setByte (shotOutcome n 0 + 8) l.red s)) := rfl
  rw [written]
  constructor
  · rw [byteAt_setByte_other m2 (by omega), byteAt_setByte_other m1 (by omega), byteAt_setByte_same hm (by omega)]
    omega
  · rw [byteAt_setByte_other m2 (by omega), byteAt_setByte_same m1 (by omega)]
    omega
  · rw [byteAt_setByte_same m2 (by omega)]
    omega

/-! ### The end of the task (R43) -/

theorem qualifies_iff : qualifies l = true ↔ 96 ≤ l.red ∧ 96 ≤ l.green ∧ 96 ≤ l.blue := by
  unfold qualifies
  simp only [Bool.and_eq_true, decide_eq_true_eq, and_assoc]
  exact Iff.rfl

/-- The record is stored when the calibration qualifies. -/
def calibrationStored (c l : Rgb) (s : State) : State := if qualifies l then storeCalibration c l s else s

/-- The scan has been computed, and nothing of its order has been written yet. -/
def scanComputed (n : Slot) (c l : Rgb) (s : State) : State := clearGate (endScan (writeOpenLevels n l (calibrationStored c l s)))

theorem memoryOk_calibrationStored (hm : MemoryOk s) : MemoryOk (calibrationStored c l s) := by
  unfold calibrationStored
  split
  · exact (Quiet.storeCalibration (Quiet.refl s)).memory hm
  · exact hm

theorem inOrders_calibrationStored (c l : Rgb) (s : State) : InOrders s (calibrationStored c l s) := by
  unfold calibrationStored
  split
  · exact InOrders.trans (.memory (only_mem_trans (only_mem_trans (only_mem_trans (only_mem_trans (only_mem_trans (only_mem_trans
      (setWord_only_mem _ _ _) (setWord_only_mem _ _ _)) (setWord_only_mem _ _ _)) (setWord_only_mem _ _ _))
      (setWord_only_mem _ _ _)) (setWord_only_mem _ _ _)) (setWord_only_mem _ _ _))) (inOrders_raise .calibrated _)
  · exact .refl s

/-- What the computation of the scan leaves, but for common memory, the flags and the gate. -/
structure ScanEnds (s t : State) : Prop where
  shot : t.gate.shot = none
  phase : t.gate.phase = .idle
  scan : t.exposure.scan = .idle
  lamp : t.lamp = s.lamp

theorem scanEnds (n : Slot) (c l : Rgb) (s : State) : ScanEnds s (scanComputed n c l s) := by
  have levels : writeOpenLevels n l (calibrationStored c l s) = { calibrationStored c l s with
      mem := (writeOpenLevels n l (calibrationStored c l s)).mem } :=
    only_mem_trans (only_mem_trans (setByte_only_mem _ _ _) (setByte_only_mem _ _ _)) (setByte_only_mem _ _ _)
  refine ⟨rfl, rfl, rfl, ?_⟩
  unfold scanComputed
  rw [clearGate_lamp, endScan_lamp, levels]
  rw [inOrders_calibrationStored c l s]

theorem scanComputed_control (n : Slot) (c l : Rgb) (s : State) :
    (scanComputed n c l s).control = (calibrationStored c l s).control := by
  unfold scanComputed writeOpenLevels
  rw [clearGate_control, endScan_control, setByte_control, setByte_control, setByte_control]

theorem scanComputed_mem (n : Slot) (c l : Rgb) (s : State) :
    (scanComputed n c l s).mem = (writeOpenLevels n l (calibrationStored c l s)).mem := by
  unfold scanComputed
  rw [clearGate_mem, endScan_mem]

theorem writes_scanComputed (n : Slot) (c l : Rgb) (s : State) :
    Writes (within (shotOutcome n 0 + 8) 3) (calibrationStored c l s) (scanComputed n c l s) :=
  (writes_writeOpenLevels n l (calibrationStored c l s)).same (scanComputed_mem n c l s)

theorem openLevels_scanComputed (hm : MemoryOk s) (hr : l.red < 256) (hg : l.green < 256) (hb : l.blue < 256) :
    OpenLevels n l (scanComputed n c l s) :=
  (openLevels_written (memoryOk_calibrationStored hm) hr hg hb).keep ((Keeps.refl _).same (scanComputed_mem n c l s))

theorem memoryOk_scanComputed (hm : MemoryOk s) : MemoryOk (scanComputed n c l s) := by
  rw [MemoryOk, scanComputed_mem]
  exact (Quiet.writeOpenLevels (Quiet.refl (calibrationStored c l s))).memory (memoryOk_calibrationStored hm)

/-- The METER pulse of a CALIBRATE scan ends. -/
theorem exec_meterPulseEnd_calibrate (h : MeterPulseRuns s r) (hk : r.calibrate = true) (hc : c = scanReadings s.exposure)
    (hl : l = scanLevels s.exposure) :
    exec .meterPulseEnd s = .next (finishOrder r.slot (if qualifies l then .complete else .failedDim)
      (scanComputed r.slot c l (endPulse s))) := by
  obtain ⟨hm, hlit, hr, hs⟩ := h
  have computed : compute (endPulse s) = reachBoundary (finishOrder r.slot (if qualifies l then .complete else .failedDim)
      (scanComputed r.slot c l (endPulse s))) := by
    unfold compute
    rw [endPulse_gate, hr]
    dsimp only
    rw [if_pos hk, hc, hl]
    rfl
  have ends := scanEnds r.slot c l (endPulse s)
  have stand : (scanComputed r.slot c l (endPulse s)).control.stand = .running := by
    rw [scanComputed_control]
    unfold calibrationStored storeCalibration
    split
    · simp only [raise_stand, setWord_control, endPulse_control]
      exact hs
    · exact hs
  show Host.Outcome.next (if s.lamp.mode = .meterOn then
      (if (endPulse s).exposure.scan = .lit then compute (endPulse s) else endPulse s) else s) = _
  rw [if_pos hm, if_pos (c := (endPulse s).exposure.scan = .lit) hlit, computed, reachBoundary_calm]
  · exact noWithdrawal_noShot (by rw [finishOrder_gate]; exact ends.shot)
  · rw [finishOrder_control]
    exact stand

/-- Settles O32: the end of the scan stores its levels, and the record too when they qualify, and ends the task. -/
theorem calibrationQualifiesOrIsDim : Obligations.CalibrationQualifiesOrIsDim := by
  intro s r l c hm h hk hc hl hr hg hb
  have hn := r.slot.isLt
  have ho := outcome_eq r.slot
  have hs := slotBase_eq r.slot
  have hio := shotOutcome_eq r.slot 0
  have lr : l.red ≤ 143 := by rw [hl]; exact level_le hr
  have lg : l.green ≤ 143 := by rw [hl]; exact level_le hg
  have lb : l.blue ≤ 143 := by rw [hl]; exact level_le hb
  have m1 : MemoryOk (endPulse s) := hm
  have ends := scanEnds r.slot c l (endPulse s)
  have mc : MemoryOk (scanComputed r.slot c l (endPulse s)) := memoryOk_scanComputed m1
  have dark := writes_scanComputed r.slot c l (endPulse s)
  have run := exec_meterPulseEnd_calibrate (c := c) (l := l) h hk hc (by rw [hl, hc]; rfl)
  generalize hstate : (if qualifies l then OrderState.complete else .failedDim) = o at run
  have reads := finishReads (n := r.slot) o mc
  have bytes := writes_finishOrder r.slot o (scanComputed r.slot c l (endPulse s))
  have control := (finishOrder_control r.slot o (scanComputed r.slot c l (endPulse s))).trans
    (raise_control_of (scanComputed_control ..))
  have flags := raisesOnly_finishOrder r.slot o (scanComputed r.slot c l (endPulse s))
  have lamp : (finishOrder r.slot o (scanComputed r.slot c l (endPulse s))).lamp = (endPulse s).lamp := by
    rw [← ends.lamp, finishOrder_only]
  have exposure : (finishOrder r.slot o (scanComputed r.slot c l (endPulse s))).exposure.scan = .idle := by
    rw [← ends.scan, finishOrder_only]
  have levels := (openLevels_scanComputed (n := r.slot) (c := c) m1 (by omega : l.red < 256) (by omega) (by omega)).keep
    (u := finishOrder r.slot o (scanComputed r.slot c l (endPulse s))) fun a ha => bytes a (by omega)
  refine ⟨_, run, ⟨by rw [lamp]; rfl, by rw [lamp]; rfl, by rw [lamp]; rfl, by rw [lamp]; rfl⟩, exposure, ?_, ?_, levels.red,
    levels.green, levels.blue, reads.recorded, reads.found, flags.1, ?_, ?_⟩
  · rw [finishOrder_gate]
    exact ends.phase
  · rw [finishOrder_gate]
    exact ends.shot
  · by_cases good : 96 ≤ l.red ∧ 96 ≤ l.green ∧ 96 ≤ l.blue
    · have kept : calibrationStored c l (endPulse s) = storeCalibration c l (endPulse s) := if_pos (qualifies_iff.mpr good)
      rw [kept] at dark control
      have record := (calibration_stored (c := c) (l := l) m1 ⟨by omega, by omega, by omega⟩ ⟨by omega, by omega, by omega⟩).keep
        (u := finishOrder r.slot o (scanComputed r.slot c l (endPulse s)))
        fun a ha => (bytes a (by omega)).trans (dark a (by omega))
      rw [if_pos good]
      refine ⟨?_, ?_, record.valid, record.levelRed, record.levelGreen, record.levelBlue, record.red, record.green, record.blue⟩
      · rw [if_pos (qualifies_iff.mpr good)] at hstate
        subst hstate
        exact reads.state
      · have raised := (raisesOnly_of_control (s := storeCalibration c l (endPulse s)) control).2.2 .calibrated (by decide)
        exact raised.1.trans (flag_raised _ .calibrated).1
    · have kept : calibrationStored c l (endPulse s) = endPulse s := if_neg fun q => good (qualifies_iff.mp q)
      rw [kept] at dark control
      rw [if_neg good]
      refine ⟨?_, ?_, fun a ha => (bytes a (by omega)).trans (dark a (by omega))⟩
      · rw [if_neg fun q => good (qualifies_iff.mp q)] at hstate
        subst hstate
        exact reads.state
      · exact ((raisesOnly_of_control (s := endPulse s) control).2.2 .calibrated (by decide)).1
  · have stored : Writes (within 0x5C40 14) s (calibrationStored c l (endPulse s)) :=
      Keeps.ite (fun _ => Keeps.trans ((Keeps.refl s).same rfl) (writes_storeCalibration c l (endPulse s))) fun _ => .same (.refl s) rfl
    exact ((stored.mono fun a ha => (by omega)).andThen (dark.mono fun a ha => (by omega))).andThen
      (bytes.mono fun a ha => (by omega))

end Sys2Proof.Proofs
end

section
/-! SUPPORT. The printer line and the printer states: what each operation of the Label Unit changes, and what a read finds after it
(R158 to R161, R164 to R166). -/

namespace Sys2Proof.Proofs

open Sys2Proof Sys2Proof.Machine Sys2Proof.Safety Sys2Proof.Laws Sys2Proof.Claims

variable {s t u : State} {n m : Slot} {p : PrinterState} {e : LabelEntry} {rest : List LabelEntry}

/-! ### The parts that may change -/

/-- Only common memory and the Label Unit may differ. -/
def InLabels (s t : State) : Prop := t = { s with mem := t.mem, labels := t.labels }

namespace InLabels

theorem refl (s : State) : InLabels s s := rfl

theorem trans (h : InLabels s t) (k : InLabels t u) : InLabels s u := by
  unfold InLabels at *
  rw [k, h]

theorem orders (h : InLabels s t) : t.orders = s.orders := by rw [h]

theorem control (h : InLabels s t) : t.control = s.control := by rw [h]

theorem findOrder (h : InLabels s t) : findOrder t n = findOrder s n := findOrder_of_orders (by rw [h.orders])

end InLabels

/-! ### The line (R158, R160) -/

theorem inquires_iff : inquires s.labels.printer = true ↔ Inquires s := by
  unfold inquires Inquires
  cases s.labels.printer <;> simp

theorem sendInquire_idle (h : s.labels.transmitter = []) :
    sendInquire s = { s with labels := { s.labels with
      transmitter := [.inquire]
      inquiryTimer := if inquires s.labels.printer = true then some 20000 else s.labels.inquiryTimer } } := by
  unfold sendInquire
  rw [if_pos h]
  unfold setLine
  simp only [List.head?_cons, true_and]
  rfl

theorem sendInquire_busy {x : Transmission} {l : List Transmission} (h : s.labels.transmitter = x :: l) :
    sendInquire s = { s with labels := { s.labels with
      inquiryTimer := none, transmitter := x :: addMember l .inquire } } := by
  unfold sendInquire
  rw [if_neg (by rw [h]; exact List.cons_ne_nil _ _), h]
  rfl

/-- An INQUIRE that is asked for is on the line or waits for it, and nothing but the line and the inquiry timer changes. -/
theorem sendInquire_line (s : State) : ∃ l i, Transmission.inquire ∈ l
    ∧ sendInquire s = { s with labels := { s.labels with transmitter := l, inquiryTimer := i } } := by
  cases h : s.labels.transmitter with
  | nil => exact ⟨_, _, .head _, sendInquire_idle h⟩
  | cons x l => exact ⟨_, _, .tail _ (mem_addMember.mpr (.inr rfl)), sendInquire_busy h⟩

/-! ### The printer states (R160, R161) -/

theorem enterPrinter_inquiring (h : inquires p = true) (s : State) :
    enterPrinter p s = report 0x09 p.code { s with labels := { s.labels with printer := p, replyTimer := none } } := by
  unfold enterPrinter
  simp only [h, if_true]

theorem PrinterState.code_lt (p : PrinterState) : p.code < 256 := by cases p <;> decide

theorem memoryOk_enterPrinter (hm : MemoryOk s) : MemoryOk (enterPrinter p s) := memoryOk_setByte hm

theorem reportByte_enterPrinter (hm : MemoryOk s) : reportByte (enterPrinter p s) 0x09 = p.code :=
  (byteAt_setByte_same hm (by decide)).trans (Nat.mod_eq_of_lt (PrinterState.code_lt p))

theorem writes_enterPrinter (p : PrinterState) (s : State) : Writes (fun a => a = 0x5D09) s (enterPrinter p s) :=
  ((Keeps.refl s).same (u := { s with labels := (enterPrinter p s).labels }) rfl).report (a := 0x09) (apart_others fun b _ _ => by
    have : Config.report = 0x5D00 := rfl
    omega)

/-- What an entry of UNKNOWN, STOCK_OUT or LOST leaves: the printer in that state, the reply timer stopped, an INQUIRE asked for, and
the rest of the Label Unit as it was. -/
structure EntersInquiring (p : PrinterState) (s t : State) : Prop where
  labels : ∃ l i, Transmission.inquire ∈ l
    ∧ t.labels = { s.labels with printer := p, replyTimer := none, transmitter := l, inquiryTimer := i }
  state : reportByte t 0x09 = p.code
  bytes : Writes (fun a => a = 0x5D09) s t
  only : InLabels s t
  memory : MemoryOk t

theorem entersInquiring (hm : MemoryOk s) (h : inquires p = true) : EntersInquiring p s (enterInquiring p s) := by
  obtain ⟨l, i, hl, sent⟩ := sendInquire_line (enterPrinter p s)
  have entered := enterPrinter_inquiring h s
  have memory : (enterInquiring p s).mem = (enterPrinter p s).mem := (congrArg State.mem sent).trans rfl
  refine ⟨⟨l, i, hl, ?_⟩, ?_, ?_, ?_, ?_⟩
  · refine (congrArg State.labels sent).trans ?_
    rw [entered]
    rfl
  · exact (((Keeps.refl (K := fun _ => True) _).same memory).byteAt trivial).trans (reportByte_enterPrinter hm)
  · exact (writes_enterPrinter p s).same memory
  · have inner : InLabels s (enterPrinter p s) := rfl
    refine inner.trans ?_
    unfold enterInquiring
    rw [sent]
    rfl
  · unfold enterInquiring
    rw [sent]
    exact memoryOk_enterPrinter hm

/-- What an entry of READY leaves with a queue: the head on its way and the printer PRINTING, or the printer READY (R161). -/
structure EntersReady (s t : State) : Prop where
  empty : s.labels.queue = [] → ∃ l, t.labels = { s.labels with
    printer := .ready, replyTimer := none, inquiryTimer := none, transmitter := l }
  head : ∀ e rest, s.labels.queue = e :: rest → ∃ l, t.labels = { s.labels with
    printer := .printing, replyTimer := none, inquiryTimer := none, resend := false
    transmitter := l ++ [.label (labelMessage e)] }
  state : reportByte t 0x09 = if s.labels.queue = [] then 1 else 2
  bytes : Writes (fun a => a = 0x5D09) s t
  only : InLabels s t
  memory : MemoryOk t

theorem enterReady_empty (h : s.labels.queue = []) : enterReady s = enterPrinter .ready s := by
  have queue : (enterPrinter .ready s).labels.queue = [] := h
  unfold enterReady trySend
  split
  · next heq => rw [queue] at heq; cases heq
  · rfl

/-- The printer PRINTING with the resend mark clear. -/
def startPrinting (s : State) : State :=
  let t := enterPrinter .printing s
  { t with labels := { t.labels with resend := false } }

theorem enterReady_head (h : s.labels.queue = e :: rest) :
    enterReady s = sendMessage e (startPrinting (enterPrinter .ready s)) := by
  have queue : (enterPrinter .ready s).labels.queue = e :: rest := h
  have printer : (enterPrinter .ready s).labels.printer = .ready := rfl
  unfold enterReady trySend
  rw [queue, printer]
  rfl

theorem entersReady (hm : MemoryOk s) : EntersReady s (enterReady s) := by
  have ok : MemoryOk (enterPrinter .ready s) := memoryOk_enterPrinter hm
  cases h : s.labels.queue with
  | nil =>
    rw [enterReady_empty h]
    refine ⟨fun _ => ⟨_, rfl⟩, fun e rest hq => (by rw [h] at hq; cases hq), ?_, writes_enterPrinter _ s, rfl, ok⟩
    rw [if_pos h]
    exact reportByte_enterPrinter hm
  | cons e rest =>
    have written : Writes (fun a => a = 0x5D09) s (enterPrinter .printing (enterPrinter .ready s)) :=
      (writes_enterPrinter .ready s).andThen (writes_enterPrinter .printing _)
    rw [enterReady_head h]
    refine ⟨fun hq => (by rw [h] at hq; cases hq), fun f l hq => ?_, ?_, written.same rfl, rfl, memoryOk_enterPrinter (p := .printing) ok⟩
    · rw [h] at hq
      obtain ⟨rfl, -⟩ := List.cons.inj hq
      exact ⟨_, rfl⟩
    · rw [h, if_neg (List.cons_ne_nil _ _)]
      exact reportByte_enterPrinter (p := .printing) ok

/-! ### The bytes on the line (R158) -/

theorem bytesOnLine_head {x : Transmission} (h : s.labels.transmitter.head? = some x) : bytesOnLine s = transmissionBytes x := by
  obtain ⟨l, hl⟩ := List.head?_eq_some_iff.mp h
  unfold bytesOnLine
  rw [hl]

theorem messageBody_length (e : LabelEntry) :
    (messageBody e).length = e.line1.length + e.line2.length + e.line3.length + 6 := by
  simp [messageBody]
  omega

theorem labelMessage_length (e : LabelEntry) :
    (labelMessage e).length = e.line1.length + e.line2.length + e.line3.length + 7 := by
  unfold labelMessage
  rw [List.length_append, messageBody_length]
  rfl

/-! ### Receiving (R159) -/

theorem receiveByte_idle (c : Byte) (h : s.labels.receiver = .idle) :
    receiveByte c s = if c = 0x06 then setReceiver .awaitingAck (holdByte none s)
      else if c = 0x15 then setReceiver .awaitingNak (holdByte none s)
      else if c = 0x13 then takeReady (holdByte none s) else holdByte none s := by
  unfold receiveByte readHeld holdByte
  simp only [h]

theorem receiveByte_awaitingAck (c : Byte) (h : s.labels.receiver = .awaitingAck) :
    receiveByte c s = takeAck c (setReceiver .idle (holdByte none s)) := by
  unfold receiveByte readHeld holdByte
  simp only [h]

theorem receiveByte_awaitingNak (c : Byte) (h : s.labels.receiver = .awaitingNak) :
    receiveByte c s = takeNak c (setReceiver .idle (holdByte none s)) := by
  unfold receiveByte readHeld holdByte
  simp only [h]

theorem memoryOk_discardByte (hm : MemoryOk s) : MemoryOk (discardByte s) := memoryOk_setWord hm

/-- What a discarded byte leaves: the receiver idle, and the count one higher, to 65535 at most. -/
structure Discards (s t : State) : Prop where
  labels : t.labels = { s.labels with receiver := .idle, errors := min 65535 (s.labels.errors + 1) }
  count : wordAt t 0x5D14 = t.labels.errors
  bytes : Writes (within 0x5D14 2) s t
  only : InLabels s t
  memory : MemoryOk t

theorem discards (hm : MemoryOk s) : Discards s (discardByte s) := by
  have hsize : Config.memorySize = 0x8000 := rfl
  refine ⟨rfl, ?_, ?_, rfl, memoryOk_discardByte hm⟩
  · refine (wordAt_setWord_same (a := 0x5D14) hm (by omega)).trans ?_
    exact Nat.mod_eq_of_lt (by omega)
  · exact ((Keeps.refl s).same (u := { s with labels := (discardByte s).labels }) rfl).setWord (a := 0x5D14)
      (apart_others fun b _ _ => by omega)

end Sys2Proof.Proofs
end

section
/-! SUPPORT. Promotions of WAITING labels, labels that end SKIPPED, and what a settled label does to its order (R41, R157, R167). -/

namespace Sys2Proof.Proofs

open Sys2Proof Sys2Proof.Machine Sys2Proof.Safety Sys2Proof.Laws Sys2Proof.Claims

variable {s t u : State} {n m : Slot} {sh x : Sheet} {k j : Nat} {e o : OrderEntry} {h : LabelEntry} {rest : List LabelEntry}

/-! ### Promotions (R157) -/

/-- The bytes that promotions write: frames' states, the queue's count and the waiting count. -/
abbrev PromoteBytes (a : Nat) : Prop := FrameByte a ∨ a = 0x5D0A ∨ a = 0x5D0B

/-- What promotions change: the queue, and WAITING labels that become QUEUED. -/
structure Promotes (s t : State) : Prop where
  labels : t.labels = { s.labels with queue := t.labels.queue }
  codes : ∀ sh k, labelCode s sh k ≠ 1 → labelCode t sh k = labelCode s sh k
  bytes : Writes PromoteBytes s t
  only : InLabels s t
  memory : MemoryOk t

namespace Promotes

theorem refl (hm : MemoryOk s) : Promotes s s := ⟨rfl, fun _ _ _ => rfl, .refl s, .refl s, hm⟩

theorem trans (h : Promotes s t) (k : Promotes t u) : Promotes s u := by
  refine ⟨?_, fun sh j hw => ?_, h.bytes.andThen k.bytes, h.only.trans k.only, k.memory⟩
  · rw [k.labels, h.labels]
  · have first := h.codes sh j hw
    exact (k.codes sh j (by rw [first]; exact hw)).trans first

end Promotes

theorem earliestWaiting_waits {y : Sheet × Nat} (h : earliestWaiting s = some y) : labelCode s y.1 y.2 = 1 := by
  have kept : ∀ (xs : List (Sheet × Nat)) (b : Option (Sheet × Nat)), (∀ x ∈ xs, labelCode s x.1 x.2 = 1) →
      (∀ x, b = some x → labelCode s x.1 x.2 = 1) → ∀ x, xs.foldl (earlierFrame s) b = some x → labelCode s x.1 x.2 = 1 := by
    intro xs
    induction xs with
    | nil => exact fun b _ hb => hb
    | cons z zs ih =>
      refine fun b hz hb => ih _ (fun x hx => hz x (.tail _ hx)) fun x hx => ?_
      unfold earlierFrame at hx
      split at hx
      · exact Option.some.inj hx ▸ hz z (.head _)
      · next y =>
        split at hx
        · exact Option.some.inj hx ▸ hz z (.head _)
        · exact hb x hx
  refine kept _ none (fun x hx => ?_) (fun x hx => by cases hx) y h
  exact of_decide_eq_true (List.mem_filter.mp hx).2

theorem queued_labels (w : Nat) (sh : Sheet) (k : Nat) (l : LabelState) (q : List LabelEntry) (s : State) :
    (setWaitingCount w (setLabelState sh k l (setQueue q s))).labels = { s.labels with queue := q } := rfl

theorem queued_inLabels (w : Nat) (sh : Sheet) (k : Nat) (l : LabelState) (q : List LabelEntry) (s : State) :
    InLabels s (setWaitingCount w (setLabelState sh k l (setQueue q s))) := rfl

theorem promotes_one (hm : MemoryOk s) : Promotes s (promoteOne s) := by
  have hr : Config.report = 0x5D00 := rfl
  unfold promoteOne
  split
  · split
    · next sh k hw =>
      have waits := earliestWaiting_waits hw
      dsimp only at waits
      have queued : MemoryOk (setQueue (s.labels.queue ++ [composeLabel s sh k]) s) := memoryOk_setByte hm
      have lined : Keeps FrameByte s (setQueue (s.labels.queue ++ [composeLabel s sh k]) s) :=
        (Keeps.refl s).report (apart_frameByte fun b _ _ => by omega)
      refine ⟨?_, fun x j hx => ?_, ?_, ?_, memoryOk_setByte (memoryOk_setLabelState queued)⟩
      · unfold appendLabel
        rw [queued_labels]
      · have apart : frameRecord x j ≠ frameRecord sh k := fun c => hx (by
          unfold labelCode at waits ⊢
          rw [c]
          exact waits)
        have counted : Keeps FrameByte (appendLabel sh k s) (setWaitingCount (waitingCount s - 1) (appendLabel sh k s)) :=
          (Keeps.refl _).report (apart_frameByte fun b _ _ => by omega)
        refine (labelCode_kept counted x j).trans ?_
        exact ((labelCode_setLabelState queued .queued).trans (if_neg apart)).trans (labelCode_kept lined x j)
      · have lined' : Writes PromoteBytes s (setQueue (s.labels.queue ++ [composeLabel s sh k]) s) :=
          (Keeps.refl s).report (apart_others fun b _ _ => by omega)
        refine Keeps.report (a := 0x0B) (Keeps.setByte lined' (apart_others fun b _ _ => ?_)) (apart_others fun b _ _ => by omega)
        exact .inl ⟨sh, k, by omega⟩
      · unfold appendLabel
        exact queued_inLabels ..
    · exact .refl hm
  · exact .refl hm

theorem promotes_repeat (i : Nat) (hm : MemoryOk s) : Promotes s (repeatN promoteOne i s) := by
  induction i generalizing s with
  | zero => exact .refl hm
  | succ i ih => exact (promotes_one hm).trans (ih (promotes_one hm).memory)

theorem promotes (hm : MemoryOk s) : Promotes s (promoteLabels s) := promotes_repeat _ hm

/-- With no label WAITING nothing is promoted. -/
theorem promoteLabels_idle (h : waitingCount s = 0) : promoteLabels s = s := by
  have one : promoteOne s = s := if_neg fun c => by omega
  have all : ∀ i, repeatN promoteOne i s = s := fun i => by
    induction i with
    | zero => rfl
    | succ i ih =>
      show repeatN promoteOne i (promoteOne s) = s
      rw [one, ih]
  exact all _

/-! ### A label that ends SKIPPED (R167) -/

/-- The bytes that a skipped label of a frame writes when its order has account i. -/
abbrev SkipBytes (sh : Sheet) (k : Nat) (n : Slot) (i a : Nat) : Prop :=
  a = frameRecord sh k ∨ within (outcome n + 0x0C) 2 a ∨ ReleaseBytes n i a

theorem writes_setLabelState (sh : Sheet) (k : Nat) (l : LabelState) (s : State) :
    Writes (fun a => a = frameRecord sh k) s (setLabelState sh k l s) :=
  (Keeps.refl s).setByte (apart_others fun b _ _ => by omega)

theorem frameSlot_setLabelState (l : LabelState) : frameSlot (setLabelState sh k l s) x j = frameSlot s x j := by
  have h1 := frameRecord_eq sh k
  have h2 := frameRecord_eq x j
  unfold frameSlot
  simp only [(writes_setLabelState sh k l s).byteAt (a := frameRecord x j + 1) (by omega)]

theorem accountIndex_setLabelState (l : LabelState) : accountIndex (setLabelState sh k l s) n = accountIndex s n := by
  have hn := n.isLt
  have h1 := frameRecord_eq sh k
  have h2 := slotBase_eq n
  exact (writes_setLabelState sh k l s).byteAt (by omega)

/-- What the end of a label leaves that fails or is skipped: its frame's label state, the order's count of such labels, and its price
released. -/
structure EndsUnprinted (sh : Sheet) (k : Nat) (n : Slot) (code x : Nat) (s t : State) : Prop where
  code : labelCode t sh k = code
  count : wordAt s (outcome n + 0x0C) < 65535 → wordAt t (outcome n + 0x0C) = wordAt s (outcome n + 0x0C) + 1
  left : remaining t n = remaining s n - x
  pays : Pays n 0 s t
  bytes : Writes (SkipBytes sh k n (accountIndex s n)) s t
  only : t = { s with mem := t.mem }
  memory : MemoryOk t

theorem endsUnprinted (hm : MemoryOk s) (l : LabelState) (n : Slot) (x : Nat) :
    EndsUnprinted sh k n l.code x s (raiseWord (outcome n + 0x0C) (release n x (setLabelState sh k l s))) := by
  have hn := n.isLt
  have ho := outcome_eq n
  have hs := slotBase_eq n
  have hb := accountBase_eq (accountIndex s n)
  have hi := sheetIndex_lt sh
  have hf := frameRecord_eq sh k
  have hsize : Config.memorySize = 0x8000 := rfl
  have m1 : MemoryOk (setLabelState sh k l s) := memoryOk_setLabelState hm
  have marked := writes_setLabelState sh k l s
  have freed := writes_release n x (setLabelState sh k l s)
  rw [accountIndex_setLabelState] at freed
  have raised : Writes (within (outcome n + 0x0C) 2) (release n x (setLabelState sh k l s))
      (raiseWord (outcome n + 0x0C) (release n x (setLabelState sh k l s))) :=
    (Keeps.refl _).setWord (apart_others fun b _ _ => by omega)
  have count : wordAt (release n x (setLabelState sh k l s)) (outcome n + 0x0C) = wordAt s (outcome n + 0x0C) :=
    (freed.wordAt (by omega) (by omega)).trans (marked.wordAt (by omega) (by omega))
  have left : remaining (setLabelState sh k l s) n = remaining s n := marked.longAt (by omega) (by omega) (by omega)
  refine ⟨?_, fun room => ?_, ?_, ?_, ?_, ?_, memoryOk_setWord (memoryOk_release m1)⟩
  · have kept : Keeps FrameByte (setLabelState sh k l s) (raiseWord (outcome n + 0x0C) (release n x (setLabelState sh k l s))) :=
      ((Keeps.refl _).release (apart_frameByte fun b _ _ => by omega) (apart_frameByte fun b _ _ => by
        rw [accountBase_eq] at *; omega)).setWord (apart_frameByte fun b _ _ => by omega)
    exact (labelCode_kept kept sh k).trans ((labelCode_setLabelState hm l).trans (if_pos rfl))
  · refine (wordAt_setWord_same (memoryOk_release m1) (by omega)).trans ?_
    rw [count]
    exact Nat.mod_eq_of_lt (by omega)
  · have kept : remaining (raiseWord (outcome n + 0x0C) (release n x (setLabelState sh k l s))) n
        = remaining (release n x (setLabelState sh k l s)) n := raised.longAt (by omega) (by omega) (by omega)
    rw [kept, remaining_release m1, left]
  · have before : Pays n 0 s (setLabelState sh k l s) := .kept fun a ha => marked a (by omega)
    refine (before.trans (pays_release m1 n x)).andKept fun a ha => raised a (by omega)
  · exact ((marked.mono fun a ha => .inl ha).andThen (freed.mono fun a ha => .inr (.inr ha))).andThen
      (raised.mono fun a ha => .inr (.inl ha))
  · exact only_mem_trans (only_mem_trans (setLabelState_only_mem ..) (release_only_mem ..)) (setWord_only_mem ..)

theorem skipLabel_eq (sh : Sheet) (k : Nat) (s : State) : skipLabel sh k s =
    raiseWord (outcome (frameSlot s sh k) + 0x0C)
      (release (frameSlot s sh k) (labelPrice s) (setLabelState sh k .skipped s)) := by
  have price : labelPrice (setLabelState sh k .skipped s) = labelPrice s := by
    have h1 := frameRecord_eq sh k
    have h2 := sheetIndex_lt sh
    have hp : Config.prices = 0x5900 := rfl
    exact price_kept fun a ha => writes_setLabelState sh k .skipped s a (by omega)
  unfold skipLabel
  dsimp only
  rw [frameSlot_setLabelState, price]

theorem skipped (hm : MemoryOk s) (sh : Sheet) (k : Nat) :
    EndsUnprinted sh k (frameSlot s sh k) 5 (labelPrice s) s (skipLabel sh k s) := by
  rw [skipLabel_eq]
  exact endsUnprinted hm .skipped _ _

/-! ### A label that has settled (R41) -/

/-- One outstanding label less. -/
def lowerOutstanding (e : OrderEntry) : OrderEntry := { e with outstanding := e.outstanding - 1 }

theorem findOrder_updateOrder {g : OrderEntry → OrderEntry} (hg : ∀ e, (g e).slot = e.slot) :
    findOrder (updateOrder n g s) m = (findOrder s m).map fun e => if e.slot = n then g e else e := by
  have slots : ((fun e : OrderEntry => decide (e.slot = m)) ∘ fun e => if e.slot = n then g e else e)
      = fun e => decide (e.slot = m) := funext fun e => by
    show decide ((if e.slot = n then g e else e).slot = m) = _
    split
    · rw [hg]
    · rfl
  show List.find? _ (s.orders.runList.map _) = _
  rw [List.find?_map, slots]
  rfl

theorem findOrder_lowered (h : findOrder s n = some o) :
    findOrder (updateOrder n lowerOutstanding s) n = some (lowerOutstanding o) := by
  obtain ⟨-, rfl⟩ := findOrder_some h
  rw [findOrder_updateOrder (g := lowerOutstanding) fun _ => rfl, h]
  exact congrArg some (if_pos rfl)

theorem labelSettled_goesOn (h : ∀ o, findOrder s n = some o → o.sub ≠ .finishing ∨ 2 ≤ o.outstanding) :
    labelSettled n s = updateOrder n lowerOutstanding s := by
  have lowered : labelSettled n s = match findOrder (updateOrder n lowerOutstanding s) n with
      | none => updateOrder n lowerOutstanding s
      | some e => if e.sub = .finishing ∧ e.outstanding = 0 then completeCopy n (updateOrder n lowerOutstanding s)
          else updateOrder n lowerOutstanding s := rfl
  rw [lowered]
  cases ho : findOrder s n with
  | none =>
    rw [findOrder_updateOrder (g := lowerOutstanding) fun _ => rfl, ho]
    rfl
  | some o =>
    rw [findOrder_lowered ho]
    refine if_neg fun c => ?_
    obtain ⟨hf, hz⟩ := c
    rcases h o ho with hs | hs
    · exact hs hf
    · have : o.outstanding - 1 = 0 := hz
      omega

theorem labelSettled_completes (ho : findOrder s n = some o) (hf : o.sub = .finishing) (h1 : o.outstanding ≤ 1) :
    labelSettled n s = completeCopy n (updateOrder n lowerOutstanding s) := by
  have lowered : labelSettled n s = match findOrder (updateOrder n lowerOutstanding s) n with
      | none => updateOrder n lowerOutstanding s
      | some e => if e.sub = .finishing ∧ e.outstanding = 0 then completeCopy n (updateOrder n lowerOutstanding s)
          else updateOrder n lowerOutstanding s := rfl
  rw [lowered, findOrder_lowered ho]
  refine if_pos ⟨hf, ?_⟩
  show o.outstanding - 1 = 0
  omega

theorem labelSettled_cases (n : Slot) (s : State) : labelSettled n s = updateOrder n lowerOutstanding s
    ∨ labelSettled n s = completeCopy n (updateOrder n lowerOutstanding s) := by
  by_cases h : ∀ o, findOrder s n = some o → o.sub ≠ .finishing ∨ 2 ≤ o.outstanding
  · exact .inl (labelSettled_goesOn h)
  · simp only [not_forall, not_or, not_not, Nat.not_le] at h
    obtain ⟨o, ho, hf, h1⟩ := h
    exact .inr (labelSettled_completes ho hf (by omega))

theorem writes_labelSettled (n : Slot) (s : State) : Writes (CompleteBytes n (accountIndex s n)) s (labelSettled n s) := by
  rcases labelSettled_cases n s with h | h
  · rw [h]
    exact (Keeps.refl s).same rfl
  · rw [h]
    exact writes_completeCopy n (updateOrder n lowerOutstanding s)

theorem memoryOk_labelSettled (hm : MemoryOk s) : MemoryOk (labelSettled n s) := by
  rcases labelSettled_cases n s with h | h
  · rw [h]
    exact hm
  · rw [h]
    exact memoryOk_completeCopy (s := updateOrder n lowerOutstanding s) hm

theorem labelSettled_inOrders (n : Slot) (s : State) : InOrders s (labelSettled n s) := by
  rcases labelSettled_cases n s with h | h
  · rw [h]
    exact inOrders_updateOrder _
  · rw [h]
    exact (inOrders_updateOrder _).trans (inOrders_completeCopy n _)

theorem completeCopy_labels (n : Slot) (s : State) : (completeCopy n s).labels = s.labels := by
  cases h : findOrder s n with
  | none =>
    unfold completeCopy
    rw [h]
  | some e => rw [completeCopy_only h]

theorem labelSettled_labels (n : Slot) (s : State) : (labelSettled n s).labels = s.labels := by
  rcases labelSettled_cases n s with h | h
  · rw [h]
    rfl
  · rw [h]
    exact completeCopy_labels n _

end Sys2Proof.Proofs
end

section
/-! SUPPORT. The completion of a COPY order as its slot shows it, and the head of a withdrawn order that is SKIPPED (R41, R42, R164, R165,
R167). -/

namespace Sys2Proof.Proofs

open Sys2Proof Sys2Proof.Machine Sys2Proof.Safety Sys2Proof.Laws Sys2Proof.Claims

variable {s t u v : State} {n m : Slot} {sh x : Sheet} {k j : Nat} {e : LabelEntry} {o : OrderEntry} {rest : List LabelEntry}

/-! ### The state code of a completed order (R42) -/

/-- The bytes of an order's shot count and of its shots' codes. -/
abbrev ShotCodeBytes (n : Slot) (a : Nat) : Prop := within (slotBase n) 0x200 a ∧ ¬ within (slotBase n) 2 a ∨ ∃ i, a = shotOutcome n i

theorem allComplete_kept (h : Keeps (ShotCodeBytes n) s t) : allComplete t n = allComplete s n := by
  have hs := slotBase_eq n
  have count : shotCount t n = shotCount s n := h.wordAt (.inl (by omega)) (.inl (by omega))
  have code (i : Nat) : shotCode t n i = shotCode s n i := h.byteAt (.inr ⟨i, rfl⟩)
  unfold allComplete
  simp only [count, code]

theorem keeps_chargeBytes {i : Nat} (h : Writes (ChargeBytes n i) s t) : Keeps (ShotCodeBytes n) s t := by
  intro a ha
  have hn := n.isLt
  have hs := slotBase_eq n
  have ho := outcome_eq n
  have hb := accountBase_eq i
  refine h a ?_
  rcases ha with ha | ⟨j, rfl⟩
  · omega
  · have := shotOutcome_eq n j
    omega

/-- The state code that a COPY order completes with (R42 step 3). -/
def completionCode (o : OrderEntry) (s : State) : Nat :=
  if o.withdrawn = true then 3 else if allComplete s o.slot = true then 1 else 2

theorem completedState_code (o : OrderEntry) (s : State) : (completedState o s).code = completionCode o s := by
  unfold completedState completionCode
  split
  · rfl
  · split <;> rfl

theorem completeReads (hm : MemoryOk s) (ho : findOrder s n = some o) : FinishReads n (completionCode o s) (completeCopy n s) := by
  obtain ⟨-, rfl⟩ := findOrder_some ho
  have paid := keeps_chargeBytes (writes_settleSurcharge o s)
  have freed : Keeps (ShotCodeBytes o.slot) (settleSurcharge o s)
      (release o.slot (remaining (settleSurcharge o s) o.slot) (settleSurcharge o s)) :=
    keeps_chargeBytes (Writes.mono (writes_release _ _ _) fun _ ha => .inr (.inl ha))
  rw [completeCopy_some ho]
  have code : (completedState o (release o.slot (remaining (settleSurcharge o s) o.slot) (settleSurcharge o s))).code
      = completionCode o s := by
    rw [completedState_code]
    unfold completionCode
    rw [allComplete_kept (paid.trans freed)]
  rw [← code]
  exact finishReads _ (memoryOk_release (memoryOk_settleSurcharge hm))

theorem completeCopy_control (ho : findOrder s n = some o) : (completeCopy n s).control = (raise .orderDone s).control := by
  rw [completeCopy_only ho]

theorem completeCopy_runList (ho : findOrder s n = some o) :
    (completeCopy n s).orders.runList = s.orders.runList.filter fun x => decide (x.slot ≠ n) := by
  rw [completeCopy_only ho]

/-- The run list without an order does not show the order's last change. -/
theorem filter_updateOrder {g : OrderEntry → OrderEntry} (hg : ∀ e, (g e).slot = e.slot) :
    (updateOrder n g s).orders.runList.filter (fun x => decide (x.slot ≠ n))
      = s.orders.runList.filter fun x => decide (x.slot ≠ n) := by
  show (s.orders.runList.map _).filter _ = _
  induction s.orders.runList with
  | nil => rfl
  | cons y ys ih =>
    rw [List.map_cons]
    by_cases hy : y.slot = n
    · rw [if_pos hy, List.filter_cons_of_neg (by simp [hg, hy]), List.filter_cons_of_neg (by simp [hy]), ih]
    · rw [if_neg hy, List.filter_cons_of_pos (by simp [hy]), List.filter_cons_of_pos (by simp [hy]), ih]

theorem flag_orderDone_raised (h : t.control = (raise .orderDone s).control) : flagSet t .orderDone = true :=
  (raisesOnly_of_control h).1

/-! ### The last label of a FINISHING order (R41, R42) -/

/-- The bytes that show the end of an order with account i: its hand, its state and sub-state, and the amounts. -/
abbrev SettledBytes (n : Slot) (i a : Nat) : Prop := PurseBytes n i a ∨ within (slotBase n) 2 a ∨ within (outcome n) 2 a

/-- What the settling of the last label leaves of a FINISHING order o, in a step from s that charged x before it stood at w. -/
structure LastLabel (o : OrderEntry) (n : Slot) (x : Nat) (s w t : State) : Prop where
  reads : FinishReads n (completionCode o w) t
  runList : t.orders.runList = w.orders.runList.filter fun y => decide (y.slot ≠ n)
  amounts : CompletionAmounts s t n o.rush x

theorem finishReads_kept {code : Nat} (h : FinishReads n code s) (k : Keeps (SettledBytes n j) s t) (ho : t.orders = s.orders) :
    FinishReads n code t :=
  ⟨(recordedHand_of_orders ho).trans h.recorded, (k.wordAt (.inr (.inl (by omega))) (.inr (.inl (by omega)))).trans h.found,
    (k.byteAt (.inr (.inr (by omega)))).trans h.state, (k.byteAt (.inr (.inr (by omega)))).trans h.sub⟩

theorem labelSettled_last_control (ho : findOrder v n = some o) (fin : o.sub = .finishing) (one : o.outstanding ≤ 1) :
    (labelSettled n v).control = (raise .orderDone v).control := by
  rw [labelSettled_completes ho fin one, completeCopy_control (findOrder_lowered ho)]
  rfl

theorem lastLabel {y : Nat} (hm : MemoryOk v) (ho : findOrder v n = some o) (fin : o.sub = .finishing) (one : o.outstanding ≤ 1)
    (ha : accountIndex s n ≤ 63) (paid : Pays n y s v) (due : surchargeDue o.rush n v = surchargeDue o.rush n s)
    (kept : Keeps (SettledBytes n (accountIndex s n)) (labelSettled n v) t) (tO : t.orders = (labelSettled n v).orders) :
    LastLabel o n y s v t := by
  have found := findOrder_lowered ho
  have memory : MemoryOk (updateOrder n lowerOutstanding v) := hm
  have account : accountIndex (updateOrder n lowerOutstanding v) n = accountIndex s n := paid.account
  have reads := completeReads memory found
  have complete := completes_completeCopy memory found (by rw [account]; exact ha)
  have lists := completeCopy_runList found
  rw [← labelSettled_completes ho fin one] at reads complete lists
  have before : Pays n y s (updateOrder n lowerOutstanding v) :=
    paid.andKept ((Keeps.refl v).same rfl)
  have purse : Keeps (PurseBytes n (accountIndex s n)) (labelSettled n v) t := fun a h => kept a (.inl h)
  have after : Completes n (surchargeDue o.rush n v) (updateOrder n lowerOutstanding v) t :=
    ⟨complete.pays.andKept (by rw [account]; exact purse),
      (purse.longAt (by omega) (by omega) (by omega) : remaining t n = _).trans complete.none⟩
  refine ⟨finishReads_kept reads kept tO, ?_, after.amounts before due⟩
  rw [tO, lists, filter_updateOrder (g := lowerOutstanding) fun _ => rfl]

theorem surchargeDue_kept {rush : Bool} (he : framesExposed t n = framesExposed s n) (hp : rushSurcharge t = rushSurcharge s) :
    surchargeDue rush n t = surchargeDue rush n s := by
  unfold surchargeDue
  rw [he, hp]

/-! ### The head SKIPPED (R164, R165, R167) -/

/-- The bytes of the printer state, the label counts and the receive error count. -/
abbrev LineBytes (a : Nat) : Prop := within 0x5D09 3 a ∨ within 0x5D14 2 a

theorem skipHead_eq (hq : s.labels.queue = e :: rest) : skipHead s =
    promoteLabels (labelSettled e.slot (skipLabel e.sheet e.frame (setQueue rest s))) := by
  unfold skipHead
  rw [hq]

theorem headWithdrawn_iff (hq : s.labels.queue = e :: rest) :
    headWithdrawn s = true ↔ ∃ o, findOrder s e.slot = some o ∧ o.withdrawn = true := by
  unfold headWithdrawn
  rw [hq]
  dsimp only
  cases hf : findOrder s e.slot with
  | none => simp
  | some o => simp

/-- What the end of the head leaves, whether or not the head stands on its frame's record. -/
structure HeadGone (e : LabelEntry) (rest : List LabelEntry) (s t : State) : Prop where
  code : labelCode t e.sheet e.frame = 5
  labels : t.labels = { s.labels with queue := t.labels.queue }
  queue : waitingCount s = 0 → t.labels.queue = rest
  state : reportByte t 0x09 = reportByte s 0x09
  only : InOrders s t
  flags : t.control = s.control ∨ t.control = (raise .orderDone s).control
  memory : MemoryOk t

theorem memoryOk_setQueue {q : List LabelEntry} (hm : MemoryOk s) : MemoryOk (setQueue q s) := memoryOk_setByte hm

theorem inOrders_of_inLabels (h : InLabels s t) : InOrders s t := by
  unfold InOrders
  rw [h]

theorem writes_setQueue (q : List LabelEntry) (s : State) : Writes (fun a => a = 0x5D0A) s (setQueue q s) :=
  ((Keeps.refl s).same (u := { s with labels := { s.labels with queue := q } }) rfl).report (apart_others fun b _ _ => by
    have : Config.report = 0x5D00 := rfl
    omega)

theorem keepsFrames_complete {i : Nat} (h : Writes (CompleteBytes n i) s t) : Keeps FrameByte s t := by
  rintro a ⟨sh, k, rfl⟩
  have hn := n.isLt
  have hs := slotBase_eq n
  have ho := outcome_eq n
  have hb := accountBase_eq i
  have hi := sheetIndex_lt sh
  have hf := frameRecord_eq sh k
  exact h _ (by omega)

theorem labelSettled_control (n : Slot) (s : State) :
    (labelSettled n s).control = s.control ∨ (labelSettled n s).control = (raise .orderDone s).control := by
  by_cases h : ∀ o, findOrder s n = some o → o.sub ≠ .finishing ∨ 2 ≤ o.outstanding
  · exact .inl (by rw [labelSettled_goesOn h]; rfl)
  · simp only [not_forall, not_or, not_not, Nat.not_le] at h
    obtain ⟨o, ho, hf, h1⟩ := h
    rw [labelSettled_completes ho hf (by omega), completeCopy_control (findOrder_lowered ho)]
    exact .inr rfl

theorem setQueue_only (q : List LabelEntry) (s : State) : InLabels s (setQueue q s) := rfl

theorem skipLabel_only_mem (hm : MemoryOk s) (sh : Sheet) (k : Nat) : skipLabel sh k s = { s with mem := (skipLabel sh k s).mem } :=
  (skipped hm sh k).only

/-- The settling of a skipped head leaves the printer state and the waiting count as they were. -/
theorem skipBeforePromotion_kept {a : Nat} (hm : MemoryOk s) (ha : a = 0x5D09 ∨ a = 0x5D0B) :
    byteAt (labelSettled e.slot (skipLabel e.sheet e.frame (setQueue rest s))) a = byteAt s a := by
  have gone := skipped (memoryOk_setQueue (q := rest) hm) e.sheet e.frame
  have settled := writes_labelSettled e.slot (skipLabel e.sheet e.frame (setQueue rest s))
  have hn := e.slot.isLt
  have hs := slotBase_eq e.slot
  have ho := outcome_eq e.slot
  have hb := accountBase_eq (accountIndex (skipLabel e.sheet e.frame (setQueue rest s)) e.slot)
  have hn' := (frameSlot (setQueue rest s) e.sheet e.frame).isLt
  have ho' := outcome_eq (frameSlot (setQueue rest s) e.sheet e.frame)
  have hb' := accountBase_eq (accountIndex (setQueue rest s) (frameSlot (setQueue rest s) e.sheet e.frame))
  have hf := frameRecord_eq e.sheet e.frame
  have hi := sheetIndex_lt e.sheet
  exact (settled.byteAt (by omega)).trans ((gone.bytes.byteAt (by omega)).trans ((writes_setQueue rest s).byteAt (by omega)))

theorem headGone (hm : MemoryOk s) (hq : s.labels.queue = e :: rest) : HeadGone e rest s (skipHead s) := by
  have gone := skipped (memoryOk_setQueue (q := rest) hm) e.sheet e.frame
  have moved := promotes (memoryOk_labelSettled (n := e.slot) gone.memory)
  have settled := writes_labelSettled e.slot (skipLabel e.sheet e.frame (setQueue rest s))
  have labels : (labelSettled e.slot (skipLabel e.sheet e.frame (setQueue rest s))).labels = { s.labels with queue := rest } := by
    rw [labelSettled_labels, gone.only]
    rfl
  have control : (skipLabel e.sheet e.frame (setQueue rest s)).control = s.control := by
    rw [gone.only, setQueue_control]
  rw [skipHead_eq hq]
  refine ⟨?_, ?_, fun hw => ?_, ?_, ?_, ?_, moved.memory⟩
  · have code : labelCode (labelSettled e.slot (skipLabel e.sheet e.frame (setQueue rest s))) e.sheet e.frame = 5 :=
      (labelCode_kept (keepsFrames_complete settled) _ _).trans gone.code
    exact (moved.codes _ _ (by omega)).trans code
  · rw [moved.labels, labels]
  · have idle : waitingCount (labelSettled e.slot (skipLabel e.sheet e.frame (setQueue rest s))) = 0 :=
      (skipBeforePromotion_kept hm (.inr rfl)).trans hw
    rw [promoteLabels_idle idle, labels]
  · refine (moved.bytes.byteAt (a := 0x5D09) fun c => ?_).trans (skipBeforePromotion_kept hm (.inl rfl))
    rcases c with c | c | c
    · exact apart_frameByte (a := 0x5D09) (n := 1) (fun b _ _ => by omega) 0x5D09 (by omega) (by omega) c
    · omega
    · omega
  · have start : InOrders s (skipLabel e.sheet e.frame (setQueue rest s)) :=
      (inOrders_of_inLabels (setQueue_only rest s)).trans (.memory gone.only)
    exact (start.trans (labelSettled_inOrders _ _)).trans (inOrders_of_inLabels moved.only)
  · rw [moved.only.control]
    rcases labelSettled_control e.slot (skipLabel e.sheet e.frame (setQueue rest s)) with h | h
    · exact .inl (h.trans control)
    · refine .inr (h.trans ?_)
      unfold raise
      dsimp only
      rw [control]

/-- The head of a withdrawn order is SKIPPED, in a step that changes the Label Unit's own bytes before and after. -/
theorem headSkipped (hm : MemoryOk u) (pre : Writes LineBytes s u) (preO : u.orders = s.orders) (hq : u.labels.queue = e :: rest)
    (hw : headWithdrawn u = true) (hr : HeadOnRecord s e) (post : Writes LineBytes (skipHead u) t)
    (postO : t.orders = (skipHead u).orders)
    (flags : flagSet (skipHead u) .orderDone = true → flagSet t .orderDone = true) : HeadSkipped s t e := by
  obtain ⟨h1, h40, slot, account, room⟩ := hr
  obtain ⟨f, hf, withdrawn⟩ := (headWithdrawn_iff hq).mp hw
  have hn := e.slot.isLt
  have hs := slotBase_eq e.slot
  have ho := outcome_eq e.slot
  have hb := accountBase_eq (accountIndex s e.slot)
  have hfr := frameRecord_eq e.sheet e.frame
  have hi := sheetIndex_lt e.sheet
  have hp : Config.prices = 0x5900 := rfl
  have m1 : MemoryOk (setQueue rest u) := memoryOk_setQueue hm
  have start : Writes LineBytes s (setQueue rest u) := pre.andThen ((writes_setQueue rest u).mono fun a ha => .inl (by omega))
  have startO : (setQueue rest u).orders = s.orders := setQueue_orders (s := u) rest |>.trans preO
  obtain ⟨q, hqdef⟩ : ∃ q, q = setQueue rest u := ⟨_, rfl⟩
  have ends : skipHead u = promoteLabels (labelSettled e.slot (skipLabel e.sheet e.frame q)) := by rw [hqdef]; exact skipHead_eq hq
  rw [← hqdef] at m1 start startO
  have slotQ : frameSlot q e.sheet e.frame = e.slot := by
    rw [← slot]
    unfold frameSlot
    simp only [start.byteAt (a := frameRecord e.sheet e.frame + 1) (by omega)]
  have accountQ : accountIndex q e.slot = accountIndex s e.slot := start.byteAt (by omega)
  have priceQ : labelPrice q = labelPrice s := price_kept fun a ha => start a (by omega)
  have gone := skipped m1 e.sheet e.frame
  rw [slotQ, priceQ] at gone
  have goneBytes := gone.bytes
  rw [accountQ] at goneBytes
  obtain ⟨w, hwdef⟩ : ∃ w, w = skipLabel e.sheet e.frame q := ⟨_, rfl⟩
  rw [← hwdef] at gone goneBytes ends
  have wO : w.orders = s.orders := by rw [gone.only]; exact startO
  have accountW : accountIndex w e.slot = accountIndex s e.slot := gone.pays.account.trans accountQ
  have settled := writes_labelSettled e.slot w
  rw [accountW] at settled
  have m3 := memoryOk_labelSettled (n := e.slot) gone.memory
  have moved := promotes m3
  rw [← ends] at moved
  have finish : Writes (fun a => FrameByte a ∨ LineBytes a) (labelSettled e.slot w) t :=
    (moved.bytes.mono fun a ha => by
      rcases ha with ha | ha | ha
      · exact .inl ha
      · exact .inr (.inl (by omega))
      · exact .inr (.inl (by omega))).andThen (post.mono fun a ha => .inr ha)
  have tO : t.orders = (labelSettled e.slot w).orders := postO.trans moved.only.orders
  have off {a : Nat} (ha : a < 0x4040 ∨ 0x5000 ≤ a ∨ a % 0x400 < 0x40 ∨ a % 0x10 ≠ 0) (hl : ¬ LineBytes a) :
      ¬ (FrameByte a ∨ LineBytes a) := fun c => c.elim (apart_frameByte (a := a) (n := 1) (fun b _ _ => by
        have : b = a := by omega
        subst this
        exact ha) a (by omega) (by omega)) hl
  have findW : findOrder w e.slot = some f := by
    rw [findOrder_of_orders (s := u) (by rw [wO, preO])]
    exact hf
  have findS : findOrder s e.slot = some f := by
    rw [findOrder_of_orders (s := u) (by rw [preO])]
    exact hf
  refine ⟨?_, ?_, ?_, fun goesOn covered => ?_, fun f' hf' fin one => ?_⟩
  · have code : labelCode (labelSettled e.slot w) e.sheet e.frame = 5 :=
      (labelCode_kept (keepsFrames_complete settled) _ _).trans gone.code
    have code' : labelCode (skipHead u) e.sheet e.frame = 5 := (moved.codes _ _ (by omega)).trans code
    refine (labelCode_kept (fun a ha => post a fun c => ?_) _ _).trans code'
    obtain ⟨sh, k, rfl⟩ := ha
    have := frameRecord_eq sh k
    have := sheetIndex_lt sh
    omega
  · refine (finish.wordAt (off (by omega) (by omega)) (off (by omega) (by omega))).trans ?_
    refine (settled.wordAt (by omega) (by omega)).trans ?_
    have countQ : wordAt q (outcome e.slot + 0x0C) = wordAt s (outcome e.slot + 0x0C) := start.wordAt (by omega) (by omega)
    rw [gone.count (by omega), countQ]
  · refine (finish.wordAt (off (by omega) (by omega)) (off (by omega) (by omega))).trans ?_
    exact (settled.wordAt (by omega) (by omega)).trans ((goneBytes.wordAt (by omega) (by omega)).trans
      (start.wordAt (by omega) (by omega)))
  · have goes : labelSettled e.slot w = updateOrder e.slot lowerOutstanding w :=
      labelSettled_goesOn fun o ho => goesOn o (findS.trans (findW.symm.trans ho))
    rw [goes] at finish tO
    have before : Pays e.slot 0 s q := .kept fun a ha => start a (by omega)
    have wt : Keeps (PurseBytes e.slot (accountIndex s e.slot)) w t := fun a ha => finish a (off (by omega) (by omega))
    have paid := before.trans gone.pays
    have total := paid.andKept wt
    have leftQ : remaining q e.slot = remaining s e.slot := start.longAt (by omega) (by omega) (by omega)
    have left : remaining t e.slot = remaining s e.slot - labelPrice s := by
      have kept : remaining t e.slot = remaining w e.slot := wt.longAt (by omega) (by omega) (by omega)
      rw [kept, gone.left, leftQ]
    have owed := total.owed
    have spent := total.spent.amount
    have := spent_lt s (accountIndex s e.slot)
    have := charged_lt s e.slot
    refine ⟨left, by rw [owed, left]; omega, ?_, by rw [spent]; omega, ?_⟩
    · have := total.charged (by omega)
      omega
    · refine tO.trans ?_
      show ({ w.orders with runList := w.orders.runList.map _ } : Orders) = _
      rw [wO]
      rfl
  · obtain rfl : f = f' := Option.some.inj (findS.symm.trans hf')
    have before : Pays e.slot 0 s q := .kept fun a ha => start a (by omega)
    have exposed : framesExposed w e.slot = framesExposed s e.slot :=
      (goneBytes.wordAt (by omega) (by omega)).trans (start.wordAt (by omega) (by omega))
    have price : rushSurcharge w = rushSurcharge s :=
      (price_kept fun a ha => goneBytes a (by omega)).trans (price_kept fun a ha => start a (by omega))
    have last := lastLabel gone.memory findW fin (by omega) account (before.trans gone.pays) (surchargeDue_kept exposed price)
      (fun a ha => finish a (off (by omega) (by omega))) tO
    have code : completionCode f w = 3 := if_pos withdrawn
    have control : (skipHead u).control = (raise .orderDone w).control :=
      moved.only.control.trans (labelSettled_last_control findW fin (by omega))
    refine ⟨last.reads.recorded, last.reads.found, last.reads.state.trans code, last.reads.sub,
      flags (flag_orderDone_raised control), ?_, last.amounts⟩
    rw [last.runList, wO]

end Sys2Proof.Proofs
end

section
/-! SUPPORT. What arrives on the printer line: bytes, replies, receive errors and breaks (R159, R165, R166). -/

namespace Sys2Proof.Proofs

open Sys2Proof Sys2Proof.Machine Sys2Proof.Safety Sys2Proof.Laws Sys2Proof.Claims

variable {s t u : State} {e : LabelEntry} {rest : List LabelEntry}

/-! ### Bytes and the READY reply (R159, R166) -/

theorem exec_receivedByte (h : started s = true) (c : Byte) : exec (.receivedByte c) s = .next (receiveByte c s) := by
  show Host.Outcome.next (if started s then receiveByte c s else s) = _
  rw [if_pos h]

theorem exec_ack (h : started s = true) (c : Byte) : exec (.ack c) s = .next (takeAck c (setReceiver .idle s)) := by
  show Host.Outcome.next (if started s then takeAck c (setReceiver .idle s) else s) = _
  rw [if_pos h]

theorem exec_nak (h : started s = true) (c : Byte) : exec (.nak c) s = .next (takeNak c (setReceiver .idle s)) := by
  show Host.Outcome.next (if started s then takeNak c (setReceiver .idle s) else s) = _
  rw [if_pos h]

theorem exec_readyReply_idle (h : started s = true) (hr : s.labels.receiver = .idle) :
    exec .readyReply s = .next (takeReady (holdByte none s)) := by
  refine (exec_receivedByte h 0x13).trans ?_
  rw [receiveByte_idle _ hr, if_neg (by decide), if_neg (by decide), if_pos rfl]

/-! ### Breaks (R159, R165) -/

/-- A break counted, with LABEL_STOCK set. -/
def breakNoted (s : State) : State := raise .labelStock (discardByte { s with labels := { s.labels with breakSeen := true } })

theorem takeBreak_eq (s : State) : takeBreak s =
    if (breakNoted s).labels.printer = .stockOut then breakNoted s
    else if headWithdrawn (enterInquiring .stockOut (breakNoted s)) then skipHead (enterInquiring .stockOut (breakNoted s))
    else enterInquiring .stockOut (breakNoted s) := rfl

/-- What a noted break leaves. -/
structure BreakNoted (s t : State) : Prop where
  labels : t.labels = { s.labels with breakSeen := true, receiver := .idle, errors := min 65535 (s.labels.errors + 1) }
  bytes : Writes (within 0x5D14 2) s t
  control : t.control = (raise .labelStock s).control
  only : t = { s with mem := t.mem, labels := t.labels, control := t.control }
  memory : MemoryOk t

theorem breakNoted_spec (hm : MemoryOk s) : BreakNoted s (breakNoted s) := by
  have counted := discards (s := { s with labels := { s.labels with breakSeen := true } }) hm
  exact ⟨counted.labels, Keeps.same counted.bytes rfl, rfl, rfl, counted.memory⟩

/-- What a break leaves of a printer that was not in STOCK_OUT, before its head is looked at. -/
structure StockLost (s t : State) : Prop where
  labels : ∃ l i, Transmission.inquire ∈ l ∧ t.labels = { s.labels with
    breakSeen := true, receiver := .idle, errors := min 65535 (s.labels.errors + 1)
    printer := .stockOut, replyTimer := none, transmitter := l, inquiryTimer := i }
  state : reportByte t 0x09 = 3
  bytes : Writes (fun a => a = 0x5D09 ∨ within 0x5D14 2 a) s t
  control : t.control = (raise .labelStock s).control
  only : t = { s with mem := t.mem, labels := t.labels, control := t.control }
  memory : MemoryOk t

theorem labels_after_control (h : t = { s with mem := t.mem, labels := t.labels, control := t.control }) (k : InLabels t u) :
    u = { s with mem := u.mem, labels := u.labels, control := u.control } := by
  unfold InLabels at k
  rw [k, h]

theorem orders_after_control (h : t = { s with mem := t.mem, labels := t.labels, control := t.control }) (k : InOrders t u) :
    u = { s with mem := u.mem, labels := u.labels, control := u.control, orders := u.orders } := by
  unfold InOrders at k
  rw [k, h]

theorem stockLost (hm : MemoryOk s) : StockLost s (enterInquiring .stockOut (breakNoted s)) := by
  have noted := breakNoted_spec hm
  have entered := entersInquiring (p := .stockOut) noted.memory rfl
  obtain ⟨l, i, hl, labels⟩ := entered.labels
  refine ⟨⟨l, i, hl, ?_⟩, entered.state, ?_, entered.only.control.trans noted.control, ?_, entered.memory⟩
  · rw [labels, noted.labels]
  · exact (noted.bytes.mono fun a ha => .inr ha).andThen (entered.bytes.mono fun a ha => .inl ha)
  · exact labels_after_control noted.only entered.only

theorem headWithdrawn_of (ho : t.orders = s.orders) (hq : t.labels.queue = s.labels.queue) : headWithdrawn t = headWithdrawn s := by
  unfold headWithdrawn findOrder
  rw [ho, hq]

theorem exec_lineBreak (h : started s = true) (hb : s.labels.breakSeen = false) : exec .lineBreak s = .next (takeBreak s) := by
  show Host.Outcome.next (if (started s && !s.labels.breakSeen) = true then takeBreak s else s) = _
  rw [if_pos (by rw [h, hb]; rfl)]

theorem flags_of_gone {g : Flag} (h : t.control = s.control ∨ t.control = (raise .orderDone s).control) (hg : g ≠ .orderDone) :
    flagSet t g = flagSet s g ∧ flagSeen t g = flagSeen s g := by
  rcases h with h | h
  · unfold flagSet flagSeen
    rw [h]
    exact ⟨rfl, rfl⟩
  · exact (raisesOnly_of_control h).2.2 g hg

/-- Settles O51, receiver state by receiver state, and for a break by what the printer and the head's order are. -/
theorem receivedBytesAndBreaks : Obligations.ReceivedBytesAndBreaks := by
  refine ⟨fun s c hs => ⟨fun hr => ?_, fun hr => ?_, fun hr => ?_, rfl⟩, fun s hm hs hr => ?_, fun s f hm hs => ?_,
    fun s hm hs hb hw => ?_, fun s e rest hm hs hb hw hq hp hrec => ?_, fun s hb => ?_, fun s hs => ?_⟩
  · refine ⟨_, exec_receivedByte hs c, ?_⟩
    rw [receiveByte_idle c hr]
    refine ⟨fun hc => if_pos hc, fun hc => ?_, fun h6 h15 h13 => ?_⟩
    · subst hc
      rfl
    · rw [if_neg h6, if_neg h15, if_neg h13]
      rfl
  · rw [exec_receivedByte hs, receiveByte_awaitingAck c hr]
    exact (exec_ack (s := holdByte none s) hs c).symm
  · rw [exec_receivedByte hs, receiveByte_awaitingNak c hr]
    exact (exec_nak (s := holdByte none s) hs c).symm
  · have run := exec_readyReply_idle hs hr
    have ready : ∀ h : Inquires s, takeReady (holdByte none s) = enterReady (holdByte none s) := fun h =>
      if_pos (inquires_iff.mpr h)
    have entered := entersReady (s := holdByte none s) hm
    refine ⟨fun hi => ⟨_, run, if_neg fun c => hi (inquires_iff.mp c)⟩, fun hi hq => ⟨_, run, ?_⟩,
      fun e rest hi hq => ⟨_, run, ?_⟩⟩
    · rw [ready hi]
      obtain ⟨l, labels⟩ := entered.empty hq
      refine ⟨by rw [labels], by rw [labels], by rw [labels], by rw [labels]; exact hq, entered.state.trans (if_pos hq),
        entered.bytes, (InLabels.trans (t := holdByte none s) rfl entered.only)⟩
    · rw [ready hi]
      obtain ⟨l, labels⟩ := entered.head e rest hq
      refine ⟨by rw [labels], by rw [labels], by rw [labels], by rw [labels]; rfl, by rw [labels], ?_,
        entered.state.trans (if_neg ?_), entered.bytes, (InLabels.trans (t := holdByte none s) rfl entered.only)⟩
      · rw [labels]
        exact List.getLast?_concat
      · rw [show (holdByte none s).labels.queue = _ from hq]
        exact List.cons_ne_nil _ _
  · have run : exec (.receiveError f) s = .next (discardByte s) := by
      show Host.Outcome.next (if started s then (match f with | .framing => discardByte s | .overrun => discardByte s) else s) = _
      rw [if_pos hs]
      cases f <;> rfl
    have counted := discards hm
    exact ⟨_, run, counted.labels, counted.count, counted.bytes, counted.only⟩
  · have run := exec_lineBreak hs hb
    have noted := breakNoted_spec hm
    have lost := stockLost hm
    rw [takeBreak_eq] at run
    by_cases hp : s.labels.printer = .stockOut
    · rw [if_pos (by rw [noted.labels]; exact hp)] at run
      refine ⟨_, run, by rw [noted.labels]; exact hp, by rw [noted.labels], by rw [noted.labels], by rw [noted.labels],
        by rw [noted.labels], fun c => absurd hp c, raisesOnly_of_control noted.control, noted.bytes.mono fun a ha => .inr ha,
        noted.only⟩
    · have calm : headWithdrawn (enterInquiring .stockOut (breakNoted s)) = false := by
        obtain ⟨l, i, -, labels⟩ := lost.labels
        rw [headWithdrawn_of (s := s) (by rw [lost.only]) (by rw [labels])]
        exact hw.resolve_right hp
      rw [if_neg (by rw [noted.labels]; exact hp), if_neg (by rw [calm]; exact Bool.false_ne_true)] at run
      obtain ⟨l, i, hl, labels⟩ := lost.labels
      refine ⟨_, run, by rw [labels], by rw [labels], by rw [labels], by rw [labels], by rw [labels],
        fun _ => ⟨by rw [labels], lost.state, by rw [labels]; exact hl⟩, raisesOnly_of_control lost.control, lost.bytes,
        lost.only⟩
  · have run := exec_lineBreak hs hb
    have noted := breakNoted_spec hm
    have lost := stockLost hm
    obtain ⟨l, i, hl, labels⟩ := lost.labels
    have queue : (enterInquiring .stockOut (breakNoted s)).labels.queue = e :: rest := by rw [labels]; exact hq
    have orders : (enterInquiring .stockOut (breakNoted s)).orders = s.orders := by rw [lost.only]
    have withdrawn : headWithdrawn (enterInquiring .stockOut (breakNoted s)) = true := by
      rw [headWithdrawn_of (s := s) orders (by rw [labels])]
      exact hw
    rw [takeBreak_eq, if_neg (by rw [noted.labels]; exact hp), if_pos withdrawn] at run
    have gone := headGone lost.memory queue
    have pre : Writes LineBytes s (enterInquiring .stockOut (breakNoted s)) := lost.bytes.mono fun a ha => by omega
    have skips : HeadSkipped s (skipHead (enterInquiring .stockOut (breakNoted s))) e :=
      headSkipped lost.memory pre orders queue withdrawn hrec (.refl _) rfl id
    have goneLabels := gone.labels
    rw [labels] at goneLabels
    have raised : RaisesOnly .labelStock s (enterInquiring .stockOut (breakNoted s)) := raisesOnly_of_control lost.control
    obtain ⟨set, seen⟩ := flags_of_gone (g := .labelStock) gone.flags (by decide)
    refine ⟨_, run, skips, by rw [goneLabels], by rw [goneLabels], by rw [goneLabels], by rw [goneLabels], by rw [goneLabels],
      gone.state.trans lost.state, by rw [goneLabels]; exact hl, set.trans raised.1, seen.trans raised.2.1, fun hw => ?_,
      orders_after_control lost.only gone.only⟩
    have hw' : waitingCount (enterInquiring .stockOut (breakNoted s)) = 0 := (lost.bytes.byteAt (by
      have : Config.report = 0x5D00 := rfl
      omega)).trans hw
    exact gone.queue hw'
  · show Host.Outcome.next (if (started s && !s.labels.breakSeen) = true then takeBreak s else s) = _
    rw [hb, Bool.not_true, Bool.and_false, if_neg (by decide)]
  · refine ⟨{ s with labels := { s.labels with breakSeen := false } }, ?_, rfl⟩
    show Host.Outcome.next (if started s then { s with labels := { s.labels with breakSeen := false } } else s) = _
    rw [if_pos hs]

end Sys2Proof.Proofs
end

section
/-! SUPPORT. The printer's timers: transmissions, inquiries and overdue replies (R158, R160, R161, R164). -/

namespace Sys2Proof.Proofs

open Sys2Proof Sys2Proof.Machine Sys2Proof.Safety Sys2Proof.Laws Sys2Proof.Claims

variable {s t u : State} {e : LabelEntry} {rest : List LabelEntry}

/-! ### Transmissions and inquiries -/

theorem exec_transmissionEnd {x : Transmission} {l : List Transmission} (h : started s = true)
    (hx : s.labels.transmitter = x :: l) : exec .transmissionEnd s = .next (setLine l
      (if isLabel x && decide (s.labels.printer = .printing) then startReplyTimer s else s)) := by
  show Host.Outcome.next (if started s then endTransmission s else s) = _
  unfold endTransmission
  rw [if_pos h, hx]

theorem setLine_eq (l : List Transmission) (s : State) : setLine l s = { s with labels := { s.labels with
    transmitter := l
    inquiryTimer := if l.head? = some .inquire ∧ Inquires s then some 20000 else s.labels.inquiryTimer } } := by
  unfold setLine
  simp only [inquires_iff]
  rfl

theorem exec_inquiryTimeout (h : started s = true) (hi : Inquires s) (ht : s.labels.inquiryTimer ≠ none) :
    exec .inquiryTimeout s = .next (sendInquire s) := by
  have awaited : inquiryAwaited s = true := by
    unfold inquiryAwaited running
    rw [inquires_iff.mpr hi, Option.isSome_iff_ne_none.mpr ht]
    rfl
  show Host.Outcome.next (if (started s && inquiryAwaited s) = true then sendInquire s else s) = _
  rw [if_pos (by rw [h, awaited]; rfl)]

/-! ### Overdue replies (R164) -/

theorem exec_replyTimeout (h : ReplyOverdue s e rest) : exec .replyTimeout s = .next (replyTimedOut s) := by
  obtain ⟨hs, hp, ht, -⟩ := h
  have awaited : replyAwaited s = true := by
    unfold replyAwaited running
    rw [hp, Option.isSome_iff_ne_none.mpr ht]
    rfl
  show Host.Outcome.next (if (started s && replyAwaited s) = true then replyTimedOut s else s) = _
  rw [if_pos (by rw [hs, awaited]; rfl)]

/-- What the loss of the printer leaves (R164). -/
structure Loses (s t : State) : Prop where
  labels : ∃ l i, Transmission.inquire ∈ l
    ∧ t.labels = { s.labels with printer := .lost, replyTimer := none, transmitter := l, inquiryTimer := i }
  state : reportByte t 0x09 = 4
  bytes : Writes (fun a => a = 0x5D09) s t
  control : t.control = (raise .printerLost s).control
  only : t = { s with mem := t.mem, labels := t.labels, control := t.control }

theorem loses (hm : MemoryOk s) : Loses s (losePrinter s) := by
  have entered := entersInquiring (p := .lost) hm rfl
  obtain ⟨l, i, hl, labels⟩ := entered.labels
  have control : (losePrinter s).control = (raise .printerLost s).control := by
    unfold losePrinter raise
    dsimp only
    rw [entered.only.control]
  refine ⟨⟨l, i, hl, labels⟩, entered.state, entered.bytes.same rfl, control, ?_⟩
  have only := entered.only
  unfold InLabels at only
  unfold losePrinter raise
  rw [only]

theorem keepsFrames_line (h : Writes (fun a => a = 0x5D09) s t) : Keeps FrameByte s t := by
  rintro a ⟨sh, k, rfl⟩
  have hi := sheetIndex_lt sh
  have hf := frameRecord_eq sh k
  exact h _ (by omega)

/-- Settles O49: each timer's end by what the line carries, and the bytes on the line by the head of the transmitter. -/
theorem printerTimersSendAgainOrLose : Obligations.PrinterTimersSendAgainOrLose := by
  refine ⟨fun s x l hs hx => ?_, fun s hs hi ht => ⟨_, exec_inquiryTimeout hs hi ht, fun h => ?_, fun x l hx hl => ?_, ?_⟩,
    fun s e rest hm hd => ⟨fun hw hr => ?_, fun hw hr => ?_, fun hw h1 h40 => ?_⟩,
    fun s h => (bytesOnLine_head h).trans rfl, fun s m h => (bytesOnLine_head h).trans rfl, fun e body hb => ⟨?_, fun h1 h2 h3 => ?_⟩⟩
  · have run := exec_transmissionEnd hs hx
    by_cases hc : isLabel x = true ∧ s.labels.printer = .printing
    · rw [if_pos (by simpa using hc)] at run
      refine ⟨_, run, ?_⟩
      rw [if_pos hc, setLine_eq]
      exact ⟨rfl, rfl⟩
    · rw [if_neg (by simpa using hc)] at run
      refine ⟨_, run, ?_⟩
      rw [if_neg hc, setLine_eq]
      exact ⟨rfl, rfl⟩
  · rw [sendInquire_idle h, if_pos (inquires_iff.mpr hi)]
  · rw [sendInquire_busy hx]
    unfold addMember
    rw [if_neg hl]
  · obtain ⟨l, i, -, sent⟩ := sendInquire_line s
    unfold OnlyLabels
    rw [sent]
  · have again : replyTimedOut s = resendHead s := by
      unfold replyTimedOut
      rw [hw, hr, if_neg Bool.false_ne_true, if_neg Bool.false_ne_true]
    refine ⟨_, (exec_replyTimeout hd).trans (congrArg _ again), ?_⟩
    unfold resendHead
    rw [hd.2.2.2]
    exact ⟨rfl, rfl⟩
  · have lost : replyTimedOut s = losePrinter s := by
      unfold replyTimedOut
      rw [hw, hr, if_neg Bool.false_ne_true, if_pos rfl]
    have loss := loses hm
    obtain ⟨l, i, hl, labels⟩ := loss.labels
    refine ⟨_, (exec_replyTimeout hd).trans (congrArg _ lost), by rw [labels], by rw [labels], by rw [labels],
      by rw [labels]; exact hl, loss.state, raisesOnly_of_control loss.control, loss.bytes, loss.only⟩
  · have queue := hd.2.2.2
    have gone := headGone hm queue
    by_cases hr : s.labels.resend = true
    · have ends : replyTimedOut s = losePrinter (skipHead s) := by
        unfold replyTimedOut
        rw [if_pos hw, if_pos hr]
      have loss := loses gone.memory
      obtain ⟨l, i, hl, labels⟩ := loss.labels
      have raised := raisesOnly_of_control loss.control
      refine ⟨_, (exec_replyTimeout hd).trans (congrArg _ ends), (labelCode_kept (keepsFrames_line loss.bytes) _ _).trans gone.code,
        by rw [if_pos hr, labels], fun _ => raised.1, fun h0 => by rw [labels]; exact gone.queue h0, fun hrec => ?_⟩
      exact headSkipped hm (.refl s) rfl queue hw hrec (loss.bytes.mono fun a ha => by omega) (by rw [loss.only])
        fun h => (raised.2.2 .orderDone (by decide)).1.trans h
    · have ends : replyTimedOut s = enterReady (skipHead s) := by
        unfold replyTimedOut
        rw [if_pos hw, if_neg hr]
      have ready := entersReady gone.memory
      have lists : (enterReady (skipHead s)).labels.queue = (skipHead s).labels.queue
          ∧ (enterReady (skipHead s)).labels.printer = if (skipHead s).labels.queue = [] then .ready else .printing := by
        cases hq : (skipHead s).labels.queue with
        | nil =>
          obtain ⟨l, labels⟩ := ready.empty hq
          rw [labels, if_pos rfl]
          exact ⟨hq, rfl⟩
        | cons f fs =>
          obtain ⟨l, labels⟩ := ready.head f fs hq
          rw [labels, if_neg (List.cons_ne_nil _ _)]
          exact ⟨hq, rfl⟩
      obtain ⟨same, printer⟩ := lists
      refine ⟨_, (exec_replyTimeout hd).trans (congrArg _ ends), (labelCode_kept (keepsFrames_line ready.bytes) _ _).trans gone.code,
        by rw [if_neg hr, same, printer], fun c => absurd c hr, fun h0 => same.trans (gone.queue h0), fun hrec => ?_⟩
      exact headSkipped hm (.refl s) rfl queue hw hrec (ready.bytes.mono fun a ha => by omega) ready.only.orders
        fun h => (congrArg (fun c : Control => c.notice.getLsbD Flag.orderDone.bit) ready.only.control).trans h
  · have same : messageBody e = body := by rw [hb]; rfl
    refine ⟨BitVec.ofNat 8 (body.map BitVec.toNat).sum, ?_, BitVec.toNat_ofNat _ _⟩
    unfold labelMessage
    rw [same]
  · rw [labelMessage_length]
    omega

end Sys2Proof.Proofs
end

section
/-! SUPPORT. Replies to the head's label: what an ACK and a NAK do before the order is told, and how the printer goes on (R162, R163,
R175 to R177). -/

namespace Sys2Proof.Proofs

open Sys2Proof Sys2Proof.Machine Sys2Proof.Safety Sys2Proof.Laws Sys2Proof.Claims

variable {s t u v : State} {n m : Slot} {sh : Sheet} {k i x : Nat} {e : LabelEntry} {o : OrderEntry} {rest : List LabelEntry}
  {q : Byte}

/-! ### A single charge (R175, R176) -/

/-- What one charge does to an account's spent: at 16,777,215 the mark is 1, whatever the amount (R176). -/
abbrev SpentCharged (i x : Nat) (s t : State) : Prop :=
  if 16777215 < spent s i + x ∨ spent s i = 16777215 then spent t i = 16777215 ∧ saturatedMark t i = 1
  else spent t i = spent s i + x ∧ saturatedMark t i = saturatedMark s i

theorem spentCharged_raiseSpent (hm : MemoryOk s) (hi : i < 256) (x : Nat) : SpentCharged i x s (raiseSpent i x s) := by
  have hb := accountBase_eq i
  have hsize : Config.memorySize = 0x8000 := rfl
  have := spent_lt s i
  have read (y : Nat) (hy : y < 16777216) : spent (setSpent i y s) i = y :=
    longAt_setLong_same (a := accountBase i + 0x10) hm (by omega) hy
  by_cases h : 16777215 < spent s i + x ∨ spent s i = 16777215
  · have raised : raiseSpent i x s = setSaturated i 1 (setSpent i 16777215 s) := if_pos h
    have kept : spent (setSaturated i 1 (setSpent i 16777215 s)) i = spent (setSpent i 16777215 s) i :=
      Keeps.long (a := accountBase i + 0x10) ((Keeps.refl _).setWord (apart_within (by omega)))
    unfold SpentCharged
    rw [if_pos h, raised]
    exact ⟨kept.trans (read _ (by omega)), wordAt_setWord_same (a := accountBase i + 6) (memoryOk_setLong hm) (by omega)⟩
  · have raised : raiseSpent i x s = setSpent i (spent s i + x) s := if_neg h
    unfold SpentCharged
    rw [if_neg h, raised]
    exact ⟨read _ (by omega), Keeps.word (a := accountBase i + 6) ((Keeps.refl s).setLong (apart_within (by omega)))⟩

theorem SpentCharged.carry (pre : Keeps (SpentBytes i) s t) (h : SpentCharged i x t u) (post : Keeps (SpentBytes i) u v) :
    SpentCharged i x s v := by
  have s1 : spent t i = spent s i := pre.longAt (by omega) (by omega) (by omega)
  have m1 : saturatedMark t i = saturatedMark s i := pre.wordAt (by omega) (by omega)
  have s2 : spent v i = spent u i := post.longAt (by omega) (by omega) (by omega)
  have m2 : saturatedMark v i = saturatedMark u i := post.wordAt (by omega) (by omega)
  unfold SpentCharged at *
  rw [s1, m1] at h
  rw [s2, m2]
  exact h

theorem spentCharged_charge (hm : MemoryOk s) (n : Slot) (x : Nat) : SpentCharged (accountIndex s n) x s (charge n x s) := by
  have hn := n.isLt
  have ho := outcome_eq n
  have hb := accountBase_eq (accountIndex s n)
  have entered := writes_setCharged n (charged s n + x) s
  have lowered := writes_release n x (setCharged n (charged s n + x) s)
  rw [accountIndex_setCharged] at lowered
  have pre : Keeps (SpentBytes (accountIndex s n)) s (release n x (setCharged n (charged s n + x) s)) := fun a ha =>
    (lowered a (by omega)).trans (entered a (by omega))
  rw [charge_eq]
  exact SpentCharged.carry pre (spentCharged_raiseSpent (memoryOk_release (memoryOk_setLong hm)) (accountIndex_lt s n) x) (.refl _)

/-- One amount charged and one released in a step whose amounts are covered, as the statements say it (R175 to R177). -/
theorem chargedAndReleased {y : Nat} (hp : Pays n x s t) (hl : remaining t n = remaining s n - (x + y))
    (hs : SpentCharged (accountIndex s n) x s t) (ha : AmountsHold s n x y) : ChargedAndReleased s t n x y := by
  obtain ⟨left, owed, room⟩ := ha
  have := hp.owed
  refine ⟨hp.charged room, hl, by omega, hs⟩

/-! ### The head's label before its order is told -/

/-- The head's label PRINTED at its price, and the head out of the queue (R162). -/
def ackHead (e : LabelEntry) (rest : List LabelEntry) (s : State) : State :=
  setQueue rest (setLabelState e.sheet e.frame .printed (setLabelCharge e.sheet e.frame (labelPrice s) s))

/-- The head's label FAILED, and the head out of the queue (R163). -/
def nakHead (e : LabelEntry) (rest : List LabelEntry) (s : State) : State :=
  setQueue rest (setLabelState e.sheet e.frame .failed s)

/-- The label charged and counted. -/
def ackTaken (e : LabelEntry) (rest : List LabelEntry) (s : State) : State :=
  raiseWord (outcome e.slot + 0x0A) (charge e.slot (labelPrice s) (ackHead e rest s))

/-- The label's price released and the failed label counted. -/
def nakTaken (e : LabelEntry) (rest : List LabelEntry) (s : State) : State :=
  raiseWord (outcome e.slot + 0x0C) (release e.slot (labelPrice s) (nakHead e rest s))

/-- The bytes of a head that leaves the queue: its frame's label state and label charge, and the queue's count. -/
abbrev HeadBytes (e : LabelEntry) (a : Nat) : Prop :=
  a = frameRecord e.sheet e.frame ∨ within (frameRecord e.sheet e.frame + 0x0A) 2 a ∨ a = 0x5D0A

/-- What the head's leaving does, printed or failed. -/
structure HeadOut (e : LabelEntry) (rest : List LabelEntry) (code : Nat) (s t : State) : Prop where
  code : labelCode t e.sheet e.frame = code
  bytes : Writes (HeadBytes e) s t
  count : reportByte t 0x0A = rest.length % 256
  labels : t.labels = { s.labels with queue := rest }
  only : InLabels s t
  memory : MemoryOk t

theorem keepsFrames_setQueue (l : List LabelEntry) (s : State) : Keeps FrameByte s (setQueue l s) :=
  (Keeps.refl s).report (apart_frameByte fun b _ _ => by
    have : Config.report = 0x5D00 := rfl
    omega)

theorem ackHead_out (hm : MemoryOk s) (e : LabelEntry) (rest : List LabelEntry) : HeadOut e rest 3 s (ackHead e rest s) := by
  have m1 : MemoryOk (setLabelCharge e.sheet e.frame (labelPrice s) s) := memoryOk_setWord hm
  have fee : Writes (HeadBytes e) s (setLabelCharge e.sheet e.frame (labelPrice s) s) :=
    (Keeps.refl s).setWord (apart_others fun b _ _ => by omega)
  have marked := writes_setLabelState e.sheet e.frame .printed (setLabelCharge e.sheet e.frame (labelPrice s) s)
  have out := writes_setQueue rest (setLabelState e.sheet e.frame .printed (setLabelCharge e.sheet e.frame (labelPrice s) s))
  refine ⟨?_, (fee.andThen (marked.mono fun a ha => .inl ha)).andThen (out.mono fun a ha => .inr (.inr ha)), ?_, rfl, rfl,
    memoryOk_setQueue (memoryOk_setLabelState m1)⟩
  · exact (labelCode_kept (keepsFrames_setQueue _ _) _ _).trans ((labelCode_setLabelState m1 .printed).trans (if_pos rfl))
  · exact byteAt_setByte_same (a := 0x5D0A) (s := { setLabelState e.sheet e.frame .printed _ with labels := _ })
      (memoryOk_setLabelState m1) (by decide)

theorem nakHead_out (hm : MemoryOk s) (e : LabelEntry) (rest : List LabelEntry) : HeadOut e rest 4 s (nakHead e rest s) := by
  have marked := writes_setLabelState e.sheet e.frame .failed s
  have out := writes_setQueue rest (setLabelState e.sheet e.frame .failed s)
  refine ⟨?_, (marked.mono fun a ha => .inl ha).andThen (out.mono fun a ha => .inr (.inr ha)), ?_, rfl, rfl,
    memoryOk_setQueue (memoryOk_setLabelState hm)⟩
  · exact (labelCode_kept (keepsFrames_setQueue _ _) _ _).trans ((labelCode_setLabelState hm .failed).trans (if_pos rfl))
  · exact byteAt_setByte_same (a := 0x5D0A) (s := { setLabelState e.sheet e.frame .failed s with labels := _ })
      (memoryOk_setLabelState hm) (by decide)

end Sys2Proof.Proofs
end

section
/-! SUPPORT. A matching reply from the head's label to the printer's next state (R41, R162, R163). -/

namespace Sys2Proof.Proofs

open Sys2Proof Sys2Proof.Machine Sys2Proof.Safety Sys2Proof.Laws Sys2Proof.Claims

variable {s t u v w : State} {n m : Slot} {sh : Sheet} {k i x d code : Nat} {e : LabelEntry} {o : OrderEntry}
  {rest : List LabelEntry} {q : Byte} {P : Nat → Prop}

/-! ### A reply taken -/

/-- What a reply leaves before its order is told: the label ended, an amount x charged or released, and the label counted at offset d of
the order's outcome. -/
structure ReplyTaken (e : LabelEntry) (rest : List LabelEntry) (code x d : Nat) (P : Nat → Prop) (s t : State) : Prop where
  code : labelCode t e.sheet e.frame = code
  count : wordAt s (outcome e.slot + d) < 65535 → wordAt t (outcome e.slot + d) = wordAt s (outcome e.slot + d) + 1
  pays : Pays e.slot x s t
  left : remaining t e.slot = remaining s e.slot - labelPrice s
  bytes : Writes (fun a => HeadBytes e a ∨ within (outcome e.slot + d) 2 a ∨ P a) s t
  queueCount : reportByte t 0x0A = rest.length % 256
  labels : t.labels = { s.labels with queue := rest }
  only : InLabels s t
  memory : MemoryOk t

theorem inLabels_of_memory (h : t = { s with mem := t.mem }) : InLabels s t := by
  unfold InLabels
  rw [h]

theorem replyTaken (out : HeadOut e rest code s u) (hd : d = 0x0A ∨ d = 0x0C) (ha : accountIndex s e.slot ≤ 63)
    (hP : ∀ a, P a → ChargeBytes e.slot (accountIndex s e.slot) a) (hw : Writes P u w) (only : w = { u with mem := w.mem })
    (pays : Pays e.slot x u w) (left : remaining w e.slot = remaining u e.slot - labelPrice s) (memory : MemoryOk w) :
    ReplyTaken e rest code x d P s (raiseWord (outcome e.slot + d) w) := by
  have hn := e.slot.isLt
  have hs := slotBase_eq e.slot
  have ho := outcome_eq e.slot
  have hb := accountBase_eq (accountIndex s e.slot)
  have hf := frameRecord_eq e.sheet e.frame
  have hi := sheetIndex_lt e.sheet
  have hr : Config.report = 0x5D00 := rfl
  have hsize : Config.memorySize = 0x8000 := rfl
  have head := out.bytes
  have paid := hw.mono hP
  have raised : Writes (within (outcome e.slot + d) 2) w (raiseWord (outcome e.slot + d) w) :=
    (Keeps.refl w).setWord (apart_others fun b _ _ => by omega)
  have countW : wordAt w (outcome e.slot + d) = wordAt s (outcome e.slot + d) :=
    (paid.wordAt (by omega) (by omega)).trans (head.wordAt (by omega) (by omega))
  refine ⟨?_, fun room => ?_, ?_, ?_, ?_, ?_, ?_, ?_, memoryOk_setWord memory⟩
  · refine (labelCode_kept (fun a hframe => ?_) _ _).trans out.code
    obtain ⟨sh, k, rfl⟩ := hframe
    have := frameRecord_eq sh k
    have := sheetIndex_lt sh
    exact (raised _ (by omega)).trans (paid _ (by omega))
  · refine (wordAt_setWord_same memory (by omega)).trans ?_
    rw [countW]
    exact Nat.mod_eq_of_lt (by omega)
  · have before : Pays e.slot 0 s u := .kept fun a h => head a (by omega)
    have total := (before.trans pays).andKept fun a h => raised a (by omega)
    rwa [Nat.zero_add] at total
  · have kept : remaining (raiseWord (outcome e.slot + d) w) e.slot = remaining w e.slot :=
      raised.longAt (by omega) (by omega) (by omega)
    have start : remaining u e.slot = remaining s e.slot := head.longAt (by omega) (by omega) (by omega)
    rw [kept, left, start]
  · exact ((head.mono fun a h => .inl h).andThen (hw.mono fun a h => .inr (.inr h))).andThen
      (raised.mono fun a h => .inr (.inl h))
  · exact (raised.byteAt (by omega)).trans ((paid.byteAt (by omega)).trans out.count)
  · show w.labels = _
    rw [only]
    exact out.labels
  · exact (out.only.trans (inLabels_of_memory only)).trans (inLabels_of_memory (setWord_only_mem ..))

theorem labelPrice_head (out : HeadOut e rest code s u) : labelPrice u = labelPrice s :=
  price_kept fun a ha => out.bytes a (by
    have hf := frameRecord_eq e.sheet e.frame
    have hi := sheetIndex_lt e.sheet
    have hp : Config.prices = 0x5900 := rfl
    omega)

theorem accountIndex_head (out : HeadOut e rest code s u) : accountIndex u n = accountIndex s n :=
  out.bytes.byteAt (by
    have hn := n.isLt
    have hs := slotBase_eq n
    have hf := frameRecord_eq e.sheet e.frame
    have hi := sheetIndex_lt e.sheet
    omega)

theorem ackTaken_reply (hm : MemoryOk s) (ha : accountIndex s e.slot ≤ 63) :
    ReplyTaken e rest 3 (labelPrice s) 0x0A (ChargeBytes e.slot (accountIndex s e.slot)) s (ackTaken e rest s) := by
  have out := ackHead_out hm e rest
  have bytes := writes_charge e.slot (labelPrice s) (ackHead e rest s)
  rw [accountIndex_head out] at bytes
  exact replyTaken out (.inl rfl) ha (fun _ h => h) bytes (charge_only_mem ..) (pays_charge out.memory ..)
    (remaining_charge out.memory ..) (memoryOk_charge out.memory)

theorem nakTaken_reply (hm : MemoryOk s) (ha : accountIndex s e.slot ≤ 63) :
    ReplyTaken e rest 4 0 0x0C (ReleaseBytes e.slot (accountIndex s e.slot)) s (nakTaken e rest s) := by
  have out := nakHead_out hm e rest
  have bytes := writes_release e.slot (labelPrice s) (nakHead e rest s)
  rw [accountIndex_head out] at bytes
  exact replyTaken out (.inr rfl) ha (fun _ h => .inr (.inl h)) bytes (release_only_mem ..) (pays_release out.memory ..)
    (remaining_release out.memory ..) (memoryOk_release out.memory)

/-! ### Which replies match (R162) -/

theorem sequenceByte_eq (h : q.toNat = e.sequence % 256) : sequenceByte e = q :=
  BitVec.eq_of_toNat_eq ((BitVec.toNat_ofNat _ _).trans h.symm)

theorem replyMatches_head (hq : s.labels.queue = e :: rest) (h : q.toNat = e.sequence % 256)
    (hp : s.labels.printer = .printing ∨ s.labels.printer = .lost ∨ s.labels.printer = .stockOut) :
    replyMatches s q = true := by
  unfold replyMatches
  rw [hq]
  simp only [sequenceByte_eq h, decide_true, Bool.true_and, Bool.or_eq_true, decide_eq_true_eq]
  tauto

theorem replyMatches_none (h : (∀ e, s.labels.queue.head? = some e → q.toNat ≠ e.sequence % 256)
    ∨ s.labels.printer = .unknown ∨ s.labels.printer = .ready) : replyMatches s q = false := by
  unfold replyMatches
  cases hq : s.labels.queue with
  | nil => rfl
  | cons e rest =>
    dsimp only
    rcases h with h | h | h
    · have apart : sequenceByte e ≠ q := fun c => h e (by rw [hq]; rfl) (by
        rw [← c]
        exact BitVec.toNat_ofNat _ _)
      rw [decide_eq_false apart]
      rfl
    · rw [h]
      exact Bool.and_false _
    · rw [h]
      exact Bool.and_false _

theorem labelPrice_charged (e : LabelEntry) (s : State) :
    labelPrice (setLabelState e.sheet e.frame .printed (setLabelCharge e.sheet e.frame (labelPrice s) s)) = labelPrice s := by
  have hf := frameRecord_eq e.sheet e.frame
  have hi := sheetIndex_lt e.sheet
  have hp : Config.prices = 0x5900 := rfl
  have fee : Writes (within (frameRecord e.sheet e.frame + 0x0A) 2) s (setLabelCharge e.sheet e.frame (labelPrice s) s) :=
    (Keeps.refl s).setWord (apart_others fun b _ _ => by omega)
  exact (price_kept fun a ha => writes_setLabelState _ _ _ _ a (by omega)).trans (price_kept fun a ha => fee a (by omega))

theorem labelPrice_failed (e : LabelEntry) (s : State) : labelPrice (setLabelState e.sheet e.frame .failed s) = labelPrice s := by
  have hf := frameRecord_eq e.sheet e.frame
  have hi := sheetIndex_lt e.sheet
  have hp : Config.prices = 0x5900 := rfl
  exact price_kept fun a ha => writes_setLabelState _ _ _ _ a (by omega)

theorem takeAck_eq (hq : s.labels.queue = e :: rest) (h : replyMatches s q = true) :
    takeAck q s = afterReply (promoteLabels (labelSettled e.slot (ackTaken e rest s))) := by
  unfold takeAck ackTaken ackHead
  rw [if_pos h, hq]
  dsimp only
  rw [labelPrice_charged]

theorem takeNak_eq (hq : s.labels.queue = e :: rest) (h : replyMatches s q = true) :
    takeNak q s = afterReply (promoteLabels (labelSettled e.slot (nakTaken e rest s))) := by
  unfold takeNak nakTaken nakHead
  rw [if_pos h, hq]
  dsimp only
  rw [labelPrice_failed]

/-! ### The printer after a matching reply (R162 step 6) -/

/-- What the printer's next state leaves after a matching reply. -/
structure GoesOn (s t : State) (rest : List LabelEntry) (v : State) : Prop where
  leaves : HeadLeaves s t rest
  bytes : Writes (fun a => a = 0x5D09) v t
  only : InLabels v t

theorem afterReply_goesOn (hm : MemoryOk v) (hl : v.labels = { s.labels with receiver := .idle, queue := rest })
    (hc : reportByte v 0x0A = rest.length) (h9 : reportByte v 0x09 = reportByte s 0x09) : GoesOn s (afterReply v) rest v := by
  have printer : v.labels.printer = s.labels.printer := by rw [hl]
  have queue : v.labels.queue = rest := by rw [hl]
  by_cases hp : s.labels.printer = .stockOut
  · have stays : afterReply v = { v with labels := { v.labels with replyTimer := none } } := if_pos (printer.trans hp)
    rw [stays]
    refine ⟨⟨queue, hc, rfl, ?_, ?_, ?_⟩, .refl v, rfl⟩
    · rw [hl]
    · rw [if_pos hp]
      exact printer.trans hp
    · rw [if_pos hp]
      exact h9
  · have ready : afterReply v = enterReady v := if_neg fun c => hp (printer.symm.trans c)
    have entered := entersReady hm
    rw [ready]
    refine ⟨?_, entered.bytes, entered.only⟩
    have count : reportByte (enterReady v) 0x0A = rest.length := (entered.bytes.byteAt (by
      have : Config.report = 0x5D00 := rfl
      omega)).trans hc
    have state := entered.state
    rw [queue] at state
    unfold HeadLeaves
    rw [if_neg hp, if_neg hp]
    cases rest with
    | nil =>
      obtain ⟨l, labels⟩ := entered.empty queue
      rw [labels, hl]
      exact ⟨rfl, count, rfl, rfl, rfl, state⟩
    | cons f fs =>
      obtain ⟨l, labels⟩ := entered.head f fs queue
      rw [labels, hl]
      exact ⟨rfl, count, rfl, rfl, rfl, state⟩

end Sys2Proof.Proofs
end

section
/-! SUPPORT. Matching replies of an order that goes on and of an order's last label (R41, R42, R162, R163, R180). -/

namespace Sys2Proof.Proofs

open Sys2Proof Sys2Proof.Machine Sys2Proof.Safety Sys2Proof.Laws Sys2Proof.Claims

variable {s t u v w : State} {x d code : Nat} {e : LabelEntry} {o : OrderEntry} {rest : List LabelEntry} {q : Byte}
  {P : Nat → Prop}

/-- The bytes that a reply writes before its order is told are not the waiting count's or the printer state's. -/
theorem ReplyTaken.reportKept {a : Nat} (h : ReplyTaken e rest code x d P s t) (hd : d = 0x0A ∨ d = 0x0C)
    (hP : ∀ a, P a → ChargeBytes e.slot (accountIndex s e.slot) a) (h5 : a = 0x5D09 ∨ a = 0x5D0B) : byteAt t a = byteAt s a := by
  have hn := e.slot.isLt
  have ho := outcome_eq e.slot
  have hb := accountBase_eq (accountIndex s e.slot)
  have hf := frameRecord_eq e.sheet e.frame
  have hi := sheetIndex_lt e.sheet
  refine h.bytes.byteAt fun c => ?_
  rcases c with c | c | c
  · omega
  · omega
  · have := hP a c
    omega

/-- What a matching reply leaves of an order that goes on. -/
structure ReplyGoesOn (e : LabelEntry) (rest : List LabelEntry) (d : Nat) (P : Nat → Prop) (s a t : State) : Prop where
  leaves : HeadLeaves s t rest
  falls : OutstandingFalls s t e.slot
  after : Writes (fun b => b = 0x5D09) a t
  bytes : Writes (fun b => HeadBytes e b ∨ within (outcome e.slot + d) 2 b ∨ P b ∨ b = 0x5D09) s t
  only : t = { s with mem := t.mem, labels := t.labels, orders := t.orders }

theorem reply_goesOn {a : State} (h : HeadReplied s q e rest) (goes : HeadOrderGoesOn s e) (hw : waitingCount s = 0)
    (hd : d = 0x0A ∨ d = 0x0C) (hP : ∀ a, P a → ChargeBytes e.slot (accountIndex s e.slot) a)
    (r : ReplyTaken e rest code x d P (setReceiver .idle s) a) :
    ReplyGoesOn e rest d P s a (afterReply (promoteLabels (labelSettled e.slot a))) := by
  obtain ⟨-, -, short, -, -, -, -, account, -, -, -⟩ := h
  have orders : a.orders = s.orders := r.only.orders
  have settled : labelSettled e.slot a = updateOrder e.slot lowerOutstanding a :=
    labelSettled_goesOn fun o ho => goes o ((findOrder_of_orders (by rw [orders])).symm.trans ho)
  have idle : waitingCount (updateOrder e.slot lowerOutstanding a) = 0 := (r.reportKept hd hP (.inr rfl)).trans hw
  rw [settled, promoteLabels_idle idle]
  have on := afterReply_goesOn (s := s) (rest := rest) (v := updateOrder e.slot lowerOutstanding a) r.memory r.labels
    (r.queueCount.trans (Nat.mod_eq_of_lt (by omega))) (r.reportKept hd hP (.inl rfl))
  have after : Writes (fun b => b = 0x5D09) a (afterReply (updateOrder e.slot lowerOutstanding a)) := on.bytes
  refine ⟨on.leaves, ?_, after, ?_, ?_⟩
  · refine on.only.orders.trans ?_
    show ({ a.orders with runList := a.orders.runList.map _ } : Orders) = _
    rw [orders]
    rfl
  · have before : Writes (fun b => HeadBytes e b ∨ within (outcome e.slot + d) 2 b ∨ P b) s a := r.bytes
    exact (before.mono fun b hb => by tauto).andThen (after.mono fun b hb => .inr (.inr (.inr hb)))
  · have only := on.only
    have first := r.only
    generalize afterReply (updateOrder e.slot lowerOutstanding a) = t at only
    unfold InLabels at only first
    rw [only, first]
    rfl

theorem labelPrice_lt (s : State) : labelPrice s < 65536 := by
  unfold labelPrice price
  have : Config.maxPrice < 65536 := by decide
  omega

/-- The label charge that an ACK enters on the head's frame. -/
theorem labelCharge_ackTaken (hm : MemoryOk s) :
    wordAt (ackTaken e rest s) (frameRecord e.sheet e.frame + 0x0A) = labelPrice s := by
  have hn := e.slot.isLt
  have ho := outcome_eq e.slot
  have hb := accountBase_eq (accountIndex s e.slot)
  have hf := frameRecord_eq e.sheet e.frame
  have hi := sheetIndex_lt e.sheet
  have hsize : Config.memorySize = 0x8000 := rfl
  have out := ackHead_out hm e rest
  have bytes := writes_charge e.slot (labelPrice s) (ackHead e rest s)
  rw [accountIndex_head out] at bytes
  have raised : Writes (within (outcome e.slot + 0x0A) 2) (charge e.slot (labelPrice s) (ackHead e rest s)) (ackTaken e rest s) :=
    (Keeps.refl _).setWord (apart_others fun b _ _ => by omega)
  have entered : wordAt (setLabelCharge e.sheet e.frame (labelPrice s) s) (frameRecord e.sheet e.frame + 0x0A) = labelPrice s :=
    (wordAt_setWord_same (a := frameRecord e.sheet e.frame + 0x0A) hm (by omega)).trans (Nat.mod_eq_of_lt (labelPrice_lt s))
  have marked := writes_setLabelState e.sheet e.frame .printed (setLabelCharge e.sheet e.frame (labelPrice s) s)
  have queued := writes_setQueue rest (setLabelState e.sheet e.frame .printed (setLabelCharge e.sheet e.frame (labelPrice s) s))
  refine (raised.wordAt (by omega) (by omega)).trans ((bytes.wordAt (by omega) (by omega)).trans ?_)
  exact (queued.wordAt (by omega) (by omega)).trans ((marked.wordAt (by omega) (by omega)).trans entered)

theorem spentCharged_ackTaken (hm : MemoryOk s) :
    SpentCharged (accountIndex s e.slot) (labelPrice s) s (ackTaken e rest s) := by
  have hn := e.slot.isLt
  have ho := outcome_eq e.slot
  have hb := accountBase_eq (accountIndex s e.slot)
  have hf := frameRecord_eq e.sheet e.frame
  have hi := sheetIndex_lt e.sheet
  have out := ackHead_out hm e rest
  have charged := spentCharged_charge out.memory e.slot (labelPrice s)
  rw [accountIndex_head out] at charged
  have head := out.bytes
  exact SpentCharged.carry (fun a h => head a (by omega)) charged
    ((Keeps.refl _).setWord fun b h0 h1 => by omega)

/-- What stays of a change that leaves only the printer state's byte. -/
theorem purse_afterReply {n : Slot} (h : Writes (fun b => b = 0x5D09) s t) :
    Keeps (SettledBytes n (accountIndex u n)) s t := by
  have hn := n.isLt
  have hs := slotBase_eq n
  have ho := outcome_eq n
  have hb := accountBase_eq (accountIndex u n)
  exact fun a c => h a (by omega)

/-- A NAK leaves the frame's label charge as it was. -/
theorem writes_nakTaken (hm : MemoryOk s) : Writes (fun a => a = frameRecord e.sheet e.frame ∨ a = 0x5D0A ∨ a = 0x5D09
    ∨ within (outcome e.slot + 0x0C) 2 a ∨ ReleaseBytes e.slot (accountIndex s e.slot) a) s (nakTaken e rest s) := by
  have marked := writes_setLabelState e.sheet e.frame .failed s
  have queued := writes_setQueue rest (setLabelState e.sheet e.frame .failed s)
  have freed := writes_release e.slot (labelPrice s) (nakHead e rest s)
  rw [accountIndex_head (nakHead_out hm e rest)] at freed
  have counted : Writes (within (outcome e.slot + 0x0C) 2) (release e.slot (labelPrice s) (nakHead e rest s)) (nakTaken e rest s) :=
    (Keeps.refl _).setWord (apart_others fun b _ _ => by omega)
  exact ((marked.mono fun a ha => .inl ha).andThen (queued.mono fun a ha => .inr (.inl ha))).andThen
    ((freed.mono fun a ha => .inr (.inr (.inr (.inr ha)))).andThen (counted.mono fun a ha => .inr (.inr (.inr (.inl ha)))))

/-- A byte's arrival at the receiver changes no amount. -/
theorem pays_received {n : Slot} (h : Pays n x (setReceiver .idle s) t) : Pays n x s t :=
  ⟨h.account, h.charged, h.left, h.owed, ⟨h.spent.amount, h.spent.full, h.spent.marked, h.spent.below⟩⟩

/-- Settles O50: an order that goes on, an order's last label, and a reply that does not match. -/
theorem repliesSettleTheHead : Obligations.RepliesSettleTheHead := by
  refine ⟨fun s q e rest hm h goes hw => ⟨?_, ?_⟩, fun s q e rest o hm h hw ho fin one => ?_, fun s q hs hn => ⟨?_, ?_⟩⟩
  · have parts := h
    obtain ⟨hs, hq, short, hseq, hp, h1, h40, account, amounts, roomA, roomC⟩ := parts
    have hn := e.slot.isLt
    have hso := outcome_eq e.slot
    have hb := accountBase_eq (accountIndex s e.slot)
    have hf := frameRecord_eq e.sheet e.frame
    have hi := sheetIndex_lt e.sheet
    have m0 : MemoryOk (setReceiver .idle s) := hm
    have r := ackTaken_reply (s := setReceiver .idle s) (rest := rest) m0 account
    have on := reply_goesOn h goes hw (.inl rfl) (fun _ c => c) r
    have run := (exec_ack hs q).trans (congrArg _ (takeAck_eq (s := setReceiver .idle s) hq (replyMatches_head hq hseq hp)))
    have after := on.after
    have kept := purse_afterReply (n := e.slot) (u := s) after
    have purse : Keeps (PurseBytes e.slot (accountIndex s e.slot)) _ _ := fun a c => kept a (.inl c)
    have pays : Pays e.slot (labelPrice s) s _ := (pays_received r.pays).andKept purse
    refine ⟨_, run, (labelCode_kept (keepsFrames_line after) _ _).trans r.code, ?_, ?_, ?_, on.leaves, on.falls, ?_, on.only⟩
    · exact (after.wordAt (by omega) (by omega)).trans (labelCharge_ackTaken (s := setReceiver .idle s) m0)
    · refine chargedAndReleased pays ?_ ?_ amounts
      · exact (purse.longAt (by omega) (by omega) (by omega) : remaining _ e.slot = _).trans r.left
      · exact SpentCharged.carry (.refl s) (spentCharged_ackTaken (s := setReceiver .idle s) m0) fun a c => purse a (by omega)
    · exact (after.wordAt (by omega) (by omega)).trans (r.count roomA)
    · exact on.bytes.mono fun a ha => by omega
  · have parts := h
    obtain ⟨hs, hq, short, hseq, hp, h1, h40, account, amounts, roomA, roomC⟩ := parts
    have hn := e.slot.isLt
    have hso := outcome_eq e.slot
    have hb := accountBase_eq (accountIndex s e.slot)
    have hf := frameRecord_eq e.sheet e.frame
    have hi := sheetIndex_lt e.sheet
    have m0 : MemoryOk (setReceiver .idle s) := hm
    have r : ReplyTaken e rest 4 0 0x0C (ReleaseBytes e.slot (accountIndex s e.slot)) (setReceiver .idle s) _ :=
      nakTaken_reply (s := setReceiver .idle s) (rest := rest) m0 account
    have on := reply_goesOn h goes hw (.inr rfl) (fun _ c => .inr (.inl c)) r
    have run := (exec_nak hs q).trans (congrArg _ (takeNak_eq (s := setReceiver .idle s) hq (replyMatches_head hq hseq hp)))
    have after := on.after
    have kept := purse_afterReply (n := e.slot) (u := s) after
    have purse : Keeps (PurseBytes e.slot (accountIndex s e.slot)) _ _ := fun a c => kept a (.inl c)
    have pays : Pays e.slot 0 s _ := (pays_received r.pays).andKept purse
    have left : remaining _ e.slot = remaining s e.slot - labelPrice s :=
      (purse.longAt (by omega) (by omega) (by omega) : remaining _ e.slot = _).trans r.left
    obtain ⟨covered, -, -⟩ := amounts
    have owed := pays.owed
    have spent := pays.spent.amount
    have charged := pays.charged
    have := spent_lt s (accountIndex s e.slot)
    have := charged_lt s e.slot
    refine ⟨_, run, (labelCode_kept (keepsFrames_line after) _ _).trans r.code, charged (by omega), left, ?_, by omega, ?_,
      on.leaves, on.falls, ?_, on.only⟩
    · rw [owed, left]
      omega
    · exact (after.wordAt (by omega) (by omega)).trans (r.count roomC)
    · have same : accountIndex (setReceiver .idle s) e.slot = accountIndex s e.slot := rfl
      have taken := writes_nakTaken (e := e) (rest := rest) (s := setReceiver .idle s) m0
      rw [same] at taken
      exact (taken.andThen (after.mono fun a ha => .inr (.inr (.inl ha)))).mono fun a ha => by omega
  · obtain ⟨hs, hq, short, hseq, hp, h1, h40, account, amounts, roomA, roomC⟩ := h
    have m0 : MemoryOk (setReceiver .idle s) := hm
    have r := ackTaken_reply (s := setReceiver .idle s) (rest := rest) m0 account
    have run := (exec_ack hs q).trans (congrArg _ (takeAck_eq (s := setReceiver .idle s) hq (replyMatches_head hq hseq hp)))
    obtain ⟨a, ha⟩ : ∃ a, a = ackTaken e rest (setReceiver .idle s) := ⟨_, rfl⟩
    rw [← ha] at r run
    have orders : a.orders = s.orders := r.only.orders
    have found : findOrder a e.slot = some o := (findOrder_of_orders (by rw [orders])).trans ho
    have hn := e.slot.isLt
    have hsb := slotBase_eq e.slot
    have hso := outcome_eq e.slot
    have hb := accountBase_eq (accountIndex s e.slot)
    have hf := frameRecord_eq e.sheet e.frame
    have hi := sheetIndex_lt e.sheet
    have hpr : Config.prices = 0x5900 := rfl
    have hr : Config.report = 0x5D00 := rfl
    have written : Writes (fun b => HeadBytes e b ∨ within (outcome e.slot + 0x0A) 2 b
        ∨ ChargeBytes e.slot (accountIndex s e.slot) b) s a := r.bytes
    have accountA : accountIndex a e.slot = accountIndex s e.slot := r.pays.account
    have settled := writes_labelSettled e.slot a
    rw [accountA] at settled
    have idle : waitingCount (labelSettled e.slot a) = 0 := (settled.byteAt (by omega)).trans ((written.byteAt (by omega)).trans hw)
    rw [promoteLabels_idle idle] at run
    have on : Writes (fun b => b = 0x5D09) (labelSettled e.slot a) (afterReply (labelSettled e.slot a))
        ∧ InLabels (labelSettled e.slot a) (afterReply (labelSettled e.slot a)) := by
      unfold afterReply
      split
      · exact ⟨.refl _, rfl⟩
      · have entered := entersReady (memoryOk_labelSettled (n := e.slot) r.memory)
        exact ⟨entered.bytes, entered.only⟩
    obtain ⟨after, inLabels⟩ := on
    have exposed : framesExposed a e.slot = framesExposed s e.slot := written.wordAt (by omega) (by omega)
    have surcharge : rushSurcharge a = rushSurcharge s := price_kept fun b hb => written b (by omega)
    have paid : Pays e.slot (labelPrice s) s a := pays_received r.pays
    have last := lastLabel r.memory found fin (by omega) account paid (surchargeDue_kept exposed surcharge)
      (purse_afterReply after) inLabels.orders
    have control : (afterReply (labelSettled e.slot a)).control = (raise .orderDone a).control :=
      inLabels.control.trans (labelSettled_last_control found fin (by omega))
    obtain ⟨-, hslot⟩ := findOrder_some ho
    have complete : allComplete a o.slot = allComplete s o.slot := allComplete_kept fun b hbytes => written b (by
      rw [hslot] at hbytes
      rcases hbytes with hbytes | ⟨j, rfl⟩
      · omega
      · have := shotOutcome_eq e.slot j
        omega)
    refine ⟨_, run, last.reads.recorded, last.reads.found, last.amounts.1, flag_orderDone_raised control,
      last.reads.state.trans ?_, ?_, last.amounts⟩
    · unfold completionCode
      rw [complete, hslot]
    · rw [last.runList, orders]
  · refine ⟨_, exec_ack hs q, ?_⟩
    unfold takeAck
    rw [replyMatches_none (s := setReceiver .idle s) hn, if_neg Bool.false_ne_true]
    rfl
  · refine ⟨_, exec_nak hs q, ?_⟩
    unfold takeNak
    rw [replyMatches_none (s := setReceiver .idle s) hn, if_neg Bool.false_ne_true]
    rfl

end Sys2Proof.Proofs
end

section
/-! SUPPORT. Frames that become UNUSED at a jam and at a retirement, and the rewind's end (R44, R89, R90, R104, R108, R109). -/

namespace Sys2Proof.Proofs

open Sys2Proof Sys2Proof.Machine Sys2Proof.Safety Sys2Proof.Laws Sys2Proof.Claims

variable {s t u : State} {n : Slot} {sh : Sheet} {k j : Nat} {xs : List Nat} {P : Nat → Nat → Bool} {bk : Back} {w : Which}

/-! ### Frames closed UNUSED one after another (R104) -/

/-- The frames of a list that a rule on number and state picks out have become UNUSED. -/
structure ClosesFrames (sh : Sheet) (P : Nat → Nat → Bool) (xs : List Nat) (s t : State) : Prop where
  frames : ∀ j, 1 ≤ j → j ≤ 40 →
    frameCode t sh j = if j ∈ xs ∧ P j (frameCode s sh j) = true then 4 else frameCode s sh j
  bytes : Writes (fun a => a = sheetBase sh + 0x0A ∨ ∃ k ∈ xs, a = frameRecord sh k) s t
  only : t = { s with mem := t.mem }
  memory : MemoryOk t

theorem frameRecord_same (hj : 1 ≤ j) (hj' : j ≤ 40) (hk : 1 ≤ k) (hk' : k ≤ 40) : frameRecord sh j = frameRecord sh k ↔ j = k := by
  rw [frameRecord_eq, frameRecord_eq]
  omega

namespace ClosesFrames

theorem none (hm : MemoryOk s) (h : P k (frameCode s sh k) = false) : ClosesFrames sh P [k] s s := by
  refine ⟨fun j _ _ => (if_neg fun c => ?_).symm, .refl s, rfl, hm⟩
  obtain ⟨hj, hp⟩ := c
  rw [List.mem_singleton.mp hj, h] at hp
  exact Bool.false_ne_true hp

theorem one (hk : 1 ≤ k) (hk' : k ≤ 40) (h : P k (frameCode s sh k) = true) (hc : frameCode t sh = fun j =>
      if frameRecord sh j = frameRecord sh k then 4 else frameCode s sh j)
    (hb : Writes (fun a => a = sheetBase sh + 0x0A ∨ a = frameRecord sh k) s t) (ho : t = { s with mem := t.mem })
    (ht : MemoryOk t) : ClosesFrames sh P [k] s t := by
  refine ⟨fun j hj hj' => ?_, hb.mono fun a ha => ha.imp_right fun e => ⟨k, .head _, e⟩, ho, ht⟩
  rw [hc]
  dsimp only
  by_cases e : j = k
  · rw [if_pos (by rw [e]), if_pos ⟨List.mem_singleton.mpr e, e ▸ h⟩]
  · rw [if_neg fun c => e ((frameRecord_same hj hj' hk hk').mp c), if_neg fun c => e (List.mem_singleton.mp c.1)]

theorem close (hm : MemoryOk s) (hk : 1 ≤ k) (hk' : k ≤ 40) (h : P k (frameCode s sh k) = true) :
    ClosesFrames sh P [k] s (closeFrame sh k .unused s) := by
  refine one hk hk' h (funext fun j => frameCode_closeFrame hm .unused) ?_ (closeFrame_only_mem ..)
    ((Quiet.closeFrame (Quiet.refl s)).memory hm)
  have marked : Writes (fun a => a = sheetBase sh + 0x0A ∨ a = frameRecord sh k) s (setFrameState sh k .unused s) :=
    (Keeps.refl s).setByte (apart_others fun b _ _ => by omega)
  exact Keeps.ite (fun _ => marked.setByte (apart_others fun b hb hb' => by
    have : sheetCount .unused = 0x0A := rfl
    omega)) fun _ => marked

theorem mark (hm : MemoryOk s) (hk : 1 ≤ k) (hk' : k ≤ 40) (h : P k (frameCode s sh k) = true) :
    ClosesFrames sh P [k] s (setFrameState sh k .unused s) :=
  one hk hk' h (funext fun j => frameCode_setFrameState hm .unused)
    ((Keeps.refl s).setByte (apart_others fun b _ _ => by omega)) rfl (memoryOk_setByte hm)

theorem capacityKept (h : ClosesFrames sh P xs s t) : capacity t sh = capacity s sh :=
  h.bytes.byteAt fun c => by
    rcases c with c | ⟨k, -, c⟩
    · omega
    · rw [frameRecord_eq, sheetBase_eq] at c
      omega

theorem all {g : State → Nat → State} (hm : MemoryOk s) (hx : ∀ k ∈ xs, 1 ≤ k ∧ k ≤ 40) (hn : xs.Nodup)
    (hg : ∀ v k, k ∈ xs → MemoryOk v → capacity v sh = capacity s sh → ClosesFrames sh P [k] v (g v k)) :
    ClosesFrames sh P xs s (xs.foldl g s) := by
  induction xs generalizing s with
  | nil => exact ⟨fun j _ _ => (if_neg fun c => List.not_mem_nil c.1).symm, .refl s, rfl, hm⟩
  | cons x xs ih =>
    obtain ⟨hx0, hnx⟩ := List.nodup_cons.mp hn
    have first := hg s x (.head _) hm rfl
    have rest := ih first.memory (fun k hk => hx k (.tail _ hk)) hnx fun v k hk hv hc =>
      hg v k (.tail _ hk) hv (hc.trans first.capacityKept)
    refine ⟨fun j hj hj' => ?_, ?_, only_mem_trans first.only rest.only, rest.memory⟩
    · rw [List.foldl_cons, rest.frames j hj hj', first.frames j hj hj']
      by_cases e : j = x
      · subst e
        rw [if_neg fun c => hx0 c.1]
        simp
      · simp [e]
    · exact (first.bytes.mono fun a ha => ha.imp_right fun ⟨k, hk, e⟩ => ⟨k, by
        rw [List.mem_singleton.mp hk]
        exact .head _, e⟩).andThen (rest.bytes.mono fun a ha => ha.imp_right fun ⟨k, hk, e⟩ => ⟨k, .tail _ hk, e⟩)

end ClosesFrames

theorem mem_frameNumbers : k ∈ frameNumbers ↔ 1 ≤ k ∧ k ≤ 40 := by
  have : Config.sheetFrames = 40 := rfl
  unfold frameNumbers
  rw [List.mem_range'_1]
  omega

theorem frameNumbers_nodup : frameNumbers.Nodup := List.nodup_range' ..

theorem isReserved_iff : isReserved s sh k = decide (frameCode s sh k = 1) := rfl

/-! ### A jam's frames (R90) -/

/-- A jam drops a RESERVED frame that is not the exception. -/
def jamDrops (except : Option Nat) (k code : Nat) : Bool := decide (code = 1) && decide (except ≠ some k)

theorem closesFrames_dropAllReserved (hm : MemoryOk s) (except : Option Nat) :
    ClosesFrames sh (jamDrops except) frameNumbers s (dropAllReserved sh except s) := by
  refine ClosesFrames.all hm (fun k hk => mem_frameNumbers.mp hk) frameNumbers_nodup fun v k hk hv _ => ?_
  obtain ⟨h1, h40⟩ := mem_frameNumbers.mp hk
  by_cases he : except = some k
  · rw [if_pos he]
    exact .none hv (by simp [jamDrops, he])
  · rw [if_neg he]
    unfold dropReserved
    split
    · next h => exact .close hv h1 h40 (by simpa [jamDrops, he, isReserved_iff] using h)
    · next h => exact .none hv (by simpa [jamDrops, he, isReserved_iff] using h)

/-- What a jam leaves of common memory. -/
theorem jamBack_mem (bk : Back) (s : State) : ∃ v, v.mem = (jamDropped bk s).mem ∧ (jamBack bk s).mem = (enterBack bk .jammed v).mem := by
  refine ⟨_, ?_, by rw [jamBack_eq, raise_mem]⟩
  unfold setShutter stopMotor setMotor
  rw [setBack_mem, setBack_mem]

theorem jamDropped_live {w : Which} (h : (s.back bk).live = some w) :
    jamDropped bk s = dropAllReserved ⟨bk, w⟩ (jamException (s.back bk)) s := by
  unfold jamDropped liveSheet
  rw [h]
  rfl

theorem memoryOk_jamBack (hm : MemoryOk s) : MemoryOk (jamBack bk s) := (Quiet.jamBack (Quiet.refl s)).memory hm

theorem dropsReserved_jamBack (hm : MemoryOk s) : DropsReserved s (jamBack bk s) bk (jamException (s.back bk)) := by
  obtain ⟨v, hv, hj⟩ := jamBack_mem bk s
  have hr : Config.report = 0x5D00 := rfl
  have hb := backOffset_bounds bk
  have entered := writes_enterBack bk .jammed v
  have mv : ∀ {x : State}, MemoryOk x → (jamDropped bk s) = x → MemoryOk v := fun hx e => by rw [MemoryOk, hv, e]; exact hx
  cases hl : (s.back bk).live with
  | none =>
    refine ⟨fun w k hw => (by rw [hl] at hw; cases hw), reportByte_jamBack_noSheet hm hl, ?_⟩
    exact (writes_jamBack_noSheet hl).mono fun a ha => .inl ha
  | some w =>
    have drops := closesFrames_dropAllReserved (sh := ⟨bk, w⟩) hm (jamException (s.back bk))
    have memory := mv drops.memory (jamDropped_live hl)
    rw [← jamDropped_live hl] at drops
    have toEnd : Writes (fun a => a = 0x5D00 + backOffset bk) (jamDropped bk s) (jamBack bk s) :=
      Keeps.same (Keeps.trans ((Keeps.refl _).same hv) entered) hj
    refine ⟨fun w' k hw h1 h40 => ?_, ?_, ?_⟩
    · obtain rfl : w = w' := Option.some.inj (hl.symm.trans hw)
      have kept : frameCode (jamBack bk s) ⟨bk, w⟩ k = frameCode (jamDropped bk s) ⟨bk, w⟩ k := by
        refine frameCode_kept (fun a ha => toEnd a fun c => ?_) _ _
        obtain ⟨x, i, rfl⟩ := ha
        have := sheetIndex_lt x
        rw [frameRecord_eq] at c
        omega
      rw [kept, drops.frames k h1 h40]
      simp [mem_frameNumbers, jamDrops, h1, h40]
    · exact reportByte_enterBack (s := v) memory ((Keeps.refl _).same hj)
    · refine (drops.bytes.mono fun a ha => ?_).andThen (toEnd.mono fun a ha => .inl ha)
      refine .inr ⟨w, hl, ha.imp_right ?_⟩
      rintro ⟨k, hk, e⟩
      exact ⟨k, (mem_frameNumbers.mp hk).1, (mem_frameNumbers.mp hk).2, e⟩

/-! ### A retirement (R108, R109) -/

/-- A retirement closes the RESERVED frames, and the BLANK ones up to the capacity. -/
def retireCloses (cap k code : Nat) : Bool := decide (code = 1) || decide (code = 0) && decide (k ≤ cap)

/-- The frames of a sheet closed at its retirement. -/
def retiredFrames (sh : Sheet) (s : State) : State := frameNumbers.foldl (fun s k => retireFrame sh k s) s

theorem closesFrames_retired (hm : MemoryOk s) : ClosesFrames sh (retireCloses (capacity s sh)) frameNumbers s (retiredFrames sh s) := by
  refine ClosesFrames.all hm (fun k hk => mem_frameNumbers.mp hk) frameNumbers_nodup fun v k hk hv hc => ?_
  obtain ⟨h1, h40⟩ := mem_frameNumbers.mp hk
  have rule : (isReserved v sh k || (decide (frameCode v sh k = FrameState.blank.code) && decide (k ≤ capacity v sh)))
      = retireCloses (capacity s sh) k (frameCode v sh k) := by
    rw [hc]
    rfl
  unfold retireFrame
  split
  · next h => exact .close hv h1 h40 (rule ▸ h)
  · next h => exact .none hv (rule ▸ Bool.eq_false_of_not_eq_true h)

/-- The header of a retired sheet: frames used, the cause, and the hand. -/
def retiredHeader (sh : Sheet) (cause : Nat) (s : State) : State :=
  setWord (sheetBase sh) SheetHand.retired.code (setByte (sheetBase sh + 0x0B) cause (setByte (sheetBase sh + 0x06) (capacity s sh) s))

/-- A unit whose sheet has been retired. -/
def retiredUnit (w : Which) (u : BackUnit) : BackUnit :=
  match w with
  | .first => { u with handFirst := .retired, live := none }
  | .second => { u with handSecond := .retired, live := none }

theorem retireSheet_eq (bk : Back) (w : Which) (c : RetireCause) (s : State) :
    retireSheet ⟨bk, w⟩ c s = raise .sheetRetired (setLive bk none (recordSheetHand ⟨bk, w⟩ .retired
      (retiredHeader ⟨bk, w⟩ c.code (retiredFrames ⟨bk, w⟩ s)))) := rfl

theorem RetireCause.code_lt (c : RetireCause) : c.code < 256 := by cases c <;> decide

theorem retiredHeader_only_mem (sh : Sheet) (c : Nat) (s : State) : retiredHeader sh c s = { s with mem := (retiredHeader sh c s).mem } :=
  only_mem_trans (only_mem_trans (setByte_only_mem ..) (setByte_only_mem ..)) (setWord_only_mem ..)

theorem writes_retiredHeader (sh : Sheet) (c : Nat) (s : State) :
    Writes (fun a => within (sheetBase sh) 2 a ∨ a = sheetBase sh + 6 ∨ a = sheetBase sh + 0x0B) s (retiredHeader sh c s) :=
  (((Keeps.refl s).setByte (apart_others fun b _ _ => by omega)).setByte (apart_others fun b _ _ => by omega)).setWord
    (apart_others fun b _ _ => by omega)

/-- A retired sheet's unit is one whose hand and LIVE sheet have changed. -/
theorem retire_becomes {x : BackUnit} (h : BackBecomes bk x s t) :
    BackBecomes bk (retiredUnit w x) s (setLive bk none (recordSheetHand ⟨bk, w⟩ .retired t)) := by
  have recorded : BackBecomes bk (match w with
      | .first => { x with handFirst := .retired }
      | .second => { x with handSecond := .retired }) s (recordSheetHand ⟨bk, w⟩ .retired t) := by
    unfold recordSheetHand
    cases w
    · dsimp only
      rw [h.unit]
      exact h.setBack _
    · dsimp only
      rw [h.unit]
      exact h.setBack _
  unfold setLive
  rw [recorded.unit]
  have done := (recorded.setBack (retiredUnit w x)).report (k := liveOffset bk) (v := liveCode none)
  cases w <;> exact done

end Sys2Proof.Proofs
end

section
/-! SUPPORT. A retired LIVE sheet, the end of a rewind and its REWIND task (R44, R89, R108, R109). -/

namespace Sys2Proof.Proofs

open Sys2Proof Sys2Proof.Machine Sys2Proof.Safety Sys2Proof.Laws Sys2Proof.Claims

variable {s t u : State} {n : Slot} {sh : Sheet} {k j : Nat} {bk : Back} {w : Which} {e : OrderEntry} {x : BackUnit}

/-! ### Units that change step by step -/

theorem BackBecomes.refl (bk : Back) (s : State) : BackBecomes bk (s.back bk) s s := by
  cases bk <;> exact ⟨rfl, rfl, rfl, .same rfl⟩

theorem BackBecomes.memory (h : BackBecomes bk x s t) (ho : u = { t with mem := u.mem }) : BackBecomes bk x s u := by
  obtain ⟨m, rfl⟩ : ∃ m, u = { t with mem := m } := ⟨_, ho⟩
  obtain ⟨unit, other, rest, flags⟩ := h
  refine ⟨?_, ?_, congrArg (fun v : State => { v with mem := m }) rest, flags⟩
  · cases bk <;> exact unit
  · cases bk <;> exact other

theorem BackBecomes.stopMotor (h : BackBecomes bk x s t) :
    BackBecomes bk { x with motor := stoppedMotor x.motor } s (stopMotor bk t) := by
  unfold Machine.stopMotor setMotor
  rw [h.unit]
  exact h.setBack _

theorem BackBecomes.setGateFrame (h : BackBecomes bk x s t) (k : Nat) : BackBecomes bk { x with gateFrame := k } s (setGateFrame bk k t) := by
  unfold Machine.setGateFrame
  rw [h.unit]
  exact h.setBack _

theorem stopMotor_mem (bk : Back) (s : State) : (stopMotor bk s).mem = s.mem := setBack_mem ..

/-! ### A LIVE sheet retired (R109) -/

/-- The bytes that a retirement writes: the sheet's header and frames, and the back's live sheet. -/
abbrev RetireBytes (bk : Back) (sh : Sheet) (a : Nat) : Prop :=
  within (sheetBase sh) 2 a ∨ a = sheetBase sh + 6 ∨ within (sheetBase sh + 0x0A) 2 a
    ∨ (∃ k, 1 ≤ k ∧ k ≤ 40 ∧ a = frameRecord sh k) ∨ a = 0x5D00 + liveOffset bk

theorem writes_setLive (bk : Back) (v : Option Which) (s : State) : Writes (fun a => a = 0x5D00 + liveOffset bk) s (setLive bk v s) :=
  ((Keeps.refl s).same (setBack_mem ..)).report (apart_others fun b _ _ => by have : Config.report = 0x5D00 := rfl; omega)

theorem writes_retireSheet (hm : MemoryOk s) (bk : Back) (w : Which) (c : RetireCause) :
    Writes (RetireBytes bk ⟨bk, w⟩) s (retireSheet ⟨bk, w⟩ c s) := by
  have closed := (closesFrames_retired (sh := ⟨bk, w⟩) hm).bytes
  have header := writes_retiredHeader ⟨bk, w⟩ c.code (retiredFrames ⟨bk, w⟩ s)
  have live := writes_setLive bk none (recordSheetHand ⟨bk, w⟩ .retired (retiredHeader ⟨bk, w⟩ c.code (retiredFrames ⟨bk, w⟩ s)))
  rw [retireSheet_eq]
  refine Keeps.raise ((closed.mono fun a ha => ?_).andThen (Writes.andThen (Keeps.same (header.mono fun a ha => ?_)
    (recordSheetHand_mem ..)) (live.mono fun a ha => ?_)))
  · rcases ha with ha | ⟨k, hk, ha⟩
    · exact .inr (.inr (.inl (by omega)))
    · exact .inr (.inr (.inr (.inl ⟨k, (mem_frameNumbers.mp hk).1, (mem_frameNumbers.mp hk).2, ha⟩)))
  · rcases ha with ha | ha | ha
    · exact .inl ha
    · exact .inr (.inl ha)
    · exact .inr (.inr (.inl (by omega)))
  · exact .inr (.inr (.inr (.inr ha)))

theorem liveOffset_bounds (bk : Back) : 6 ≤ liveOffset bk ∧ liveOffset bk ≤ 7 := by cases bk <;> decide

/-- What a retirement of the LIVE sheet leaves. -/
structure RetiresLive (bk : Back) (w : Which) (cause : Nat) (s t : State) : Prop where
  found : sheetHandFound t ⟨bk, w⟩ = 3
  cause : byteAt t (sheetBase ⟨bk, w⟩ + 0x0B) = cause
  used : framesUsed t ⟨bk, w⟩ = capacity s ⟨bk, w⟩
  capacity : capacity t ⟨bk, w⟩ = capacity s ⟨bk, w⟩
  frames : ∀ k, 1 ≤ k → k ≤ 40 → frameCode t ⟨bk, w⟩ k
    = if frameCode s ⟨bk, w⟩ k = 1 ∨ frameCode s ⟨bk, w⟩ k = 0 ∧ k ≤ Machine.capacity s ⟨bk, w⟩ then 4
      else frameCode s ⟨bk, w⟩ k
  bytes : Writes (RetireBytes bk ⟨bk, w⟩) s t
  control : t.control = (raise .sheetRetired s).control
  memory : MemoryOk t

theorem retiresLive (hm : MemoryOk s) (bk : Back) (w : Which) (c : RetireCause) :
    RetiresLive bk w c.code s (retireSheet ⟨bk, w⟩ c s) := by
  have hi := sheetIndex_lt ⟨bk, w⟩
  have hb := sheetBase_eq ⟨bk, w⟩
  have hl := liveOffset_bounds bk
  have hsize : Config.memorySize = 0x8000 := rfl
  have closed := closesFrames_retired (sh := ⟨bk, w⟩) hm
  have bytes := writes_retireSheet hm bk w c
  obtain ⟨f, hf⟩ : ∃ f, f = retiredFrames ⟨bk, w⟩ s := ⟨_, rfl⟩
  have eq := retireSheet_eq bk w c s
  rw [← hf] at closed eq
  have header := writes_retiredHeader ⟨bk, w⟩ c.code f
  have live := writes_setLive bk none (recordSheetHand ⟨bk, w⟩ .retired (retiredHeader ⟨bk, w⟩ c.code f))
  have last : Writes (fun a => a = 0x5D00 + liveOffset bk) (retiredHeader ⟨bk, w⟩ c.code f) (retireSheet ⟨bk, w⟩ c s) := by
    rw [eq]
    exact Keeps.raise (Keeps.trans ((Keeps.refl _).same (recordSheetHand_mem ..)) live)
  have capF : Machine.capacity f ⟨bk, w⟩ = Machine.capacity s ⟨bk, w⟩ := closed.capacityKept
  have m2 : MemoryOk (setByte (sheetBase ⟨bk, w⟩ + 0x06) (Machine.capacity f ⟨bk, w⟩) f) := memoryOk_setByte closed.memory
  have m3 : MemoryOk (setByte (sheetBase ⟨bk, w⟩ + 0x0B) c.code
    (setByte (sheetBase ⟨bk, w⟩ + 0x06) (Machine.capacity f ⟨bk, w⟩) f)) := memoryOk_setByte m2
  have hcap : Machine.capacity f ⟨bk, w⟩ < 256 := byteAt_lt _ _
  refine ⟨?_, ?_, ?_, ?_, fun k h1 h40 => ?_, bytes, ?_, ?_⟩
  · exact (last.wordAt (by omega) (by omega)).trans (sheetHandFound_setHand (x := .retired) m3)
  · refine (last.byteAt (by omega)).trans ?_
    refine (((Keeps.refl _).setWord (a := sheetBase ⟨bk, w⟩) (n := SheetHand.retired.code)
      (apart_byte (k := sheetBase ⟨bk, w⟩ + 0x0B) (by omega))).byteAt rfl).trans ?_
    exact (byteAt_setByte_same m2 (by omega)).trans (Nat.mod_eq_of_lt (RetireCause.code_lt c))
  · refine (last.byteAt (by omega)).trans ?_
    refine ((((Keeps.refl _).setByte (a := sheetBase ⟨bk, w⟩ + 0x0B) (n := c.code)
      (apart_byte (k := sheetBase ⟨bk, w⟩ + 0x06) (by omega))).setWord (a := sheetBase ⟨bk, w⟩)
        (n := SheetHand.retired.code) (apart_byte (by omega))).byteAt rfl).trans ?_
    exact (byteAt_setByte_same closed.memory (by omega)).trans ((Nat.mod_eq_of_lt hcap).trans capF)
  · exact (last.byteAt (by omega)).trans ((header.byteAt (by omega)).trans capF)
  · have kept : frameCode (retireSheet ⟨bk, w⟩ c s) ⟨bk, w⟩ k = frameCode f ⟨bk, w⟩ k := by
      have hr := frameRecord_eq ⟨bk, w⟩ k
      unfold frameCode
      rw [last.byteAt (by omega), header.byteAt (by omega)]
    rw [kept, closed.frames k h1 h40]
    simp [mem_frameNumbers, retireCloses, h1, h40]
  · rw [eq]
    refine raise_control_of ?_
    unfold setLive
    rw [report_control, setBack_control, recordSheetHand_only, retiredHeader_only_mem, closed.only]
  · rw [eq]
    exact memoryOk_raise (memoryOk_report (by
      rw [MemoryOk, setBack_mem, recordSheetHand_mem]
      exact memoryOk_setWord m3))

theorem retireLive_some (h : (s.back bk).live = some w) (c : RetireCause) : retireLive bk c s = retireSheet ⟨bk, w⟩ c s := by
  unfold retireLive liveSheet
  rw [h]
  rfl

theorem retireLive_none (h : (s.back bk).live = none) (c : RetireCause) : retireLive bk c s = s := by
  unfold retireLive liveSheet
  rw [h]
  rfl

theorem BackBecomes.retireSheet (hm : MemoryOk t) (c : RetireCause) (h : BackBecomes bk x s t) :
    BackBecomes bk (retiredUnit w x) s (retireSheet ⟨bk, w⟩ c t) := by
  rw [retireSheet_eq]
  have framed := h.memory (closesFrames_retired (sh := ⟨bk, w⟩) hm).only
  exact (retire_becomes (framed.memory (retiredHeader_only_mem ..))).raise

end Sys2Proof.Proofs
end

section
/-! SUPPORT. The end of a rewind: the back at FILM_OUT or JAMMED, and its REWIND task ended (R44, R89, R90, R109). -/

namespace Sys2Proof.Proofs

open Sys2Proof Sys2Proof.Machine Sys2Proof.Safety Sys2Proof.Laws Sys2Proof.Claims

variable {s t u : State} {n : Slot} {sh : Sheet} {k j : Nat} {bk : Back} {w : Which} {e : OrderEntry} {x : BackUnit}

/-! ### The REWIND task (R44) -/

theorem rewindTask_kept (ho : t.orders = s.orders) (h : Keeps (fun a => a < 0x4000) s t) : rewindTask t bk = rewindTask s bk := by
  have choice (n : Slot) : backChoice t n = backChoice s n := h.byteAt (by
    have := n.isLt
    have := slotBase_eq n
    omega)
  unfold rewindTask
  rw [ho]
  simp only [choice]

theorem endRewindTask_none (o : OrderState) (h : rewindTask s bk = none) : endRewindTask bk o s = s := by
  unfold endRewindTask
  rw [h]

theorem endRewindTask_some (o : OrderState) (h : rewindTask s bk = some e) : endRewindTask bk o s = finishOrder e.slot o s := by
  unfold endRewindTask
  rw [h]

theorem taskEnded (hm : MemoryOk t) (ho : t.orders = s.orders) (o : OrderState) : TaskEnded s (finishOrder e.slot o t) e o.code := by
  have reads := finishReads (n := e.slot) o hm
  refine ⟨reads.recorded, reads.found, reads.state, reads.sub, (raisesOnly_finishOrder e.slot o t).1, ?_⟩
  rw [finishOrder_orders, ho]

/-! ### What the end of the task leaves alone -/

theorem keepsSheets_finishOrder (n : Slot) (o : OrderState) (s : State) :
    Keeps (fun a => 0x4000 ≤ a ∧ a < 0x5000) s (finishOrder n o s) := fun a ha => writes_finishOrder n o s a (by
  have := n.isLt
  have := slotBase_eq n
  have := outcome_eq n
  omega)

theorem sheetHand_of_back (h : t.back sh.back = s.back sh.back) : sheetHand t sh = sheetHand s sh := by
  unfold sheetHand
  rw [h]

theorem retired_carry {c : Nat} (h : Retired s t sh c) (k : Keeps (fun a => 0x4000 ≤ a ∧ a < 0x5000) t u)
    (hb : u.back sh.back = t.back sh.back) : Retired s u sh c := by
  obtain ⟨hand, found, cause, used, cap, frames⟩ := h
  have hi := sheetIndex_lt sh
  have hs := sheetBase_eq sh
  refine ⟨(sheetHand_of_back hb).trans hand, (k.wordAt (by omega) (by omega)).trans found, (k.byteAt (by omega)).trans cause,
    (k.byteAt (by omega)).trans used, (k.byteAt (by omega)).trans cap, fun j h1 h40 => ?_⟩
  have kept : frameCode u sh j = frameCode t sh j := by
    have hr := frameRecord_eq sh j
    unfold frameCode
    rw [k.byteAt (by omega)]
  rw [kept, frames j h1 h40]

theorem jammed_carry (h : Jammed s t bk) (hb : ∀ c, u.back c = t.back c)
    (hf : flagSet t .backFault = true → flagSet u .backFault = true) : Jammed s u bk := by
  obtain ⟨state, motor, command, timer, live, origin, flag, other⟩ := h
  unfold Jammed KeepsOther
  rw [hb, hb]
  exact ⟨state, motor, command, timer, live, origin, hf flag, other⟩

/-! ### Jams (R90) -/

theorem jammed_jamBack (bk : Back) (s : State) : Jammed s (jamBack bk s) bk := by
  have jam := jamBack_becomes bk s
  unfold Jammed KeepsOther
  rw [jam.unit]
  exact ⟨rfl, ⟨rfl, rfl, rfl, rfl, rfl⟩, rfl, rfl, rfl, rfl, (raisesOnly_of_control (jamBack_control bk s)).1, jam.other⟩

theorem onlyJams_jamBack (hm : MemoryOk s) (bk : Back) : OnlyJams s (jamBack bk s) bk (jamException (s.back bk)) :=
  ⟨jammed_jamBack bk s, dropsReserved_jamBack hm, raisesOnly_of_control (jamBack_control bk s), (jamBack_becomes bk s).rest⟩

theorem keepsSlots_jamBack (hm : MemoryOk s) (bk : Back) : Keeps (fun a => a < 0x4000) s (jamBack bk s) := by
  obtain ⟨-, -, bytes⟩ := dropsReserved_jamBack (bk := bk) hm
  intro a ha
  have hi (w : Which) := sheetIndex_lt ⟨bk, w⟩
  have hs (w : Which) := sheetBase_eq ⟨bk, w⟩
  refine bytes a fun c => ?_
  rcases c with c | ⟨w, -, c | ⟨k, -, -, c⟩⟩
  · omega
  · have := hs w
    omega
  · rw [frameRecord_eq] at c
    omega

/-! ### The leader run's end (R89) -/

/-- The back at the leader run's end, before its task ends. -/
def rewoundOut (bk : Back) (s : State) : State :=
  setGateFrame bk 0 (enterBack bk .filmOut (retireLive bk (rewindCause (s.back bk).origin) (stopMotor bk s)))

theorem stopMotor_live (bk : Back) (s : State) : ((stopMotor bk s).back bk).live = (s.back bk).live ∧
    ((stopMotor bk s).back bk).origin = (s.back bk).origin := by
  have stopped := (BackBecomes.refl bk s).stopMotor
  rw [stopped.unit]
  exact ⟨rfl, rfl⟩

theorem endRewind_eq (bk : Back) (s : State) : endRewind bk s = endRewindTask bk .complete (rewoundOut bk s) := by
  unfold endRewind rewoundOut
  dsimp only

theorem rewindCause_code (o : RewindOrigin) : (rewindCause o).code = causeOf o := by
  cases o with
  | none => rfl
  | auto => rfl
  | left state => cases state <;> rfl

/-- What the leader run's end leaves, with a LIVE sheet or none. -/
structure RewoundOut (bk : Back) (s t : State) : Prop where
  state : (t.back bk).state = .filmOut
  gateFrame : (t.back bk).gateFrame = 0
  stopped : MotorStopped (t.back bk)
  live : (t.back bk).live = none
  origin : (t.back bk).origin = .none
  other : KeepsOther bk s t
  rest : t = { s with mem := t.mem, backA := t.backA, backB := t.backB, control := t.control }
  retired : ∀ w, (s.back bk).live = some w → Retired s t ⟨bk, w⟩ (causeOf (s.back bk).origin)
    ∧ Writes (RetirementWrites bk ⟨bk, w⟩) s t ∧ RaisesOnly .sheetRetired s t
  bare : (s.back bk).live = none → Writes (fun a => a = 0x5D00 + backOffset bk) s t ∧ t.control = s.control
  memory : MemoryOk t

theorem BackBecomes.outBy (h : BackBecomes bk x s t) : BackBecomes bk { x with state := .filmOut, origin := .none, gateFrame := 0 } s
    (Machine.setGateFrame bk 0 (Machine.enterBack bk .filmOut t)) := (h.enterBack (st := .filmOut)).setGateFrame 0

theorem memoryOk_outBy (hm : MemoryOk t) : MemoryOk (setGateFrame bk 0 (enterBack bk .filmOut t)) := by
  rw [MemoryOk, setGateFrame_mem]
  exact memoryOk_report (by rw [MemoryOk, setBack_mem]; exact hm)

theorem writes_outBy (bk : Back) (t : State) :
    Writes (fun a => a = 0x5D00 + backOffset bk) t (setGateFrame bk 0 (enterBack bk .filmOut t)) :=
  Keeps.same (writes_enterBack bk .filmOut t) (setGateFrame_mem ..)

theorem rewoundOut_spec (hm : MemoryOk s) (bk : Back) : RewoundOut bk s (rewoundOut bk s) := by
  have stopped := (BackBecomes.refl bk s).stopMotor
  have hm1 : MemoryOk (stopMotor bk s) := by rw [MemoryOk, stopMotor_mem]; exact hm
  have control1 : (stopMotor bk s).control = s.control := setBack_control ..
  have kept : Keeps (fun _ => True) s (stopMotor bk s) := (Keeps.refl s).same (stopMotor_mem bk s)
  obtain ⟨live1, -⟩ := stopMotor_live bk s
  have hbo := backOffset_bounds bk
  cases hl : (s.back bk).live with
  | none =>
    have bare : rewoundOut bk s = setGateFrame bk 0 (enterBack bk .filmOut (stopMotor bk s)) := by
      unfold rewoundOut
      rw [retireLive_none (live1.trans hl)]
    have out := stopped.outBy
    rw [← bare] at out
    refine ⟨?_, ?_, ?_, ?_, ?_, out.other, out.rest, fun w hw => (by rw [hl] at hw; cases hw), fun _ => ⟨?_, ?_⟩, ?_⟩
    · rw [out.unit]
    · rw [out.unit]
    · rw [out.unit]
      exact ⟨rfl, rfl, rfl, rfl, rfl⟩
    · rw [out.unit]
      exact hl
    · rw [out.unit]
    · rw [bare]
      exact Keeps.trans (fun a _ => kept a trivial) (writes_outBy bk _)
    · rw [bare, setGateFrame_control, enterBack_control, control1]
    · rw [bare]
      exact memoryOk_outBy hm1
  | some w =>
    have full : rewoundOut bk s
        = setGateFrame bk 0 (enterBack bk .filmOut (retireSheet ⟨bk, w⟩ (rewindCause (s.back bk).origin) (stopMotor bk s))) := by
      unfold rewoundOut
      rw [retireLive_some (live1.trans hl)]
    have retires := retiresLive hm1 bk w (rewindCause (s.back bk).origin)
    have out := (stopped.retireSheet (w := w) hm1 (rewindCause (s.back bk).origin)).outBy
    rw [← full] at out
    have last := writes_outBy bk (retireSheet ⟨bk, w⟩ (rewindCause (s.back bk).origin) (stopMotor bk s))
    rw [← full] at last
    have control : (rewoundOut bk s).control = (raise .sheetRetired s).control := by
      rw [full, setGateFrame_control, enterBack_control, retires.control]
      exact raise_control_of control1
    have hi := sheetIndex_lt ⟨bk, w⟩
    have hb := sheetBase_eq ⟨bk, w⟩
    have cap : capacity (stopMotor bk s) ⟨bk, w⟩ = capacity s ⟨bk, w⟩ := kept.byteAt trivial
    have code (k : Nat) : frameCode (stopMotor bk s) ⟨bk, w⟩ k = frameCode s ⟨bk, w⟩ k := by
      unfold frameCode
      rw [kept.byteAt trivial]
    refine ⟨?_, ?_, ?_, ?_, ?_, out.other, out.rest, fun w' hw => ?_, fun c => (by rw [hl] at c; cases c), ?_⟩
    · rw [out.unit]
    · rw [out.unit]
    · rw [out.unit]
      cases w <;> exact ⟨rfl, rfl, rfl, rfl, rfl⟩
    · rw [out.unit]
      cases w <;> rfl
    · rw [out.unit]
    · obtain rfl : w = w' := Option.some.inj (hl.symm.trans hw)
      refine ⟨⟨?_, ?_, ?_, ?_, ?_, fun k h1 h40 => ?_⟩, ?_, raisesOnly_of_control control⟩
      · unfold sheetHand
        dsimp only
        rw [out.unit]
        cases w <;> rfl
      · exact (last.wordAt (by omega) (by omega)).trans retires.found
      · exact ((last.byteAt (by omega)).trans retires.cause).trans (rewindCause_code _)
      · exact ((last.byteAt (by omega)).trans retires.used).trans cap
      · exact ((last.byteAt (by omega)).trans retires.capacity).trans cap
      · have same : frameCode (rewoundOut bk s) ⟨bk, w⟩ k
            = frameCode (retireSheet ⟨bk, w⟩ (rewindCause (s.back bk).origin) (stopMotor bk s)) ⟨bk, w⟩ k := by
          have hr := frameRecord_eq ⟨bk, w⟩ k
          unfold frameCode
          rw [last.byteAt (by omega)]
        rw [same, retires.frames k h1 h40, code, cap]
      · refine Writes.andThen (fun a ha => ?_) (last.mono fun a ha => .inr (.inr (.inr (.inr (.inl ha)))))
        refine (retires.bytes a fun c => ha ?_).trans (kept a trivial)
        rcases c with c | c | c | c | c
        · exact .inl c
        · exact .inr (.inl c)
        · exact .inr (.inr (.inl c))
        · exact .inr (.inr (.inr (.inl c)))
        · exact .inr (.inr (.inr (.inr (.inr c))))
    · rw [full]
      exact memoryOk_outBy retires.memory

theorem RewoundOut.slotsKept (h : RewoundOut bk s t) : Keeps (fun a => a < 0x4000) s t := by
  intro a ha
  have hbo := backOffset_bounds bk
  have hlo := liveOffset_bounds bk
  cases hl : (s.back bk).live with
  | none => exact (h.bare hl).1 a (by omega)
  | some w =>
    have hs := sheetBase_eq ⟨bk, w⟩
    refine (h.retired w hl).2.1 a fun c => ?_
    rcases c with c | c | c | ⟨k, -, -, c⟩ | c | c
    · omega
    · omega
    · omega
    · rw [frameRecord_eq] at c
      omega
    · omega
    · omega

/-! ### The film-out switch (R89) -/

/-- The motor at the film-out switch. -/
def filmOutMotor (u : BackUnit) : Motor :=
  if u.state = .rewinding ∧ u.motor.rewindTimer ≠ none then
    { u.motor with speed := u.motor.creep, ramping := false, rewindTimer := none, leaderTimer := some 40000 }
  else u.motor

theorem exec_filmOutSwitch (h : isLive s = true) (bk : Back) : exec (.filmOutSwitch bk) s = .next (setBack bk
    { s.back bk with levels := { (s.back bk).levels with filmOut := true }, motor := filmOutMotor (s.back bk) } s) := by
  have timed : rewindTimed (s.back bk) = true ↔ (s.back bk).state = .rewinding ∧ (s.back bk).motor.rewindTimer ≠ none := by
    unfold rewindTimed running
    rw [Bool.and_eq_true, decide_eq_true_eq, Option.isSome_iff_ne_none]
  have run : exec (.filmOutSwitch bk) s = .next (
      if rewindTimed (s.back bk) then
        setMotor bk (leaderRun (s.back bk).motor) (setLevels bk { (s.back bk).levels with filmOut := true } s)
      else setLevels bk { (s.back bk).levels with filmOut := true } s) := by
    show Host.Outcome.next (if isLive s = true then _ else s) = _
    rw [if_pos h]
    cases bk <;> rfl
  rw [run]
  unfold filmOutMotor
  by_cases ht : (s.back bk).state = .rewinding ∧ (s.back bk).motor.rewindTimer ≠ none
  · rw [if_pos (timed.mpr ht), if_pos ht]
    cases bk <;> rfl
  · rw [if_neg fun c => ht (timed.mp c), if_neg ht]
    cases bk <;> rfl

theorem exec_leaderRunEnd (hs : (s.back bk).state = .rewinding) (ht : (s.back bk).motor.leaderTimer ≠ none) :
    exec (.leaderRunEnd bk) s = .next (endRewind bk s) := by
  have timed : leaderTimed (s.back bk) = true := by
    unfold leaderTimed running
    rw [hs, Option.isSome_iff_ne_none.mpr ht]
    rfl
  show Host.Outcome.next (if leaderTimed (s.back bk) = true then endRewind bk s else s) = _
  rw [if_pos timed]

theorem exec_rewindTimeout (hs : (s.back bk).state = .rewinding) (ht : (s.back bk).motor.rewindTimer ≠ none) :
    exec (.rewindTimeout bk) s = .next (failRewind bk s) := by
  have timed : rewindTimed (s.back bk) = true := by
    unfold rewindTimed running
    rw [hs, Option.isSome_iff_ne_none.mpr ht]
    rfl
  show Host.Outcome.next (if rewindTimed (s.back bk) = true then failRewind bk s else s) = _
  rw [if_pos timed]

/-- Settles O48: the switch, the leader run's end and the rewind timer's, each with a REWIND task of the back and without one. -/
theorem rewindEndsAtFilmOutOrJams : Obligations.RewindEndsAtFilmOutOrJams := by
  refine ⟨fun s bk hl => ⟨_, exec_filmOutSwitch hl bk, ?_⟩, fun s bk hm hs ht => ?_, fun s bk hm hs ht => ?_⟩
  · refine ⟨back_setBack_same .., back_setBack_other .., ?_⟩
    cases bk <;> rfl
  · have run := exec_leaderRunEnd hs ht
    have out := rewoundOut_spec hm bk
    have orders : (rewoundOut bk s).orders = s.orders := by rw [out.rest]
    have task := rewindTask_kept (bk := bk) orders out.slotsKept
    rw [endRewind_eq] at run
    cases he : rewindTask s bk with
    | none =>
      rw [endRewindTask_none _ (task.trans he)] at run
      refine ⟨_, run, out.state, out.gateFrame, out.stopped, out.live, out.origin, out.other, fun w hw => ?_,
        fun w hw _ => ?_, fun hl _ => ?_, fun _ => out.rest, fun e c => nomatch c⟩
      · obtain ⟨retired, -, raised⟩ := out.retired w hw
        exact ⟨retired, raised.1⟩
      · obtain ⟨-, bytes, raised⟩ := out.retired w hw
        exact ⟨bytes, raised⟩
      · obtain ⟨bytes, control⟩ := out.bare hl
        exact ⟨bytes, by rw [control], by rw [control], by rw [control]⟩
    | some e =>
      rw [endRewindTask_some _ (task.trans he)] at run
      have same : ∀ c, (finishOrder e.slot .complete (rewoundOut bk s)).back c = (rewoundOut bk s).back c := fun c =>
        finishOrder_back _ _ c _
      have raised := raisesOnly_finishOrder e.slot .complete (rewoundOut bk s)
      refine ⟨_, run, ?_, ?_, ?_, ?_, ?_, ?_, fun w hw => ?_, nofun, nofun, nofun, fun e' he' => ?_⟩
      · rw [same]
        exact out.state
      · rw [same]
        exact out.gateFrame
      · rw [same]
        exact out.stopped
      · rw [same]
        exact out.live
      · rw [same]
        exact out.origin
      · exact (same _).trans out.other
      · obtain ⟨retired, -, noticed⟩ := out.retired w hw
        exact ⟨retired_carry retired (keepsSheets_finishOrder _ _ _) (same bk), (raised.2.2 _ (by decide)).1.trans noticed.1⟩
      · obtain rfl := Option.some.inj he'
        exact taskEnded out.memory orders .complete
  · have run := exec_rewindTimeout hs ht
    have only := onlyJams_jamBack hm bk
    have orders : (jamBack bk s).orders = s.orders := by rw [(jamBack_becomes bk s).rest]
    have task := rewindTask_kept (bk := bk) orders (keepsSlots_jamBack hm bk)
    have gate : ((jamBack bk s).back bk).gateFrame = (s.back bk).gateFrame := by rw [(jamBack_becomes bk s).unit]; rfl
    have jam := jammed_jamBack bk s
    unfold failRewind at run
    cases he : rewindTask s bk with
    | none =>
      rw [endRewindTask_none _ (task.trans he)] at run
      exact ⟨_, run, jam, gate, jam.2.2.2.2.2.1, fun _ => only, fun e c => nomatch c⟩
    | some e =>
      rw [endRewindTask_some _ (task.trans he)] at run
      have same : ∀ c, (finishOrder e.slot .failedJam (jamBack bk s)).back c = (jamBack bk s).back c := fun c =>
        finishOrder_back _ _ c _
      have raised := raisesOnly_finishOrder e.slot .failedJam (jamBack bk s)
      have jammed := jammed_carry jam same fun h => (raised.2.2 .backFault (by decide)).1.trans h
      refine ⟨_, run, jammed, ?_, jammed.2.2.2.2.2.1, nofun, fun e' he' => ?_⟩
      · rw [same]
        exact gate
      · obtain rfl := Option.some.inj he'
        exact taskEnded (memoryOk_jamBack hm) orders .failedJam

end Sys2Proof.Proofs
end

section
/-! SUPPORT. A shot that exceeds the roll at a choice, and the order's next shot behind it (R33, R35). -/

namespace Sys2Proof.Proofs

open Sys2Proof Sys2Proof.Machine Sys2Proof.Safety Sys2Proof.Laws Sys2Proof.Claims

variable {s t u v : State} {n m : Slot} {e : OrderEntry} {i j f g x : Nat} {bk : Back} {w : Which}

/-! ### The shots of an order, as bytes have them -/

theorem nextShot_kept (h : Keeps (ShotCodeBytes n) s t) : nextShot t n = nextShot s n := by
  have hs := slotBase_eq n
  have count : shotCount t n = shotCount s n := h.wordAt (.inl (by omega)) (.inl (by omega))
  have code (i : Nat) : shotCode t n i = shotCode s n i := h.byteAt (.inr ⟨i, rfl⟩)
  unfold nextShot
  simp only [count, code]

theorem keeps_completeBytes {i : Nat} (h : Writes (CompleteBytes n i) s t) : Keeps (ShotCodeBytes n) s t := by
  intro a ha
  have hn := n.isLt
  have hs := slotBase_eq n
  have ho := outcome_eq n
  have hb := accountBase_eq i
  refine h a ?_
  rcases ha with ha | ⟨j, rfl⟩
  · omega
  · have := shotOutcome_eq n j
    omega

/-- A shot whose code is not COMPLETE keeps its order from completing so. -/
theorem allComplete_eq_false (hi : i < 24) (hc : i < shotCount s n) (h : shotCode s n i ≠ 1) : allComplete s n = false := by
  have hone : ShotCode.complete.code = 1 := rfl
  rw [← Bool.not_eq_true]
  unfold allComplete
  rw [List.all_eq_true]
  intro all
  exact h (of_decide_eq_true (all i (List.mem_range.mpr (by omega))))

/-! ### A shot written EXCEEDS_ROLL (R35) -/

theorem exceedNext_eq (hn : nextShot s n = some i) : exceedNext n s = afterShot n (endBareShot n i .exceedsRoll s) := by
  unfold exceedNext
  rw [hn]

theorem exceedsWritten (h : BareShot n i 4 s t) (hd : wordAt s (outcome n + 4) < 65535) : ExceedsWritten s t n i :=
  ⟨h.code, h.zero, h.trim, h.last, h.done hd⟩

/-- What an order's next shot that exceeds the roll leaves before its order goes on. -/
structure ExceedsNext (e : OrderEntry) (i : Nat) (x : Nat) (s v : State) : Prop where
  ends : BareEnds e.slot i 4 x s v
  only : v = { s with mem := v.mem }
  memory : MemoryOk v
  order : findOrder v e.slot = some e

theorem exceedsNext (hm : MemoryOk s) (hi : i < 24) (he : findOrder s e.slot = some e) :
    ExceedsNext e i (plannedFrames s e.slot i * positionPrice s e.slot) s (endBareShot e.slot i .exceedsRoll s) := by
  have only := endBareShot_only_mem e.slot i .exceedsRoll s
  exact ⟨bareEnds (c := .exceedsRoll) hm hi, only, memoryOk_endBareShot hm, by rw [findOrder_of_orders (s := s) (by rw [only])]; exact he⟩

theorem released (hp : Pays n 0 s t) (hl : remaining t n = remaining s n - x) (hx : x ≤ remaining s n) : Released s t n x := by
  have := hp.owed
  exact ⟨hl, by omega⟩

/-- A bare outcome written to a state with the same bytes there. -/
theorem BareShot.before (pre : Keeps (BareBytes n i) s t) (h : BareShot n i j t u) : BareShot n i j s u :=
  ⟨h.code, h.zero, h.trim.trans (by rw [pre.byteAt (by omega)]), h.last, fun room => by
    have same : wordAt t (outcome n + 4) = wordAt s (outcome n + 4) := pre.wordAt (by omega) (by omega)
    rw [← same] at room ⊢
    exact h.done room⟩

/-! ### The fit rule in a later state -/

theorem backServes_kept (h : Keeps (fun a => OrderBytes n a ∨ ∃ sh, within (sheetBase sh) 0x40 a) s t)
    (hb : ∀ c, t.back c = s.back c) {c : Back} : BackServes t n f c w ↔ BackServes s n f c w := by
  have hs := slotBase_eq n
  have choice : backChoice t n = backChoice s n := h.byteAt (.inl (by omega))
  have profile : orderProfile t n = orderProfile s n := h.byteAt (.inl (by omega))
  have roll : sheetProfile t ⟨c, w⟩ = sheetProfile s ⟨c, w⟩ := h.byteAt (.inr ⟨⟨c, w⟩, by omega⟩)
  have cap : capacity t ⟨c, w⟩ = capacity s ⟨c, w⟩ := h.byteAt (.inr ⟨⟨c, w⟩, by omega⟩)
  have used : framesUsed t ⟨c, w⟩ = framesUsed s ⟨c, w⟩ := h.byteAt (.inr ⟨⟨c, w⟩, by omega⟩)
  unfold BackServes HasRoomFor Matches
  rw [choice, profile, roll, cap, used, hb c]

theorem chosenBack_kept (h : Keeps (fun a => OrderBytes n a ∨ ∃ sh, within (sheetBase sh) 0x40 a) s t)
    (hb : ∀ c, t.back c = s.back c) (hc : t.carriage = s.carriage) (hx : ChosenBack s n f bk) : ChosenBack t n f bk := by
  have line (c : Back) : inLine t c = inLine s c := by
    unfold inLine
    rw [hc]
  unfold ChosenBack at *
  rw [line, line]
  exact hx.imp_left fun none w hw => none w ((backServes_kept h hb).mp hw)

theorem exceeds_positive (h : Exceeds s n f) : 1 ≤ f := by
  obtain ⟨⟨c, w, hw⟩, above⟩ := h
  have := above c w hw
  omega

/-- A choice over one COPY order whose first shot exceeds the roll tests the order's next shot. -/
theorem shotChoice_exceeds (h : ChoiceOverOne s e) (hn : NextIs s e i f) (hx : Exceeds s e.slot f) :
    exec .shotChoice s = .next (considerShots e.slot 23 (afterShot e.slot (endBareShot e.slot i .exceedsRoll s))) := by
  obtain ⟨hk, hs, hnext, hf⟩ := hn
  have planned : plannedFrames s e.slot i = f := hf.symm
  rw [exec_shotChoice h.1, shotChoice_copy h hk hs,
    considerShots_exceeds hnext (by rw [planned]; exact fitRule_exceeds (exceeds_positive hx) hx), exceedNext_eq hnext]

/-- The bytes of a shot without a frame, and of the order's amounts, are not those that an order writes when it goes on. -/
theorem keeps_goesOnBare {k : Nat} (hk : k ≤ 63) (h : Writes (GoesOnBytes n) s t) :
    Keeps (fun a => BareBytes n i a ∨ PurseBytes n k a) s t := by
  have hn := n.isLt
  have ho := outcome_eq n
  have hs := slotBase_eq n
  have hio := shotOutcome_eq n i
  have hb := accountBase_eq k
  exact fun a ha => h a (by omega)

/-- The order's only shot exceeds the roll, and the order completes (R35, R42). -/
theorem exceedsAndCompletes (hm : MemoryOk s) (hch : ChoiceOverOne s e) (hn : NextIs s e i f) (hx : Exceeds s e.slot f)
    (hr : e.rush = false) (hh : Holds s e.slot (framesCost s e.slot f)) (ha : ¬ AnotherPending s e.slot i)
    (ho : e.outstanding = 0) : Answers .shotChoice s fun t =>
      ExceedsWritten s t e.slot i ∧ recordedHand t e.slot = .done ∧ handFound t e.slot = 3
        ∧ byteAt t (outcome e.slot) = (if e.withdrawn = true then 3 else 2) ∧ byteAt t (outcome e.slot + 1) = 0
        ∧ remaining t e.slot = 0 ∧ charged t e.slot = charged s e.slot
        ∧ committed t (accountIndex s e.slot) = committed s (accountIndex s e.slot) - remaining s e.slot
        ∧ t.orders.runList = [] ∧ RaisesOnly .orderDone s t ∧ t.gate = s.gate
        ∧ t = { s with mem := t.mem, orders := t.orders, control := t.control } := by
  have run := shotChoice_exceeds hch hn hx
  obtain ⟨-, -, hl, -⟩ := hch
  obtain ⟨-, -, hnext, hf⟩ := hn
  obtain ⟨account, covered, -, room⟩ := hh
  obtain ⟨⟨hi, hic, -⟩, -⟩ := nextShot_eq_some.mp hnext
  have hsn := e.slot.isLt
  have hso := outcome_eq e.slot
  have hsb := slotBase_eq e.slot
  have hio := shotOutcome_eq e.slot i
  have hb := accountBase_eq (accountIndex s e.slot)
  have next := exceedsNext hm hi (findOrder_single hl)
  obtain ⟨v, hv⟩ : ∃ v, v = endBareShot e.slot i .exceedsRoll s := ⟨_, rfl⟩
  rw [← hv] at next run
  have ends := next.ends
  have noNext : nextShot v e.slot = none := ends.noPending hi (by decide) fun ⟨k, hk, hc, hne, h0⟩ => ha ⟨k, hc, hk, hne, h0⟩
  have completion := writes_completeCopy e.slot v
  rw [ends.account] at completion
  rw [afterShot_completes next.order noNext ho,
    considerShots_none (n := e.slot) ((nextShot_kept (keeps_completeBytes completion)).trans noNext)] at run
  have reads := completeReads next.memory next.order
  have complete := completes_completeCopy next.memory next.order (by rw [ends.account]; exact account)
  have amounts : CompletionAmounts s (completeCopy e.slot v) e.slot e.rush 0 := complete.amounts ends.pays (by
    unfold surchargeDue
    rw [hr, if_neg fun c => Bool.false_ne_true c.1, if_neg fun c => Bool.false_ne_true c.1])
  obtain ⟨none, owed, charges⟩ := amounts
  have charge := charges 0 (by rw [hr, if_neg fun c => Bool.false_ne_true c.1]) (by have := charged_lt s e.slot; omega)
  have control : (completeCopy e.slot v).control = (raise .orderDone s).control := by
    rw [completeCopy_control next.order]
    exact raise_control_of (by rw [next.only])
  have code : completionCode e v = if e.withdrawn = true then 3 else 2 := by
    unfold completionCode
    rw [allComplete_eq_false (i := i) hi (by rw [ends.countKept]; exact hic) (by rw [ends.shot.code]; decide)]
    rfl
  have inOrders := inOrders_completeCopy e.slot v
  refine ⟨_, run, exceedsWritten (ends.shot.keep fun a ha => completion a (by omega)) room, reads.recorded, reads.found,
    reads.state.trans code, reads.sub, none, charge.1, owed, ?_, raisesOnly_of_control control, ?_, ?_⟩
  · rw [completeCopy_runList next.order, next.only, hl]
    simp
  · rw [inOrders, next.only]
  · exact ((InOrders.memory next.only).trans inOrders).orders (by rw [completeCopy_labels, next.only])

/-- The order's only shot exceeds the roll, and the order waits for its labels (R35, R41). -/
theorem exceedsAndFinishes (hm : MemoryOk s) (hch : ChoiceOverOne s e) (hn : NextIs s e i f) (hx : Exceeds s e.slot f)
    (hh : Holds s e.slot (framesCost s e.slot f)) (ha : ¬ AnotherPending s e.slot i)
    (ho : 1 ≤ e.outstanding) : Answers .shotChoice s fun t =>
      ExceedsWritten s t e.slot i ∧ Released s t e.slot (framesCost s e.slot f)
        ∧ t.orders.runList = [{ e with sub := .finishing }] ∧ byteAt t (outcome e.slot + 1) = 4
        ∧ KeepsBytes s t (fun a => within (shotOutcome e.slot i) 16 a ∨ a = outcome e.slot + 1
            ∨ within (outcome e.slot + 4) 2 a ∨ within (outcome e.slot + 0x18) 4 a
            ∨ within (accountBase (accountIndex s e.slot) + 0x14) 4 a ∨ within 0x5D10 2 a)
        ∧ t = { s with mem := t.mem, orders := t.orders } := by
  have run := shotChoice_exceeds hch hn hx
  obtain ⟨-, -, hl, -⟩ := hch
  obtain ⟨-, -, hnext, rfl⟩ := hn
  obtain ⟨account, covered, -, room⟩ := hh
  obtain ⟨⟨hi, -, -⟩, -⟩ := nextShot_eq_some.mp hnext
  have next := exceedsNext hm hi (findOrder_single hl)
  obtain ⟨v, hv⟩ : ∃ v, v = endBareShot e.slot i .exceedsRoll s := ⟨_, rfl⟩
  rw [← hv] at next run
  have ends := next.ends
  have noNext : nextShot v e.slot = none := ends.noPending hi (by decide) fun ⟨k, hk, hc, hne, h0⟩ => ha ⟨k, hc, hk, hne, h0⟩
  have going := writes_goesOn e.slot .finishing v
  have stays : nextShot (refreshWanted (setSub e.slot .finishing v)) e.slot = none := by
    refine (nextShot_kept fun a ha => going a fun c => ?_).trans noNext
    have hsn := e.slot.isLt
    have hso := outcome_eq e.slot
    have hsb := slotBase_eq e.slot
    rcases ha with ha | ⟨j, rfl⟩
    · omega
    · have := shotOutcome_eq e.slot j
      omega
  rw [afterShot_finishing next.order noNext (by omega), considerShots_none stays] at run
  obtain ⟨shot, pays, left⟩ := ends.keep (keeps_goesOnBare account going)
  have inOrders := goesOn_inOrders e.slot .finishing v
  refine ⟨_, run, exceedsWritten shot room, released pays left covered, ?_, byteAt_sub_refreshed next.memory, ?_, ?_⟩
  · rw [goesOn_orders, next.only]
    dsimp only
    rw [hl]
    simp
  · exact (ends.bytes.mono fun a ha => by omega).andThen (going.mono fun a ha => by omega)
  · exact ((InOrders.memory next.only).trans inOrders).ordersAlone (by rw [goesOn_labels, next.only])
      (by rw [goesOn_control, next.only])

/-- The order's first shot exceeds the roll, and its next one is served at once (R33, R35). -/
theorem exceedsAndServes (hm : MemoryOk s) (hch : ChoiceOverOne s e) (hn : NextIs s e i f) (hx : Exceeds s e.slot f)
    (hh : Holds s e.slot (framesCost s e.slot f)) (hij : i < j) (hj : j < 24) (hjc : j < shotCount s e.slot)
    (hj0 : shotCode s e.slot j = 0) (between : ∀ m, i < m → m < j → shotCode s e.slot m ≠ 0)
    (hg : g = bracketCount s e.slot j * copyCount s e.slot j) (serves : BackServes s e.slot g bk w)
    (chosen : ChosenBack s e.slot g bk) (idle : s.lamp.mode = .idle) (known : s.feeder.position ≠ 0) :
    Answers .shotChoice s fun t =>
      ExceedsWritten s t e.slot i ∧ Released s t e.slot (framesCost s e.slot f)
        ∧ t.orders.choice = some { slot := e.slot, shot := j, back := bk, frames := g }
        ∧ t.orders.runList = [{ e with sub := .atGate }] ∧ byteAt t (outcome e.slot + 1) = 2 ∧ KeepsNotice s t := by
  have run := shotChoice_exceeds hch hn hx
  obtain ⟨mayChoose, -, hl, hand⟩ := hch
  obtain ⟨-, -, hnext, rfl⟩ := hn
  obtain ⟨account, covered, -, room⟩ := hh
  obtain ⟨⟨hi, -, -⟩, before⟩ := nextShot_eq_some.mp hnext
  have hsn := e.slot.isLt
  have hso := outcome_eq e.slot
  have hsb := slotBase_eq e.slot
  have hio := shotOutcome_eq e.slot i
  have hb := accountBase_eq (accountIndex s e.slot)
  have next := exceedsNext hm hi (findOrder_single hl)
  obtain ⟨v, hv⟩ : ∃ v, v = endBareShot e.slot i .exceedsRoll s := ⟨_, rfl⟩
  rw [← hv] at next run
  have ends := next.ends
  have hasNext : (nextShot v e.slot).isSome = true := ends.pending hi ⟨j, hj, hjc, by omega, hj0⟩
  rw [afterShot_waits next.order hasNext] at run
  have going := writes_goesOn e.slot .waitingRun v
  obtain ⟨u, hu⟩ : ∃ u, u = refreshWanted (setSub e.slot .waitingRun v) := ⟨_, rfl⟩
  have memory : MemoryOk u := by rw [hu]; exact memoryOk_refreshWanted (memoryOk_setSub next.memory)
  have inOrders : InOrders s u := by rw [hu]; exact (InOrders.memory next.only).trans (goesOn_inOrders ..)
  have control : u.control = s.control := by rw [hu, goesOn_control, next.only]
  have orders : u.orders = { s.orders with runList := [{ e with sub := .waitingRun }] } := by
    rw [hu, goesOn_orders, next.only]
    dsimp only
    rw [hl]
    simp
  rw [← hu] at going run
  have total : Writes (fun a => BareEndBytes e.slot i (accountIndex s e.slot) a ∨ GoesOnBytes e.slot a) s u :=
    (ends.bytes.mono fun a ha => .inl ha).andThen (going.mono fun a ha => .inr ha)
  have kept : Keeps (fun a => OrderBytes e.slot a ∨ ∃ sh, within (sheetBase sh) 0x40 a) s u := fun a ha => total a (by
    rcases ha with ha | ⟨sh, ha⟩
    · omega
    · have := sheetIndex_lt sh
      have := sheetBase_eq sh
      omega)
  have backs (c : Back) : u.back c = s.back c := by
    unfold InOrders at inOrders
    rw [inOrders]
    cases c <;> rfl
  have nextU : nextShot u e.slot = some j := by
    have codes (m : Nat) (hm24 : m < 24) (hmi : m ≠ i) : shotCode u e.slot m = shotCode s e.slot m := by
      have := shotOutcome_eq e.slot m
      exact total.byteAt (by omega)
    have codeI : shotCode u e.slot i = 4 := by
      refine (going.byteAt (a := shotOutcome e.slot i) (by omega)).trans ends.shot.code
    have count : shotCount u e.slot = shotCount s e.slot := total.wordAt (by omega) (by omega)
    refine nextShot_eq_some.mpr ⟨⟨hj, by omega, (codes j hj (by omega)).trans hj0⟩, fun m hmj => ?_⟩
    by_cases hmi : m = i
    · rw [hmi, codeI]
      decide
    · rw [codes m (by omega) hmi]
      by_cases hlt : m < i
      · exact before m hlt
      · exact between m (by omega) hmj
  have planned : plannedFrames u e.slot j = g := (plannedFrames_kept (fun a ha => kept a (.inl ha)) hj).trans hg.symm
  have fits : fitRule u e.slot (plannedFrames u e.slot j) = .served bk := by
    rw [planned]
    exact fitRule_served ((backServes_kept kept backs).mpr serves)
      (chosenBack_kept kept backs (by rw [inOrders]) chosen)
  rw [considerShots_served nextU fits] at run
  obtain ⟨taken, served⟩ := gateTaken_serveShot (i := j) (bk := bk) (n := e.slot) memory
    ((congrArg BackUnit.live (backs bk)).trans serves.1.1.2.1)
    (by unfold recordedHand at hand ⊢; rw [orders]; exact hand)
    ((congrArg Control.stand control).trans (running_of_mayChoose mayChoose)) ((by rw [inOrders] : u.lamp.mode = s.lamp.mode).trans idle)
  have feeder : u.feeder.position = s.feeder.position := by rw [inOrders]
  have last : Writes (fun a => a = outcome e.slot + 1) u (serveShot e.slot j bk u) := taken.bytes.mono fun a ha =>
    ha.elim id fun c => absurd (feeder.symm.trans c.2) known
  have toEnd : Writes (GoesOnBytes e.slot) v (serveShot e.slot j bk u) :=
    going.andThen (last.mono fun a ha => .inl ha)
  obtain ⟨shot, pays, left⟩ := ends.keep (keeps_goesOnBare account toEnd)
  refine ⟨_, run, exceedsWritten shot room, released pays left covered, ?_, ?_, taken.sub, ?_⟩
  · rw [served, planned]
    rfl
  · rw [served, orders]
    simp
  · unfold KeepsNotice
    have same : (serveShot e.slot j bk u).control = s.control := by rw [taken.rest, control]
    rw [same]
    exact ⟨rfl, rfl, rfl⟩

end Sys2Proof.Proofs
end

section
/-! SUPPORT. A short roll's capacity cut, and what it does to an order that waits for a roll (R36, R37, R84, R85, R105). -/

namespace Sys2Proof.Proofs

open Sys2Proof Sys2Proof.Machine Sys2Proof.Safety Sys2Proof.Laws Sys2Proof.Claims

variable {s t u v : State} {n m : Slot} {sh : Sheet} {e : OrderEntry} {i j f g k x : Nat} {bk : Back} {w : Which} {y : BackUnit}

/-! ### The cut (R105) -/

/-- A cut to k drops the RESERVED frames above k. -/
def cutDrops (k j code : Nat) : Bool := decide (k < j) && decide (code = 1)

/-- The frames above a cut, dropped. -/
def cutFrames (sh : Sheet) (k : Nat) (s : State) : State := frameNumbers.foldl (fun s j => dropAbove sh k j s) s

theorem closesFrames_cut (hm : MemoryOk s) (k : Nat) : ClosesFrames sh (cutDrops k) frameNumbers s (cutFrames sh k s) := by
  refine ClosesFrames.all hm (fun j hj => mem_frameNumbers.mp hj) frameNumbers_nodup fun v j hj hv _ => ?_
  obtain ⟨h1, h40⟩ := mem_frameNumbers.mp hj
  unfold dropAbove
  split
  · next h => exact .mark hv h1 h40 (by simpa [cutDrops, isReserved_iff] using h)
  · next h =>
    refine .none hv (Bool.eq_false_of_not_eq_true fun c => h ?_)
    simpa [cutDrops, isReserved_iff] using c

theorem cutCapacity_eq (sh : Sheet) (k : Nat) (s : State) :
    ∃ x, cutCapacity sh k s = setByte (sheetBase sh + 0x06) k (setByte (sheetBase sh + 0x07) 1
      (setByte (sheetBase sh + 0x05) k (setByte (sheetBase sh + 0x0A) x (cutFrames sh k s)))) := ⟨_, rfl⟩

/-- What a cut leaves. -/
structure Cut (sh : Sheet) (k : Nat) (s t : State) : Prop where
  capacity : capacity t sh = k
  bytes : Writes (fun a => within (sheetBase sh + 5) 3 a ∨ a = sheetBase sh + 0x0A ∨ ∃ j, a = frameRecord sh j) s t
  only : t = { s with mem := t.mem }
  memory : MemoryOk t

theorem cut_spec (hm : MemoryOk s) (hk : k ≤ 40) : Cut sh k s (cutCapacity sh k s) := by
  have hi := sheetIndex_lt sh
  have hb := sheetBase_eq sh
  have hsize : Config.memorySize = 0x8000 := rfl
  have frames := closesFrames_cut (sh := sh) hm k
  obtain ⟨x, hx⟩ := cutCapacity_eq sh k s
  rw [hx]
  obtain ⟨f, hf⟩ : ∃ f, f = cutFrames sh k s := ⟨_, rfl⟩
  rw [← hf] at frames ⊢
  have m1 : MemoryOk (setByte (sheetBase sh + 0x0A) x f) := memoryOk_setByte frames.memory
  refine ⟨?_, ?_, ?_, memoryOk_setByte (memoryOk_setByte (memoryOk_setByte m1))⟩
  · refine ((((Keeps.refl _).setByte (a := sheetBase sh + 0x07) (n := 1) (apart_byte (k := sheetBase sh + 0x05) (by omega))).setByte
      (a := sheetBase sh + 0x06) (n := k) (apart_byte (by omega))).byteAt rfl).trans ?_
    exact (byteAt_setByte_same m1 (by omega)).trans (Nat.mod_eq_of_lt (by omega))
  · refine Keeps.setByte (Keeps.setByte (Keeps.setByte (Keeps.setByte (frames.bytes.mono fun a ha => ?_)
      (apart_others fun b _ _ => by omega)) (apart_others fun b _ _ => by omega)) (apart_others fun b _ _ => by omega))
      (apart_others fun b _ _ => by omega)
    rcases ha with ha | ⟨j, -, ha⟩
    · exact .inr (.inl ha)
    · exact .inr (.inr ⟨j, ha⟩)
  · exact only_mem_trans frames.only (only_mem_trans (setByte_only_mem ..) (only_mem_trans (setByte_only_mem ..)
      (only_mem_trans (setByte_only_mem ..) (setByte_only_mem ..))))

/-! ### The end of a roll (R85) -/

theorem UnitBecomes.memory (h : UnitBecomes bk y s t) (ho : u = { t with mem := u.mem }) : UnitBecomes bk y s u := by
  obtain ⟨m, rfl⟩ : ∃ m, u = { t with mem := m } := ⟨_, ho⟩
  obtain ⟨unit, other, rest⟩ := h
  refine ⟨?_, ?_, congrArg (fun v : State => { v with mem := m }) rest⟩
  · cases bk <;> exact unit
  · cases bk <;> exact other

theorem UnitBecomes.enterRollEnd (h : UnitBecomes bk y s t) : ∃ z, UnitBecomes bk z s (enterRollEnd bk t)
    ∧ z.live = y.live ∧ z.gateFrame = y.gateFrame := by
  have entered := h.enterBack (st := .rollEnd)
  unfold Machine.enterRollEnd
  dsimp only
  split
  · obtain ⟨m, began⟩ := entered.beginRewind (o := .auto)
    exact ⟨_, began, rfl, rfl⟩
  · exact ⟨_, entered, rfl, rfl⟩

theorem writes_enterRollEnd (bk : Back) (s : State) : Writes (fun a => a = 0x5D00 + backOffset bk) s (enterRollEnd bk s) := by
  have entered := writes_enterBack bk .rollEnd s
  unfold enterRollEnd
  dsimp only
  split
  · exact entered.andThen (writes_beginRewind bk .auto _)
  · exact entered

theorem memoryOk_enterBack {st : BackState} (hm : MemoryOk s) : MemoryOk (enterBack bk st s) :=
  memoryOk_report (by rw [MemoryOk, setBack_mem]; exact hm)

theorem memoryOk_enterRollEnd (hm : MemoryOk s) : MemoryOk (enterRollEnd bk s) := by
  unfold enterRollEnd
  dsimp only
  split
  · rw [MemoryOk, beginRewind_mem]
    exact memoryOk_enterBack (by rw [MemoryOk, setBack_mem]; exact memoryOk_enterBack hm)
  · exact memoryOk_enterBack hm

/-! ### A short roll (R84) -/

/-- The back and its sheet after a short roll, before the waiting orders are looked at. -/
def rollCut (bk : Back) (w : Which) (k : Nat) (s : State) : State := enterRollEnd bk (cutCapacity ⟨bk, w⟩ k (stopMotor bk s))

/-- What a short roll leaves before the waiting orders are looked at. -/
structure RollCut (bk : Back) (w : Which) (k : Nat) (s t : State) : Prop where
  unit : ∃ z, UnitBecomes bk z s t ∧ z.live = (s.back bk).live
  capacity : capacity t ⟨bk, w⟩ = k
  bytes : Writes (fun a => within (sheetBase ⟨bk, w⟩ + 5) 3 a ∨ a = sheetBase ⟨bk, w⟩ + 0x0A
    ∨ (∃ j, a = frameRecord ⟨bk, w⟩ j) ∨ a = 0x5D00 + backOffset bk) s t
  memory : MemoryOk t

theorem UnitBecomes.stopMotor (h : UnitBecomes bk y s t) :
    UnitBecomes bk { y with motor := stoppedMotor y.motor } s (stopMotor bk t) := by
  unfold Machine.stopMotor setMotor
  rw [h.unit]
  exact h.setBack _

theorem rollCut_spec (hm : MemoryOk s) (hk : k ≤ 40) : RollCut bk w k s (rollCut bk w k s) := by
  have hi := sheetIndex_lt ⟨bk, w⟩
  have hb := sheetBase_eq ⟨bk, w⟩
  have hbo := backOffset_bounds bk
  have m1 : MemoryOk (stopMotor bk s) := by rw [MemoryOk, stopMotor_mem]; exact hm
  have cut := cut_spec (sh := ⟨bk, w⟩) m1 hk
  have stopped := (UnitBecomes.refl bk s).stopMotor
  obtain ⟨z, becomes, live, -⟩ := (stopped.memory cut.only).enterRollEnd
  have last := writes_enterRollEnd bk (cutCapacity ⟨bk, w⟩ k (stopMotor bk s))
  have first : Writes (fun a => within (sheetBase ⟨bk, w⟩ + 5) 3 a ∨ a = sheetBase ⟨bk, w⟩ + 0x0A
      ∨ ∃ j, a = frameRecord ⟨bk, w⟩ j) s (cutCapacity ⟨bk, w⟩ k (stopMotor bk s)) :=
    Keeps.trans ((Keeps.refl s).same (stopMotor_mem bk s)) cut.bytes
  refine ⟨⟨z, becomes, live⟩, ?_, ?_, memoryOk_enterRollEnd cut.memory⟩
  · exact (last.byteAt (by omega)).trans cut.capacity
  · refine (first.mono fun a ha => ?_).andThen (last.mono fun a ha => .inr (.inr (.inr ha)))
    rcases ha with ha | ha | ha
    · exact .inl ha
    · exact .inr (.inl ha)
    · exact .inr (.inr (.inl ha))

theorem exec_stallTimeout (hs : (s.back bk).state = .winding) (ht : (s.back bk).motor.stallTimer ≠ none) :
    exec (.stallTimeout bk) s = .next (stallWinding bk s) := by
  have loading : stallWatched (s.back bk) .loading = false := by
    unfold stallWatched
    rw [hs]
    rfl
  have winding : stallWatched (s.back bk) .winding = true := by
    unfold stallWatched running
    rw [hs, Option.isSome_iff_ne_none.mpr ht]
    rfl
  show Host.Outcome.next (if stallWatched (s.back bk) .loading = true then stallLoading bk s
    else if stallWatched (s.back bk) .winding = true then stallWinding bk s else s) = _
  rw [loading, winding]
  rfl

theorem failShot_idle (h : s.gate.shot = none) : failShot bk s = s := by
  unfold failShot
  rw [h]

theorem stallWinding_short (hl : (s.back bk).live = some w) (hk : (s.back bk).gateFrame = k)
    (hc : capacity s ⟨bk, w⟩ ≤ k + 2) (hg : (capacityWasCut bk (rollCut bk w k s)).gate.shot = none) :
    stallWinding bk s = capacityWasCut bk (rollCut bk w k s) := by
  subst hk
  have short : isShortRoll s ⟨bk, w⟩ (s.back bk).gateFrame = true := decide_eq_true hc
  have cut : shortRoll bk ⟨bk, w⟩ s = capacityWasCut bk (rollCut bk w (s.back bk).gateFrame s) := rfl
  unfold stallWinding liveSheet
  rw [hl]
  simp only [Option.map_some]
  rw [if_pos short, cut, failShot_idle hg]

/-! ### Waiting orders after the cut (R37) -/

theorem fitRule_holds (h : couldHold s n f bk = true) : fitRule s n f ≠ .exceedsRoll := by
  have fits : (((matchingSheet s n .a).isSome || (matchingSheet s n .b).isSome)
      && !(couldHold s n f .a || couldHold s n f .b)) = false := by
    rw [Bool.and_eq_false_iff]
    refine .inr ?_
    rw [Bool.not_eq_false', Bool.or_eq_true]
    cases bk
    · exact .inl h
    · exact .inr h
  unfold fitRule
  split
  · exact fun c => nomatch c
  · split
    · exact fun c => nomatch c
    · rw [fits]
      exact fun c => nomatch c

theorem capacityWasCut_single (h : s.orders.runList = [e]) : capacityWasCut bk s =
    if e.sub = .waitingRoll ∧ (matchingSheet s e.slot bk).isSome = true
      ∧ fitRule s e.slot (nextPlanned s e.slot) = .exceedsRoll then exceedNext e.slot s else s := by
  unfold capacityWasCut
  rw [h]
  rfl

theorem RollCut.slots (h : RollCut bk w k s t) : Keeps (fun a => a < 0x4000 ∨ 0x5000 ≤ a ∧ a ≠ 0x5D00 + backOffset bk) s t := by
  have hi := sheetIndex_lt ⟨bk, w⟩
  have hb := sheetBase_eq ⟨bk, w⟩
  intro a ha
  refine h.bytes a fun c => ?_
  rcases c with c | c | ⟨j, c⟩ | c
  · omega
  · omega
  · rw [frameRecord_eq] at c
    omega
  · have := backOffset_bounds bk
    omega

/-- The back of the cut roll matches the order as before. -/
theorem RollCut.matching (h : RollCut bk w k s t) (hm : Matches s n bk w) : Matches t n bk w := by
  obtain ⟨allowed, live, profile⟩ := hm
  obtain ⟨z, becomes, hz⟩ := h.unit
  have hn := n.isLt
  have hs := slotBase_eq n
  have hi := sheetIndex_lt ⟨bk, w⟩
  have hb := sheetBase_eq ⟨bk, w⟩
  have hbo := backOffset_bounds bk
  have slots := h.slots
  have choice : backChoice t n = backChoice s n := slots.byteAt (by omega)
  have order : orderProfile t n = orderProfile s n := slots.byteAt (by omega)
  have roll : sheetProfile t ⟨bk, w⟩ = sheetProfile s ⟨bk, w⟩ := h.bytes.byteAt fun c => by
    rcases c with c | c | ⟨j, c⟩ | c
    · omega
    · omega
    · rw [frameRecord_eq] at c
      omega
    · omega
  refine ⟨by rw [choice]; exact allowed, ?_, by rw [order, roll]; exact profile⟩
  rw [becomes.unit, hz]
  exact live

theorem sheetIndex_other (c : Back) (v w : Which) (h : c ≠ bk) : sheetIndex ⟨c, v⟩ ≠ sheetIndex ⟨bk, w⟩ := by
  match c, bk with
  | .a, .a | .b, .b => exact absurd rfl h
  | .a, .b | .b, .a => cases v <;> cases w <;> decide

/-- No other back matches that did not before. -/
theorem RollCut.noOther (h : RollCut bk w k s t) (hn : ∀ v, ¬ Matches s n (otherBack bk) v) (v : Which) :
    ¬ Matches t n (otherBack bk) v := by
  rintro ⟨allowed, live, profile⟩
  obtain ⟨z, becomes, -⟩ := h.unit
  have hnn := n.isLt
  have hs := slotBase_eq n
  have hi := sheetIndex_lt ⟨bk, w⟩
  have hb := sheetBase_eq ⟨bk, w⟩
  have hi' := sheetIndex_lt ⟨otherBack bk, v⟩
  have hb' := sheetBase_eq ⟨otherBack bk, v⟩
  have hbo := backOffset_bounds bk
  have apart := sheetIndex_other (bk := bk) (otherBack bk) v w (by cases bk <;> decide)
  have slots := h.slots
  have choice : backChoice t n = backChoice s n := slots.byteAt (by omega)
  have order : orderProfile t n = orderProfile s n := slots.byteAt (by omega)
  have roll : sheetProfile t ⟨otherBack bk, v⟩ = sheetProfile s ⟨otherBack bk, v⟩ := h.bytes.byteAt fun c => by
    rcases c with c | c | ⟨j, c⟩ | c
    · omega
    · omega
    · rw [frameRecord_eq] at c
      omega
    · omega
  exact hn v ⟨by rw [← choice]; exact allowed, by rw [← becomes.other]; exact live, by rw [← order, ← roll]; exact profile⟩

theorem RollCut.exceeds (h : RollCut bk w k s t) (hm : Matches s n bk w) (hn : ∀ v, ¬ Matches s n (otherBack bk) v) (hf : k < f) :
    Exceeds t n f := by
  refine ⟨⟨bk, w, h.matching hm⟩, fun c v hv => ?_⟩
  by_cases hc : c = bk
  · subst hc
    obtain ⟨z, becomes, hz⟩ := h.unit
    have live := (becomes.unit ▸ hz : (t.back c).live = (s.back c).live)
    obtain rfl : v = w := Option.some.inj (hv.2.1.symm.trans (live.trans hm.2.1))
    rw [h.capacity]
    exact hf
  · obtain rfl := eq_otherBack_of_ne hc
    exact absurd hv (h.noOther hn v)

end Sys2Proof.Proofs
end

section
/-! SUPPORT. The orders that a sheet going LIVE calls back, and the statement about rolls (R36, R37, R79, R99). -/

namespace Sys2Proof.Proofs

open Sys2Proof Sys2Proof.Machine Sys2Proof.Safety Sys2Proof.Laws Sys2Proof.Claims

variable {s t u v : State} {n m : Slot} {sh : Sheet} {e : OrderEntry} {i j f g k x : Nat} {bk : Back} {w : Which}
  {xs : List OrderEntry} {P : OrderEntry → Bool}

/-! ### A cut below a waiting order's next shot (R37) -/

/-- A short roll under one waiting order, as an exec. -/
theorem exec_cut (hs : (s.back bk).state = .winding) (ht : (s.back bk).motor.stallTimer ≠ none) (hl : (s.back bk).live = some w)
    (hk : (s.back bk).gateFrame = k) (hc : capacity s ⟨bk, w⟩ ≤ k + 2) (hg : s.gate.shot = none)
    (cut : RollCut bk w k s (rollCut bk w k s)) : exec (.stallTimeout bk) s = .next (capacityWasCut bk (rollCut bk w k s)) := by
  obtain ⟨z, becomes, -⟩ := cut.unit
  have gate : (rollCut bk w k s).gate = s.gate := by rw [becomes.rest]
  have kept : (capacityWasCut bk (rollCut bk w k s)).gate = (rollCut bk w k s).gate := foldl_gate (fun t x => by
    split
    · exact exceedNext_gate _ _
    · rfl) _ _
  rw [exec_stallTimeout hs ht, stallWinding_short hl hk hc (by rw [kept, gate]; exact hg)]

/-! ### Orders called back (R37) -/

/-- Enter WAITING_RUN for the orders of a list that a rule picks out. -/
def callBack (P : OrderEntry → Bool) (xs : List OrderEntry) (s : State) : State :=
  xs.foldl (fun s x => if P x = true then setSub x.slot .waitingRun s else s) s

/-- The slots of the orders that a rule picks out. -/
def picked (P : OrderEntry → Bool) (xs : List OrderEntry) : List Slot := (xs.filter P).map OrderEntry.slot

/-- What the orders called back change. -/
structure CallsBack (P : OrderEntry → Bool) (xs : List OrderEntry) (s t : State) : Prop where
  orders : t.orders = { s.orders with
    runList := s.orders.runList.map fun x => if x.slot ∈ picked P xs then { x with sub := .waitingRun } else x }
  bytes : Writes (fun a => ∃ m ∈ picked P xs, a = outcome m + 1) s t
  sub : ∀ m ∈ picked P xs, byteAt t (outcome m + 1) = 1
  inOrders : InOrders s t
  memory : MemoryOk t

theorem picked_cons_pos {y : OrderEntry} (h : P y = true) : picked P (y :: xs) = y.slot :: picked P xs := by
  unfold picked
  rw [List.filter_cons_of_pos h]
  rfl

theorem picked_cons_neg {y : OrderEntry} (h : ¬ P y = true) : picked P (y :: xs) = picked P xs := by
  unfold picked
  rw [List.filter_cons_of_neg h]

theorem callsBack (hm : MemoryOk s) : CallsBack P xs s (callBack P xs s) := by
  induction xs generalizing s with
  | nil =>
    refine ⟨?_, .refl s, fun m hm => absurd hm List.not_mem_nil, .refl s, hm⟩
    simp [picked, callBack]
  | cons y ys ih =>
    by_cases hy : P y = true
    · have step : callBack P (y :: ys) s = callBack P ys (setSub y.slot .waitingRun s) := by
        unfold callBack
        rw [List.foldl_cons, if_pos hy]
      obtain ⟨orders, bytes, sub, inOrders, memory⟩ := ih (s := setSub y.slot .waitingRun s) (memoryOk_setSub hm)
      rw [setSub_orders] at orders
      rw [step]
      refine ⟨orders.trans ?_, ?_, fun m hmem => ?_, (inOrders_setSub .waitingRun).trans inOrders, memory⟩
      · refine congrArg (fun l => ({ s.orders with runList := l } : Orders)) ?_
        rw [List.map_map, picked_cons_pos hy]
        refine List.map_congr_left fun x _ => ?_
        dsimp only [Function.comp]
        by_cases hx : x.slot = y.slot
        · simp [hx]
        · simp [hx]
      · rw [picked_cons_pos hy]
        exact ((writes_setSub y.slot .waitingRun s).mono fun a ha => ⟨y.slot, .head _, ha⟩).andThen
          (bytes.mono fun a ⟨m, hm', ha⟩ => ⟨m, .tail _ hm', ha⟩)
      · rw [picked_cons_pos hy] at hmem
        by_cases hin : m ∈ picked P ys
        · exact sub m hin
        · obtain rfl : m = y.slot := (List.mem_cons.mp hmem).resolve_right hin
          refine (bytes.byteAt fun ⟨q, hq, c⟩ => ?_).trans (byteAt_setSub hm)
          have : y.slot = q := Fin.ext (by rw [outcome_eq, outcome_eq] at c; omega)
          exact hin (this ▸ hq)
    · have step : callBack P (y :: ys) s = callBack P ys s := by
        unfold callBack
        rw [List.foldl_cons, if_neg hy]
      obtain ⟨orders, bytes, sub, inOrders, memory⟩ := ih hm
      rw [step]
      rw [← picked_cons_neg (y := y) hy] at orders bytes sub
      exact ⟨orders, bytes, sub, inOrders, memory⟩

/-- In a run list with one order for each slot the orders called back are those the rule picks out. -/
theorem picked_map (hn : (xs.map OrderEntry.slot).Nodup) {F : OrderEntry → OrderEntry} :
    xs.map (fun x => if x.slot ∈ picked P xs then F x else x) = xs.map fun x => if P x = true then F x else x := by
  refine List.map_congr_left fun x hx => ?_
  by_cases hp : P x = true
  · have hin : x.slot ∈ picked P xs := List.mem_map_of_mem (List.mem_filter.mpr ⟨hx, hp⟩)
    rw [if_pos hp, if_pos hin]
  · rw [if_neg hp, if_neg fun c => ?_]
    obtain ⟨y, hy, same⟩ := List.mem_map.mp c
    obtain ⟨hy, hpy⟩ := List.mem_filter.mp hy
    exact hp (List.inj_on_of_nodup_map hn hy hx same ▸ hpy)

/-- Two folds whose steps agree where an invariant holds. -/
theorem foldl_congr_under {α : Type} {I : State → Prop} {p q : State → α → State} {ys : List α} (hs : I s)
    (h : ∀ v, ∀ x ∈ ys, I v → p v x = q v x ∧ I (q v x)) : ys.foldl p s = ys.foldl q s := by
  induction ys generalizing s with
  | nil => rfl
  | cons y ys ih =>
    obtain ⟨same, inv⟩ := h s y (.head _) hs
    rw [List.foldl_cons, List.foldl_cons, same]
    exact ih inv fun v x hx => h v x (.tail _ hx)

/-- The bytes that say which orders a LIVE sheet calls back: the slots' fields and the sheets' headers. -/
abbrev CallBytes (a : Nat) : Prop := (∃ n, OrderBytes n a) ∨ ∃ sh, a = sheetBase sh + 4

theorem calledBack_kept (h : Keeps CallBytes s t) (x : OrderEntry) : calledBack t sh x = calledBack s sh x := by
  have hs := slotBase_eq x.slot
  have profile : orderProfile t x.slot = orderProfile s x.slot := h.byteAt (.inl ⟨x.slot, by omega⟩)
  have choice : backChoice t x.slot = backChoice s x.slot := h.byteAt (.inl ⟨x.slot, by omega⟩)
  have roll : sheetProfile t sh = sheetProfile s sh := h.byteAt (.inr ⟨sh, rfl⟩)
  unfold calledBack
  rw [profile, choice, roll]

theorem keepsCall_setSub (sub : SubState) : Keeps CallBytes s (setSub n sub s) := by
  intro a ha
  have hn := n.isLt
  have ho := outcome_eq n
  refine writes_setSub n sub s a ?_
  rcases ha with ⟨m, ha⟩ | ⟨sh, rfl⟩
  · have hm := m.isLt
    have := slotBase_eq m
    omega
  · have := sheetBase_eq sh
    omega

/-- A sheet that goes LIVE calls back the orders that wait for it, and the roll wanted fields follow (R36, R37). -/
theorem sheetWentLive_eq (sh : Sheet) (s : State) :
    sheetWentLive sh.back sh s = refreshWanted (callBack (calledBack s sh) s.orders.runList s) := by
  refine congrArg refreshWanted (foldl_congr_under (I := Keeps CallBytes s) (.refl s) fun v x _ hv => ?_)
  have rule : (x.sub = .waitingRoll ∧ orderProfile v x.slot = sheetProfile v sh ∧ allowsBack v x.slot sh.back = true)
      ↔ calledBack s sh x = true := by
    rw [← calledBack_kept hv, allowsBack_iff]
    unfold calledBack
    simp only [Bool.and_eq_true, Bool.or_eq_true, decide_eq_true_eq, and_assoc]
  by_cases hx : calledBack s sh x = true
  · rw [if_pos (rule.mpr hx), if_pos hx]
    exact ⟨rfl, hv.trans (keepsCall_setSub .waitingRun)⟩
  · rw [if_neg fun c => hx (rule.mp c), if_neg hx]
    exact ⟨rfl, hv⟩

/-! ### A PREPARED sheet that goes LIVE (R79, R99) -/

/-- The back and its sheet after a promotion, before the waiting orders are looked at. -/
def promoted (sh : Sheet) (s : State) : State :=
  callMotor sh.back .forward (enterBack sh.back .loading (setLive sh.back (some sh.which) (writeSheetHand sh .live
    (setByte (sheetBase sh + 0x05) (promotedCapacity (capacity s sh)) s))))

theorem promoteSheet_eq (sh : Sheet) (s : State) : promoteSheet sh s = sheetWentLive sh.back sh (promoted sh s) := rfl

/-- What a promotion leaves before the waiting orders are looked at. -/
structure Promoted (sh : Sheet) (s t : State) : Prop where
  orders : t.orders = s.orders
  calls : Keeps CallBytes s t
  state : (t.back sh.back).state = .loading
  memory : MemoryOk t

theorem promoted_spec (hm : MemoryOk s) (sh : Sheet) : Promoted sh s (promoted sh s) := by
  have hi := sheetIndex_lt sh
  have hb := sheetBase_eq sh
  obtain ⟨q, hq⟩ : ∃ q, q = setLive sh.back (some sh.which) (writeSheetHand sh .live
    (setByte (sheetBase sh + 0x05) (promotedCapacity (capacity s sh)) s)) := ⟨_, rfl⟩
  have eq : promoted sh s = callMotor sh.back .forward (enterBack sh.back .loading q) := by rw [hq]; rfl
  have orders : q.orders = s.orders := by
    rw [hq, setLive_orders]
    unfold writeSheetHand
    rw [recordSheetHand_orders, setWord_orders, setByte_orders]
  have hm' : MemoryOk (writeSheetHand sh .live (setByte (sheetBase sh + 0x05) (promotedCapacity (capacity s sh)) s)) := by
    unfold writeSheetHand
    rw [MemoryOk, recordSheetHand_mem]
    exact memoryOk_setWord (memoryOk_setByte hm)
  have memory : MemoryOk q := by
    rw [hq]
    exact memoryOk_report (by rw [MemoryOk, setBack_mem]; exact hm')
  obtain ⟨m, becomes⟩ := ((UnitBecomes.refl sh.back q).enterBack (st := .loading)).callMotor (d := .forward)
  rw [← eq] at becomes
  have header : Writes (fun a => within (sheetBase sh) 2 a ∨ a = sheetBase sh + 5)
      s (writeSheetHand sh .live (setByte (sheetBase sh + 0x05) (promotedCapacity (capacity s sh)) s)) := by
    unfold writeSheetHand
    exact Keeps.same (((Keeps.refl s).setByte (apart_others fun b _ _ => by omega)).setWord (apart_others fun b _ _ => by omega))
      (recordSheetHand_mem ..)
  have live := writes_setLive sh.back (some sh.which)
    (writeSheetHand sh .live (setByte (sheetBase sh + 0x05) (promotedCapacity (capacity s sh)) s))
  have entered := writes_enterBack sh.back .loading q
  rw [← hq] at live
  have hlo := liveOffset_bounds sh.back
  have hbo := backOffset_bounds sh.back
  refine ⟨?_, fun a ha => ?_, ?_, ?_⟩
  · rw [becomes.orders, orders]
  · have ends : (promoted sh s).mem = (enterBack sh.back .loading q).mem := by rw [eq, callMotor_mem]
    have low : a < 0x5000 ∧ ∀ x, within (sheetBase x) 2 a ∨ a = sheetBase x + 5 → False := by
      rcases ha with ⟨m, ha⟩ | ⟨y, rfl⟩
      · have := m.isLt
        have := slotBase_eq m
        exact ⟨by omega, fun x c => by have := sheetBase_eq x; omega⟩
      · have := sheetIndex_lt y
        have := sheetBase_eq y
        exact ⟨by omega, fun x c => by have := sheetBase_eq x; omega⟩
    rw [ends, entered a (by omega), live a (by omega), header a (low.2 sh)]
  · rw [becomes.unit]
  · rw [MemoryOk, eq, callMotor_mem]
    exact memoryOk_enterBack memory

theorem examineSheet_other (h : sheetHand s sh ≠ .prepared) : examineSheet sh s = s :=
  if_neg (by simp [isCandidate, h])

theorem examineSheet_promotes (hs : (s.back sh.back).state = .awaitingSheet) (hh : sheetHand s sh = .prepared)
    (hk : sh ∉ s.watch.sheetMarks) (hq : sheetQualifies s sh = true) : examineSheet sh s = promoteSheet sh s := by
  have candidate : isCandidate s sh = true := by simp [isCandidate, hs, hh]
  have mark : handleSheetMark sh s = s := if_neg hk
  unfold examineSheet
  rw [if_pos candidate]
  dsimp only
  rw [mark, if_pos candidate, if_pos hq]

/-- A back that looks for a sheet promotes its one PREPARED sheet. -/
theorem lookForSheet_promotes (hs : (s.back sh.back).state = .awaitingSheet) (hh : sheetHand s sh = .prepared)
    (hk : sh ∉ s.watch.sheetMarks) (hq : sheetQualifies s sh = true)
    (others : ∀ x : Sheet, x.back = sh.back → x ≠ sh → sheetHand s x ≠ .prepared)
    (loads : ((promoteSheet sh s).back sh.back).state ≠ .awaitingSheet) : lookForSheet sh.back s = promoteSheet sh s := by
  have promotes := examineSheet_promotes hs hh hk hq
  obtain ⟨c, w⟩ := sh
  unfold lookForSheet
  cases w with
  | first => rw [promotes, examineSheet_idle (sh := ⟨c, .second⟩) loads]
  | second => rw [examineSheet_other (others ⟨c, .first⟩ rfl fun same => Which.noConfusion (Sheet.mk.inj same).2), promotes]

end Sys2Proof.Proofs
end

section
/-! SUPPORT. The statement about shots that exceed the roll and orders that return to the run (R33, R35 to R37). -/

namespace Sys2Proof.Proofs

open Sys2Proof Sys2Proof.Machine Sys2Proof.Safety Sys2Proof.Laws Sys2Proof.Claims

variable {s t u v : State} {sh : Sheet} {e : OrderEntry} {i f k : Nat} {bk : Back} {w : Which}

/-- What a cut needs to know of a waiting order and of the roll that is cut. -/
structure WaitsAtCut (bk : Back) (w : Which) (k : Nat) (e : OrderEntry) (i f : Nat) (s t : State) : Prop where
  cut : RollCut bk w k s t
  orders : t.orders = s.orders
  control : t.control = s.control
  next : nextShot t e.slot = some i
  planned : nextPlanned t e.slot = f

theorem waitsAtCut (hm : MemoryOk s) (hk : k ≤ 40) (hn : nextShot s e.slot = some i)
    (hf : f = bracketCount s e.slot i * copyCount s e.slot i) : WaitsAtCut bk w k e i f s (rollCut bk w k s) := by
  have cut := rollCut_spec (bk := bk) (w := w) hm hk
  have slots := cut.slots
  have hsn := e.slot.isLt
  have hsb := slotBase_eq e.slot
  obtain ⟨z, becomes, -⟩ := cut.unit
  obtain ⟨⟨hi, -, -⟩, -⟩ := nextShot_eq_some.mp hn
  have next : nextShot (rollCut bk w k s) e.slot = some i := (nextShot_kept fun a ha => slots a (.inl (by
    rcases ha with ha | ⟨j, rfl⟩
    · omega
    · have := shotOutcome_eq e.slot j
      omega))).trans hn
  refine ⟨cut, becomes.orders, becomes.control, next, ?_⟩
  rw [nextPlanned_of next, plannedFrames_kept (fun a ha => slots a (.inl (by omega))) hi]
  exact hf.symm

/-- A cut that leaves the order's next shot room leaves the order waiting (R37). -/
theorem cutKeepsWaiting (h : WaitsAtCut bk w k e i f s t) (hl : s.orders.runList = [e]) (hf : f ≤ k)
    (hm : Matches s e.slot bk w) : capacityWasCut bk t = t := by
  have holds : couldHold t e.slot f bk = true := couldHold_iff.mpr ⟨w, h.cut.matching hm, by rw [h.cut.capacity]; exact hf⟩
  rw [capacityWasCut_single (by rw [h.orders]; exact hl), h.planned]
  exact if_neg fun c => fitRule_holds holds c.2.2

/-- A cut below the order's next shot writes it EXCEEDS_ROLL, and the order goes on to its next (R35, R37). -/
theorem cutExceeds (h : WaitsAtCut bk w k e i f s t) (hl : s.orders.runList = [e]) (hs : e.sub = .waitingRoll) (hf : k < f)
    (hm : Matches s e.slot bk w) (hn : ∀ v, ¬ Matches s e.slot (otherBack bk) v) (hp : AnotherPending s e.slot i) :
    capacityWasCut bk t = refreshWanted (setSub e.slot .waitingRun (endBareShot e.slot i .exceedsRoll t)) := by
  have hsn := e.slot.isLt
  have hsb := slotBase_eq e.slot
  have runs : t.orders.runList = [e] := by rw [h.orders]; exact hl
  have exceeds : fitRule t e.slot f = .exceedsRoll := fitRule_exceeds (by omega) (h.cut.exceeds hm hn hf)
  have sheet : (matchingSheet t e.slot bk).isSome = true := matchingSheet_isSome.mpr ⟨w, h.cut.matching hm⟩
  obtain ⟨⟨hi, -, -⟩, -⟩ := nextShot_eq_some.mp h.next
  have next := exceedsNext h.cut.memory hi (findOrder_single runs)
  have slots := h.cut.slots
  have hasNext : (nextShot (endBareShot e.slot i .exceedsRoll t) e.slot).isSome = true := by
    obtain ⟨j, hjc, hj, hne, h0⟩ := hp
    have hjo := shotOutcome_eq e.slot j
    refine next.ends.pending hi ⟨j, hj, ?_, hne, ?_⟩
    · have count : shotCount t e.slot = shotCount s e.slot := slots.wordAt (.inl (by omega)) (.inl (by omega))
      rw [count]
      exact hjc
    · exact (slots.byteAt (.inl (by omega)) : shotCode t e.slot j = shotCode s e.slot j).trans h0
  rw [capacityWasCut_single runs, h.planned, if_pos ⟨hs, sheet, exceeds⟩, exceedNext_eq h.next,
    afterShot_waits next.order hasNext]

/-- Settles O22: the choice by what stands behind the shot, the cut by the room it leaves, and a sheet that goes LIVE order by order. -/
theorem shotsExceedTheRollAndOrdersReturn : Obligations.ShotsExceedTheRollAndOrdersReturn := by
  refine ⟨fun s e i f hm hch hn hx hr hh => ⟨fun ha ho => exceedsAndCompletes hm hch hn hx hr hh ha ho,
      fun ha ho => exceedsAndFinishes hm hch hn hx hh ha ho,
      fun j g bk w hij hj hjc hj0 between hg serves chosen idle known _ =>
        exceedsAndServes hm hch hn hx hh hij hj hjc hj0 between hg serves chosen idle known⟩,
    fun s bk w k e i hm hst htm hl hk hk40 hcap hg hrl hs hr ho hmat hnm hnext hh => ⟨fun hf => ?_, fun hf hp => ?_⟩,
    fun s sh hm harr hp7 hvalid hnodup => ?_⟩
  · have waits : WaitsAtCut bk w k e i _ s (rollCut bk w k s) := waitsAtCut hm hk40 hnext rfl
    have run := exec_cut hst htm hl hk hcap hg waits.cut
    rw [cutKeepsWaiting waits hrl hf hmat] at run
    refine ⟨_, run, waits.orders, waits.cut.capacity, fun n a ha => ?_, ?_⟩
    · have hn := n.isLt
      have hsb := slotBase_eq n
      exact waits.cut.slots a (.inl (by omega))
    · rw [KeepsNotice, waits.control]
      exact ⟨rfl, rfl, rfl⟩
  · obtain ⟨account, covered, -, room⟩ := hh
    have waits : WaitsAtCut bk w k e i _ s (rollCut bk w k s) := waitsAtCut hm hk40 hnext rfl
    have run := exec_cut hst htm hl hk hcap hg waits.cut
    have runs : (rollCut bk w k s).orders.runList = [e] := by rw [waits.orders]; exact hrl
    obtain ⟨⟨hi, -, -⟩, -⟩ := nextShot_eq_some.mp hnext
    rw [cutExceeds waits hrl hs hf hmat hnm hp] at run
    have next := exceedsNext waits.cut.memory hi (findOrder_single runs)
    have price : plannedFrames (rollCut bk w k s) e.slot i * positionPrice (rollCut bk w k s) e.slot
        = framesCost s e.slot (bracketCount s e.slot i * copyCount s e.slot i) := by
      have slots := waits.cut.slots
      have hsn := e.slot.isLt
      have hsb := slotBase_eq e.slot
      have hbo := backOffset_bounds bk
      rw [plannedFrames_kept (fun a ha => slots a (.inl (by omega))) hi, positionPrice_kept fun a ha => slots a (by omega)]
      rfl
    rw [price] at next
    obtain ⟨c, hc⟩ : ∃ c, c = rollCut bk w k s := ⟨_, rfl⟩
    obtain ⟨v, hv⟩ : ∃ v, v = endBareShot e.slot i .exceedsRoll c := ⟨_, rfl⟩
    rw [← hc] at next run waits runs
    rw [← hv] at next run
    have hsn := e.slot.isLt
    have hso := outcome_eq e.slot
    have hsb := slotBase_eq e.slot
    have hio := shotOutcome_eq e.slot i
    have hb := accountBase_eq (accountIndex s e.slot)
    have hbo := backOffset_bounds bk
    have hsi := sheetIndex_lt ⟨bk, w⟩
    have hsh := sheetBase_eq ⟨bk, w⟩
    have slots := waits.cut.slots
    have pre : Pays e.slot 0 s c := .kept fun a ha => slots a (by omega)
    have account' : accountIndex c e.slot = accountIndex s e.slot := pre.account
    have going := writes_goesOn e.slot .waitingRun v
    obtain ⟨shot, pays, left⟩ := next.ends.keep (keeps_goesOnBare (by rw [account']; exact account) going)
    have start : remaining c e.slot = remaining s e.slot := slots.longAt (.inl (by omega)) (.inl (by omega)) (.inl (by omega))
    have cap : capacity (refreshWanted (setSub e.slot .waitingRun v)) ⟨bk, w⟩ = k := by
      have ends := next.ends.bytes
      rw [account'] at ends
      exact (going.byteAt (by omega)).trans ((ends.byteAt (by omega)).trans waits.cut.capacity)
    have lists : (setSub e.slot .waitingRun v).orders.runList = [{ e with sub := .waitingRun }] :=
      runList_single_sub (by rw [next.only]; exact runs) .waitingRun
    have wanted := wanted_none (s := setSub e.slot .waitingRun v) (memoryOk_setSub next.memory) fun x hx => by
      rw [lists] at hx
      rw [List.mem_singleton.mp hx]
      exact fun h => nomatch h
    refine ⟨_, run, exceedsWritten (shot.before fun a ha => slots a (.inl (by omega))) room,
      released (pre.trans pays) (left.trans (by rw [start])) covered, cap, ?_, byteAt_sub_refreshed next.memory, wanted.1,
      wanted.2, ?_⟩
    · rw [refreshWanted_orders, lists]
    · rw [KeepsNotice, goesOn_control, next.only, waits.control]
      exact ⟨rfl, rfl, rfl⟩
  · obtain ⟨hw, hmark, hstate, hand, hfound, others⟩ := harr
    have rule : sheetHandRule sh (sheetMarkTaken sh s) = recordSheetHand sh .prepared (sheetMarkTaken sh s) :=
      sheetHandRule_prepares (s := sheetMarkTaken sh s) hand hfound
    obtain ⟨p, hp⟩ : ∃ p, p = recordSheetHand sh .prepared (sheetMarkTaken sh s) := ⟨_, rfl⟩
    have mem : p.mem = s.mem := by rw [hp, recordSheetHand_mem]; rfl
    have orders : p.orders = s.orders := by rw [hp, recordSheetHand_orders]; rfl
    have memory : MemoryOk p := by rw [MemoryOk, mem]; exact hm
    have same : Keeps (fun _ => True) s p := (Keeps.refl s).same mem
    have only : OnlySheetHand sh s p := by rw [hp, ← rule]; exact onlySheetHand_sheetHandRule sh s
    have spec := promoted_spec memory sh
    have calls : Keeps CallBytes s (promoted sh p) := Keeps.trans (fun a _ => same a trivial) spec.calls
    have called : calledBack (promoted sh p) sh = calledBack s sh := funext fun x => calledBack_kept calls x
    have lists : (promoted sh p).orders.runList = s.orders.runList := by rw [spec.orders, orders]
    have wentLive : promoteSheet sh p = refreshWanted (callBack (calledBack s sh) s.orders.runList (promoted sh p)) := by
      rw [promoteSheet_eq, sheetWentLive_eq, called, lists]
    have back := callsBack (P := calledBack s sh) (xs := s.orders.runList) spec.memory
    have loads : ((promoteSheet sh p).back sh.back).state ≠ .awaitingSheet := by
      have kept : (promoteSheet sh p).back sh.back = (promoted sh p).back sh.back := by
        rw [wentLive, inOrders_refreshWanted, back.inOrders]
        cases sh.back <;> rfl
      rw [kept, spec.state]
      exact fun h => nomatch h
    have qualifies : sheetQualifies p sh = true := by
      have profile : sheetProfile p sh = sheetProfile s sh := same.byteAt trivial
      have valid : byteAt p (profileBase (sheetProfile s sh)) = byteAt s (profileBase (sheetProfile s sh)) := same.byteAt trivial
      unfold sheetQualifies profileValid
      rw [profile, valid]
      simp [hp7, hvalid]
    have look : lookForSheet sh.back p = promoteSheet sh p := by
      refine lookForSheet_promotes ?_ ?_ ?_ qualifies (fun x hx hne => ?_) loads
      · rw [only.backs]
        exact hstate
      · rw [hp]
        exact sheetHand_record_same ..
      · rw [hp, recordSheetHand_watch]
        show sh ∉ dropMember s.watch.sheetMarks sh
        simp [mem_dropMember]
      · rw [only.others x hne]
        exact others x hx hne
    have run : exec (.sheetMarkTake sh) s = .next (refreshWanted (callBack (calledBack s sh) s.orders.runList (promoted sh p))) := by
      show Host.Outcome.next (if atWork s then takeSheetMark sh s else s) = _
      rw [if_pos hw, takeSheetMark, if_pos hmark, handleSheetMark, if_pos hmark]
      refine congrArg Host.Outcome.next ?_
      rw [← wentLive, ← look, hp, ← rule]
      rfl
    obtain ⟨b, hb⟩ : ∃ b, b = callBack (calledBack s sh) s.orders.runList (promoted sh p) := ⟨_, rfl⟩
    rw [← hb] at run back
    have wanting := writes_refreshWanted b
    have final : (refreshWanted b).orders = { s.orders with
        runList := s.orders.runList.map fun x => if calledBack s sh x then { x with sub := .waitingRun } else x } := by
      rw [refreshWanted_orders, back.orders, spec.orders, orders]
      exact congrArg (fun l => ({ s.orders with runList := l } : Orders)) (picked_map hnodup)
    refine ⟨_, run, final, fun x hx hc => ?_, fun all => ?_⟩
    · have hxn := x.slot.isLt
      have hxo := outcome_eq x.slot
      exact (wanting.byteAt (by omega)).trans (back.sub x.slot (List.mem_map_of_mem (List.mem_filter.mpr ⟨hx, hc⟩)))
    · refine wanted_none back.memory fun y hy => ?_
      rw [← refreshWanted_orders, final] at hy
      obtain ⟨x, hx, rfl⟩ := List.mem_map.mp hy
      by_cases hc : calledBack s sh x = true
      · rw [if_pos hc]
        exact fun h => nomatch h
      · rw [if_neg hc]
        exact fun h => hc (all x hx h)

end Sys2Proof.Proofs
end

section
/-! SUPPORT. The labels of a withdrawn order are SKIPPED, but for the label at the printer (R39, R167). -/

namespace Sys2Proof.Proofs

open Sys2Proof Sys2Proof.Machine Sys2Proof.Safety Sys2Proof.Laws Sys2Proof.Claims

variable {s t u : State} {n m : Slot} {sh x : Sheet} {k j c d : Nat} {e o : OrderEntry}

/-! ### Frame states under label states -/

/-- Where the bytes of frame states lie. -/
theorem frameByte_bounds {a : Nat} (h : FrameByte a) : 0x4040 ≤ a ∧ a < 0x5000 ∧ a % 0x10 = 0 ∧ 0x40 ≤ a % 0x400 := by
  obtain ⟨y, j, rfl⟩ := h
  have hi := sheetIndex_lt y
  have hf := frameRecord_eq y j
  omega

theorem keepsFrames_skipLabel (sh : Sheet) (k : Nat) (s : State) :
    Keeps FrameByte (setLabelState sh k .skipped s) (skipLabel sh k s) := by
  have hn := (frameSlot s sh k).isLt
  have ho := outcome_eq (frameSlot s sh k)
  rw [skipLabel_eq]
  exact ((Keeps.refl _).release (apart_frameByte fun b _ _ => by omega) (apart_frameByte fun b _ _ => by
    rw [accountBase_eq] at *; omega)).setWord (apart_frameByte fun b _ _ => by omega)

theorem frameCode_skipLabel (hm : MemoryOk s) : frameCode (skipLabel sh k s) x j = frameCode s x j :=
  (frameCode_kept (keepsFrames_skipLabel sh k s) x j).trans (frameCode_setLabelState hm .skipped)

theorem labelCode_skipLabel (hm : MemoryOk s) :
    labelCode (skipLabel sh k s) x j = if frameRecord x j = frameRecord sh k then 5 else labelCode s x j :=
  (labelCode_kept (keepsFrames_skipLabel sh k s) x j).trans (labelCode_setLabelState hm .skipped)

theorem frameCode_promoteOne (hm : MemoryOk s) : frameCode (promoteOne s) x j = frameCode s x j := by
  have hr : Config.report = 0x5D00 := rfl
  unfold promoteOne
  split
  · split
    · next sh k hw =>
      have queued : MemoryOk (setQueue (s.labels.queue ++ [composeLabel s sh k]) s) := memoryOk_setByte hm
      have lined : Keeps FrameByte s (setQueue (s.labels.queue ++ [composeLabel s sh k]) s) :=
        (Keeps.refl s).report (apart_frameByte fun b _ _ => by omega)
      have counted : Keeps FrameByte (appendLabel sh k s) (setWaitingCount (waitingCount s - 1) (appendLabel sh k s)) :=
        (Keeps.refl _).report (apart_frameByte fun b _ _ => by omega)
      exact (frameCode_kept counted x j).trans ((frameCode_setLabelState queued .queued).trans (frameCode_kept lined x j))
    · rfl
  · rfl

theorem frameCode_promoteLabels (hm : MemoryOk s) : frameCode (promoteLabels s) x j = frameCode s x j := by
  have all (i : Nat) : ∀ {s : State}, MemoryOk s → frameCode (repeatN promoteOne i s) x j = frameCode s x j := by
    induction i with
    | zero => exact fun _ => rfl
    | succ i ih => exact fun hm => (ih (promotes_one hm).memory).trans (frameCode_promoteOne hm)
  exact all _ hm

/-! ### The skipping of some labels of one order -/

/-- Some outstanding labels less. -/
def lowerLabels (c : Nat) (e : OrderEntry) : OrderEntry := { e with outstanding := e.outstanding - c }

theorem updateOrder_lowerLabels (n : Slot) (c d : Nat) (s : State) :
    updateOrder n (lowerLabels d) (updateOrder n (lowerLabels c) s) = updateOrder n (lowerLabels (c + d)) s := by
  have twice : ∀ e : OrderEntry, (if (if e.slot = n then lowerLabels c e else e).slot = n then
      lowerLabels d (if e.slot = n then lowerLabels c e else e) else (if e.slot = n then lowerLabels c e else e))
      = if e.slot = n then lowerLabels (c + d) e else e := fun e => by
    by_cases h : e.slot = n
    · have h' : (lowerLabels c e).slot = n := h
      rw [if_pos h, if_pos h, if_pos h']
      unfold lowerLabels
      rw [Nat.sub_sub]
    · rw [if_neg h, if_neg h, if_neg h]
  unfold updateOrder setRunList
  simp only [List.map_map, Function.comp_def, twice]

theorem updateOrder_lowerNone (n : Slot) (s : State) : updateOrder n (lowerLabels 0) s = s := by
  have same : (fun e : OrderEntry => if e.slot = n then lowerLabels 0 e else e) = id := funext fun e => by
    split <;> rfl
  unfold updateOrder setRunList
  rw [same, List.map_id]

/-- The bytes that the end of labels of an order with account i writes. -/
abbrev SkipAllBytes (n : Slot) (i a : Nat) : Prop :=
  FrameByte a ∨ within (outcome n + 0x0C) 2 a ∨ ReleaseBytes n i a ∨ a = 0x5D0A ∨ a = 0x5D0B

/-- What it leaves that c labels of the order of slot n are SKIPPED, with or without promotions. -/
structure Skips (n : Slot) (c : Nat) (s t : State) : Prop where
  codes : ∀ sh k, labelCode s sh k = 5 → labelCode t sh k = 5
  frames : ∀ sh k, frameCode t sh k = frameCode s sh k
  idle : waitingCount s = 0 → waitingCount t = 0
  pays : Pays n 0 s t
  orders : t.orders = (updateOrder n (lowerLabels c) s).orders
  labels : t.labels = { s.labels with queue := t.labels.queue }
  bytes : Writes (SkipAllBytes n (accountIndex s n)) s t
  only : t = { s with mem := t.mem, orders := t.orders, labels := t.labels }
  memory : MemoryOk t

theorem updateOrder_orders_congr {f : OrderEntry → OrderEntry} (h : t.orders = s.orders) :
    (updateOrder n f t).orders = (updateOrder n f s).orders := by
  unfold updateOrder setRunList
  dsimp only
  rw [h]

namespace Skips

theorem refl (hm : MemoryOk s) : Skips n 0 s s :=
  ⟨fun _ _ h => h, fun _ _ => rfl, id, .kept (.refl s), by rw [updateOrder_lowerNone], rfl, .refl s, rfl, hm⟩

theorem trans (h : Skips n c s t) (k : Skips n d t u) : Skips n (c + d) s u := by
  have orders := k.orders
  have labels := k.labels
  have only := k.only
  have bytes := k.bytes
  rw [h.pays.account] at bytes
  refine ⟨fun x j hx => k.codes x j (h.codes x j hx), fun x j => (k.frames x j).trans (h.frames x j), fun hi => k.idle (h.idle hi),
    h.pays.trans k.pays, ?_, ?_, h.bytes.andThen bytes, ?_, k.memory⟩
  · rw [orders, updateOrder_orders_congr h.orders, updateOrder_lowerLabels]
  · rw [labels, h.labels]
  · rw [only, h.only]

/-- Another waiting count, that is 0 when it was. -/
theorem setWaitingCount {w : Nat} (h : Skips n c s t) (hw : waitingCount s = 0 → w = 0) :
    Skips n c s (setWaitingCount w t) := by
  have hn := n.isLt
  have hs := slotBase_eq n
  have ho := outcome_eq n
  have hb := accountBase_eq (accountIndex s n)
  have hr : Config.report = 0x5D00 := rfl
  have hsize : Config.memorySize = 0x8000 := rfl
  have counted : Writes (fun a => a = 0x5D0B) t (Machine.setWaitingCount w t) :=
    (Keeps.refl _).report (apart_others fun b _ _ => by omega)
  have frames : Keeps FrameByte t (Machine.setWaitingCount w t) := (Keeps.refl _).report (apart_frameByte fun b _ _ => by omega)
  refine ⟨fun x j hx => (labelCode_kept frames x j).trans (h.codes x j hx), fun x j => (frameCode_kept frames x j).trans (h.frames x j),
    fun hi => ?_, h.pays.andKept fun a ha => counted a (by omega), ?_, h.labels, h.bytes.andThen (counted.mono fun a ha => by omega), ?_,
    memoryOk_setByte h.memory⟩
  · refine (byteAt_setByte_same h.memory (by omega)).trans ?_
    rw [hw hi]
  · exact h.orders
  · have counts : Machine.setWaitingCount w t = { t with mem := (Machine.setWaitingCount w t).mem } := setByte_only_mem ..
    exact counts.trans (congrArg (fun v : State => { v with mem := (Machine.setWaitingCount w t).mem }) h.only)

theorem frameSlot (h : Skips n c s t) (x : Sheet) (j : Nat) : Machine.frameSlot t x j = Machine.frameSlot s x j := by
  have hn := n.isLt
  have ho := outcome_eq n
  have hb := accountBase_eq (accountIndex s n)
  have hi := sheetIndex_lt x
  have hf := frameRecord_eq x j
  have same : byteAt t (frameRecord x j + 1) = byteAt s (frameRecord x j + 1) := h.bytes.byteAt fun ha => by
    rcases ha with ha | ha
    · have := frameByte_bounds ha
      omega
    · omega
  unfold Machine.frameSlot
  simp only [same]

end Skips

theorem skips_withdrawn (hm : MemoryOk s) (h : frameSlot s sh k = n) : Skips n 1 s (skipWithdrawn n sh k s) := by
  have gone := skipped hm sh k
  rw [h] at gone
  obtain ⟨v, hv⟩ : ∃ v, v = skipLabel sh k s := ⟨_, rfl⟩
  have codes (x : Sheet) (j : Nat) := labelCode_skipLabel (s := s) (sh := sh) (k := k) (x := x) (j := j) hm
  have frames (x : Sheet) (j : Nat) := frameCode_skipLabel (s := s) (sh := sh) (k := k) (x := x) (j := j) hm
  have hn := n.isLt
  have hs := slotBase_eq n
  have ho := outcome_eq n
  have hb := accountBase_eq (accountIndex s n)
  have hf := frameRecord_eq sh k
  have hi := sheetIndex_lt sh
  show Skips n 1 s (updateOrder n (lowerLabels 1) (skipLabel sh k s))
  simp only [← hv] at gone codes frames ⊢
  obtain ⟨q, only⟩ : ∃ q, v = { s with mem := q } := ⟨_, gone.only⟩
  refine ⟨fun x j hx => (codes x j).trans ((ite_congr rfl (fun _ => rfl) fun _ => hx).trans (ite_self 5)), frames, fun hi => ?_,
    gone.pays.andKept ((Keeps.refl v).same rfl),
    ?_, ?_, Writes.mono (gone.bytes.andThen ((Keeps.refl v).same rfl)) fun a ha => ?_, ?_, gone.memory⟩
  · exact (gone.bytes.byteAt (a := 0x5D0B) (by omega)).trans hi
  · exact updateOrder_orders_congr (by rw [only])
  · show v.labels = _
    rw [only]
    rfl
  · rcases ha with ha | ha | ha
    · exact .inl ⟨sh, k, ha⟩
    · exact .inr (.inl ha)
    · exact .inr (.inr (.inl ha))
  · rw [only]
    rfl

/-- The labels of a list of frames of one order are SKIPPED one by one. -/
theorem skips_foldl {f : State → Sheet × Nat → State} {xs : List (Sheet × Nat)}
    (step : ∀ (s : State) (x : Sheet × Nat), MemoryOk s → frameSlot s x.1 x.2 = n →
      Skips n 1 s (f s x) ∧ labelCode (f s x) x.1 x.2 = 5 ∧ (f s x).labels = s.labels)
    (hm : MemoryOk s) (h : ∀ x ∈ xs, frameSlot s x.1 x.2 = n) :
    Skips n xs.length s (xs.foldl f s) ∧ (∀ x ∈ xs, labelCode (xs.foldl f s) x.1 x.2 = 5)
      ∧ (xs.foldl f s).labels = s.labels := by
  induction xs generalizing s with
  | nil => exact ⟨.refl hm, fun _ hx => absurd hx List.not_mem_nil, rfl⟩
  | cons y ys ih =>
    obtain ⟨one, code, labels⟩ := step s y hm (h y (.head _))
    have slots : ∀ x ∈ ys, frameSlot (f s y) x.1 x.2 = n := fun x hx => by
      rw [one.frameSlot]
      exact h x (.tail _ hx)
    obtain ⟨rest, codes, labels'⟩ := ih one.memory slots
    have total := one.trans rest
    rw [Nat.add_comm] at total
    refine ⟨total, fun x hx => ?_, labels'.trans labels⟩
    rcases List.mem_cons.mp hx with rfl | hx
    · exact rest.codes _ _ code
    · exact codes x hx

end Sys2Proof.Proofs
end

section
/-! SUPPORT. What a withdrawal leaves of an order's labels (R39, R167). -/

namespace Sys2Proof.Proofs

open Sys2Proof Sys2Proof.Machine Sys2Proof.Safety Sys2Proof.Laws Sys2Proof.Claims

variable {s t u v : State} {n m : Slot} {sh x : Sheet} {k j c d : Nat} {e o : OrderEntry}

theorem skipWithdrawn_step (hm : MemoryOk s) (h : frameSlot s sh k = n) : Skips n 1 s (skipWithdrawn n sh k s)
    ∧ labelCode (skipWithdrawn n sh k s) sh k = 5 ∧ (skipWithdrawn n sh k s).labels = s.labels := by
  have code := labelCode_skipLabel (x := sh) (j := k) (sh := sh) (k := k) hm
  have only := (skipped hm sh k).only
  rw [if_pos rfl] at code
  refine ⟨skips_withdrawn hm h, ?_⟩
  unfold skipWithdrawn
  generalize skipLabel sh k s = v at code only
  have labels := congrArg State.labels only
  exact ⟨code, labels⟩

theorem labelCode_setWaitingCount (w : Nat) : labelCode (setWaitingCount w s) sh k = labelCode s sh k := by
  have hr : Config.report = 0x5D00 := rfl
  exact labelCode_kept ((Keeps.refl s).report (apart_frameByte fun b _ _ => by omega)) sh k

/-- Every WAITING label of the order is SKIPPED. -/
theorem skipWaiting_spec (n : Slot) (hm : MemoryOk s) : Skips n (waitingOf s n).length s (skipWaiting n s)
    ∧ (∀ x ∈ waitingOf s n, labelCode (skipWaiting n s) x.1 x.2 = 5) ∧ (skipWaiting n s).labels = s.labels := by
  refine skips_foldl (f := fun s x => setWaitingCount (waitingCount s - 1) (skipWithdrawn n x.1 x.2 s))
    (xs := waitingOf s n) (fun v x hv hx => ?_) hm fun x hx => ?_
  · obtain ⟨one, code, labels⟩ := skipWithdrawn_step (s := v) hv hx
    generalize skipWithdrawn n x.1 x.2 v = w at one code labels
    exact ⟨one.setWaitingCount fun h => by omega, (labelCode_setWaitingCount _).trans code, labels⟩
  · exact of_decide_eq_true ((Bool.and_eq_true_iff.mp (List.mem_filter.mp hx).2).2)

/-- Taking the entries of an order out of the queue, but for the label at the printer. -/
theorem skippedEntries_compl (h : v.labels = s.labels) :
    v.labels.queue.filter (fun e => decide (e ∉ skippedEntries v n)) = queueWithout s n := by
  unfold skippedEntries queueWithout
  rw [h]
  refine List.filter_congr fun e he => ?_
  have printer : atPrinter v e = decide (s.labels.printer = .printing ∧ s.labels.queue.head? = some e) := by
    unfold atPrinter
    rw [h, Bool.decide_and]
  simp only [List.mem_filter, he, printer, true_and]
  by_cases hs : e.slot = n <;> simp [hs]

theorem mem_skippedEntries {y : LabelEntry} (h : v.labels = s.labels) :
    y ∈ skippedEntries v n ↔ y ∈ s.labels.queue ∧ y ∉ queueWithout s n := by
  rw [← skippedEntries_compl (n := n) h, List.mem_filter, h, decide_eq_true_eq]
  refine ⟨fun hy => ⟨?_, fun c => c.2 hy⟩, fun hy => not_not.mp fun c => hy.2 ⟨hy.1, c⟩⟩
  rw [← h]
  exact List.mem_of_mem_filter hy

theorem skippedEntries_slot {y : LabelEntry} (h : y ∈ skippedEntries v n) : y.slot = n :=
  of_decide_eq_true (Bool.and_eq_true_iff.mp (List.mem_filter.mp h).2).1

theorem length_skippedEntries (h : v.labels = s.labels) :
    (skippedEntries v n).length = s.labels.queue.length - (queueWithout s n).length := by
  have total := List.length_eq_length_filter_add (l := s.labels.queue) fun e => decide (e ∉ skippedEntries v n)
  have rest : (s.labels.queue.filter fun e => !decide (e ∉ skippedEntries v n)) = skippedEntries v n := by
    have inside : ∀ y ∈ s.labels.queue, (!decide (y ∉ skippedEntries v n)) = (decide (y.slot = n) && !atPrinter v y) := fun y hy => by
      rw [Bool.eq_iff_iff]
      simp [skippedEntries, List.mem_filter, h, hy]
    rw [List.filter_congr inside, ← h]
    rfl
  have without := skippedEntries_compl (n := n) h
  rw [h] at without
  rw [without, rest] at total
  omega

theorem skips_setQueue (q : List LabelEntry) (hm : MemoryOk s) : Skips n 0 s (setQueue q s) := by
  have hn := n.isLt
  have hs := slotBase_eq n
  have ho := outcome_eq n
  have hb := accountBase_eq (accountIndex s n)
  have bytes := writes_setQueue q s
  have frames : Keeps FrameByte s (setQueue q s) := fun a ha => bytes a fun c => by
    have := frameByte_bounds ha
    omega
  refine ⟨fun x j hx => (labelCode_kept frames x j).trans hx, fun x j => frameCode_kept frames x j,
    fun hi => (bytes.byteAt (a := 0x5D0B) (by omega)).trans hi, .kept fun a ha => bytes a (by omega), ?_, ?_,
    bytes.mono fun a ha => by omega, ?_, memoryOk_setQueue hm⟩
  · rw [updateOrder_lowerNone, setQueue_orders]
  · rfl
  · rfl

theorem skips_promoteLabels (hm : MemoryOk s) : Skips n 0 s (promoteLabels s) := by
  have hn := n.isLt
  have hs := slotBase_eq n
  have ho := outcome_eq n
  have hb := accountBase_eq (accountIndex s n)
  have moved := promotes hm
  refine ⟨fun x j hx => (moved.codes x j (by omega)).trans hx, fun x j => frameCode_promoteLabels hm, fun hi => ?_,
    .kept fun a ha => moved.bytes a fun c => ?_, ?_, moved.labels, moved.bytes.mono fun a ha => ?_, ?_, moved.memory⟩
  · rw [promoteLabels_idle hi]
    exact hi
  · rcases c with c | c
    · have := frameByte_bounds c
      omega
    · omega
  · rw [updateOrder_lowerNone, moved.only.orders]
  · rcases ha with ha | ha
    · exact .inl ha
    · exact .inr (by omega)
  · rw [moved.only]

/-- What the withdrawal of an order leaves of its labels. -/
theorem skipOrderLabels_spec (n : Slot) (hm : MemoryOk s) (hn : EntriesNamed s n) :
    Skips n (skippedLabels s n) s (skipOrderLabels n s) ∧ LabelsSkipped s (skipOrderLabels n s) n := by
  obtain ⟨first, waiting, labels⟩ := skipWaiting_spec n hm
  obtain ⟨v, hv⟩ : ∃ v, v = skipWaiting n s := ⟨_, rfl⟩
  have whole : skipOrderLabels n s = promoteLabels (((skippedEntries v n).map fun e => (e.sheet, e.frame)).foldl
      (fun s x => skipWithdrawn n x.1 x.2 s) (setQueue (queueWithout s n) v)) := by
    rw [List.foldl_map, hv, ← skippedEntries_compl (n := n) labels]
    rfl
  rw [← hv] at first waiting labels
  have lined : Skips n 0 v (setQueue (queueWithout s n) v) := skips_setQueue _ first.memory
  have slots : ∀ x ∈ (skippedEntries v n).map fun e => (e.sheet, e.frame),
      frameSlot (setQueue (queueWithout s n) v) x.1 x.2 = n := fun x hx => by
    obtain ⟨y, hy, rfl⟩ := List.mem_map.mp hx
    rw [lined.frameSlot, first.frameSlot]
    exact (hn y ((mem_skippedEntries labels).mp hy).1).2.2 (skippedEntries_slot hy)
  obtain ⟨second, queued, labels'⟩ := skips_foldl (f := fun s x => skipWithdrawn n x.1 x.2 s)
    (fun w x hw hx => skipWithdrawn_step hw hx) lined.memory slots
  obtain ⟨w, hw⟩ : ∃ w, w = ((skippedEntries v n).map fun e => (e.sheet, e.frame)).foldl
      (fun s x => skipWithdrawn n x.1 x.2 s) (setQueue (queueWithout s n) v) := ⟨_, rfl⟩
  rw [← hw] at second queued labels' whole
  have third : Skips n 0 w (promoteLabels w) := skips_promoteLabels second.memory
  have count : ((skippedEntries v n).map fun e => (e.sheet, e.frame)).length = s.labels.queue.length - (queueWithout s n).length := by
    rw [List.length_map, length_skippedEntries labels]
  rw [count] at second
  have both := lined.trans second
  have total := first.trans (both.trans third)
  rw [whole]
  refine ⟨by simpa only [Nat.zero_add, Nat.add_zero] using total, fun x hx => ?_, fun x hx hq => ?_, fun hi => ?_⟩
  · exact (both.trans third).codes _ _ (waiting x hx)
  · refine third.codes _ _ (queued (x.sheet, x.frame) ?_)
    exact List.mem_map_of_mem (f := fun e => (e.sheet, e.frame)) ((mem_skippedEntries labels).mpr ⟨hx, hq⟩)
  · rw [promoteLabels_idle (both.idle (first.idle hi)), labels']
    rfl

end Sys2Proof.Proofs
end

section
/-! SUPPORT. The withdrawal of a COPY order as a whole (R39, R42). -/

namespace Sys2Proof.Proofs

open Sys2Proof Sys2Proof.Machine Sys2Proof.Safety Sys2Proof.Laws Sys2Proof.Claims

variable {s t u v w : State} {n m : Slot} {sh x : Sheet} {k j c d : Nat} {e o : OrderEntry}

/-! ### The completion of an order that pays no surcharge (R42, R180) -/

/-- An order that is not RUSH, or has no frame EXPOSED, completes with releases alone. -/
theorem writes_completeCopy_unpaid (he : findOrder s n = some e) (h : e.rush = false ∨ framesExposed s n = 0) :
    Writes (fun a => FinishBytes n a ∨ ReleaseBytes n (accountIndex s n) a) s (completeCopy n s) := by
  obtain ⟨-, rfl⟩ := findOrder_some he
  have settled : Writes (ReleaseBytes e.slot (accountIndex s e.slot)) s (settleSurcharge e s) := by
    unfold settleSurcharge
    by_cases hr : e.rush = true
    · have h0 : framesExposed s e.slot = 0 := h.resolve_left (by rw [hr]; decide)
      rw [if_pos hr, if_neg (by omega)]
      exact writes_release e.slot _ s
    · rw [if_neg hr]
      exact .refl s
  have freed := writes_release e.slot (remaining (settleSurcharge e s) e.slot) (settleSurcharge e s)
  rw [accountIndex_settleSurcharge] at freed
  rw [completeCopy_some he]
  exact ((settled.andThen freed).mono fun _ ha => .inr ha).andThen ((writes_finishOrder _ _ _).mono fun _ ha => .inl ha)

/-! ### From the withdrawal's entry to the end of its labels (R39 steps 2 and 3) -/

/-- The order with its withdrawal in effect. -/
def asWithdrawn (e : OrderEntry) : OrderEntry := { e with withdrawn := true }

/-- The order whose withdrawal is in effect and whose PENDING shots are WITHDRAWN. -/
def shotsWithdrawn (n : Slot) (s : State) : State := closePending n .withdrawn (updateOrder n asWithdrawn s)

/-- The order whose labels are SKIPPED too. -/
def labelsWithdrawn (n : Slot) (s : State) : State := skipOrderLabels n (shotsWithdrawn n s)

theorem labelsWithdrawn_eq (n : Slot) (s : State) : labelsWithdrawn n s =
    skipOrderLabels n (closePending n .withdrawn (updateOrder n (fun e => { e with withdrawn := true }) s)) := by
  have marks : asWithdrawn = fun e : OrderEntry => { e with withdrawn := true } := rfl
  unfold labelsWithdrawn shotsWithdrawn
  rw [marks]

theorem withdrawOrder_completes (h : findOrder (labelsWithdrawn n s) n = some e) (h0 : e.outstanding = 0) :
    withdrawOrder n s = completeCopy n (labelsWithdrawn n s) := by
  rw [labelsWithdrawn_eq] at h ⊢
  unfold withdrawOrder
  dsimp only
  rw [h]
  dsimp only
  rw [if_pos h0]

theorem withdrawOrder_finishing (h : findOrder (labelsWithdrawn n s) n = some e) (h0 : e.outstanding ≠ 0) :
    withdrawOrder n s = refreshWanted (setSub n .finishing (labelsWithdrawn n s)) := by
  rw [labelsWithdrawn_eq] at h ⊢
  unfold withdrawOrder
  dsimp only
  rw [h]
  dsimp only
  rw [if_neg h0]

theorem writes_shotsWithdrawn (n : Slot) (s : State) :
    Writes (fun a => ∃ i, i < 24 ∧ a = shotOutcome n i) s (shotsWithdrawn n s) :=
  Keeps.closePending (Keeps.same (.refl s) rfl) fun i hi => apart_others fun b _ _ => ⟨i, hi, by omega⟩

theorem shotsWithdrawn_only (n : Slot) (s : State) : shotsWithdrawn n s =
    { s with mem := (shotsWithdrawn n s).mem, orders := (updateOrder n asWithdrawn s).orders } :=
  closePending_only_mem n .withdrawn (updateOrder n asWithdrawn s)

theorem memoryOk_shotsWithdrawn (hm : MemoryOk s) : MemoryOk (shotsWithdrawn n s) :=
  memoryOk_closePending (s := updateOrder n asWithdrawn s) hm

theorem shotCode_shotsWithdrawn (hm : MemoryOk s) (hj : j < 24) : shotCode (shotsWithdrawn n s) n j
    = if j < shotCount s n ∧ shotCode s n j = 0 then 5 else shotCode s n j :=
  shotCode_closePending (s := updateOrder n asWithdrawn s) (c := .withdrawn) (by decide) hm hj

/-- What a withdrawal settles is told by the labels' states and their frames' slots. -/
theorem skippedLabels_kept (codes : ∀ sh k, labelCode t sh k = labelCode s sh k) (slots : ∀ sh k, frameSlot t sh k = frameSlot s sh k)
    (labels : t.labels = s.labels) : waitingOf t n = waitingOf s n ∧ queueWithout t n = queueWithout s n
      ∧ skippedLabels t n = skippedLabels s n := by
  have waiting : waitingOf t n = waitingOf s n := by
    unfold waitingOf
    simp only [codes, slots]
  have queue : queueWithout t n = queueWithout s n := by
    unfold queueWithout
    rw [labels]
  refine ⟨waiting, queue, ?_⟩
  unfold skippedLabels
  rw [waiting, queue, labels]

/-! ### The withdrawal in a step that has written before (R39, R42) -/

/-- The bytes that the end of a shot at the gate writes before its order is withdrawn. -/
abbrev StopBytes (n : Slot) (i a : Nat) : Prop :=
  FrameByte a ∨ (∃ sh, within (sheetBase sh + 8) 3 a) ∨ ReleaseBytes n i a ∨ (∃ j, j < 24 ∧ a = shotOutcome n j)
    ∨ within (outcome n + 4) 2 a

/-- From s the step has come to u with what a withdrawal of the order of slot n settles as it was. -/
structure StillOwes (n : Slot) (s u : State) : Prop where
  codes : ∀ sh k, labelCode u sh k = labelCode s sh k
  bytes : Writes (StopBytes n (accountIndex s n)) s u
  pays : Pays n 0 s u
  labels : u.labels = s.labels
  runList : u.orders.runList = s.orders.runList
  control : u.control = s.control
  memory : MemoryOk u

theorem StillOwes.refl (hm : MemoryOk s) : StillOwes n s s := ⟨fun _ _ => rfl, .refl s, .kept (.refl s), rfl, rfl, rfl, hm⟩

theorem off_stopBytes {i a : Nat} (ha : a < 0x4000 ∨ 0x5000 ≤ a ∨ 0x40 ≤ a % 0x400 ∧ a % 0x10 ≠ 0)
    (h : ¬ (ReleaseBytes n i a ∨ (∃ j, j < 24 ∧ a = shotOutcome n j) ∨ within (outcome n + 4) 2 a)) : ¬ StopBytes n i a := by
  rintro (c | ⟨x, c⟩ | c)
  · have := frameByte_bounds c
    omega
  · have hi := sheetIndex_lt x
    have hx := sheetBase_eq x
    omega
  · exact h c

theorem StillOwes.frameSlot (h : StillOwes n s u) (x : Sheet) (j : Nat) : Machine.frameSlot u x j = Machine.frameSlot s x j := by
  have hn := n.isLt
  have ho := outcome_eq n
  have hb := accountBase_eq (accountIndex s n)
  have hi := sheetIndex_lt x
  have hf := frameRecord_eq x j
  have same : byteAt u (frameRecord x j + 1) = byteAt s (frameRecord x j + 1) :=
    h.bytes.byteAt (off_stopBytes (by omega) fun c => by
      rcases c with c | ⟨i, hi', c⟩ | c
      · omega
      · have := shotOutcome_eq n i
        omega
      · omega)
  unfold Machine.frameSlot
  simp only [same]

/-- The order as its labels leave it. -/
def afterLabels (c : Nat) (e : OrderEntry) : OrderEntry := { e with withdrawn := true, outstanding := e.outstanding - c }

/-- The bytes that a withdrawal writes up to the end of the order's labels. -/
abbrev LabelsOffBytes (n : Slot) (i a : Nat) : Prop := SkipAllBytes n i a ∨ ∃ j, j < 24 ∧ a = shotOutcome n j

/-- What a withdrawal leaves once the order's labels are SKIPPED. -/
structure LabelsOff (n : Slot) (s u w : State) : Prop where
  labels : LabelsSkipped s w n
  orders : w.orders = (updateOrder n (afterLabels (skippedLabels s n)) u).orders
  pays : Pays n 0 s w
  pending : ∀ i, i < 24 → shotCode w n i = if i < shotCount u n ∧ shotCode u n i = 0 then 5 else shotCode u n i
  frames : ∀ sh k, frameCode w sh k = frameCode u sh k
  bytes : Writes (LabelsOffBytes n (accountIndex s n)) u w
  only : w = { u with mem := w.mem, orders := w.orders, labels := w.labels }
  memory : MemoryOk w

theorem updateOrder_afterLabels (n : Slot) (c : Nat) (s : State) :
    updateOrder n (lowerLabels c) (updateOrder n asWithdrawn s) = updateOrder n (afterLabels c) s := by
  have twice : ∀ e : OrderEntry, (if (if e.slot = n then asWithdrawn e else e).slot = n then
      lowerLabels c (if e.slot = n then asWithdrawn e else e) else (if e.slot = n then asWithdrawn e else e))
      = if e.slot = n then afterLabels c e else e := fun e => by
    by_cases h : e.slot = n
    · have h' : (asWithdrawn e).slot = n := h
      rw [if_pos h, if_pos h, if_pos h']
      rfl
    · rw [if_neg h, if_neg h, if_neg h]
  unfold updateOrder setRunList
  simp only [List.map_map, Function.comp_def, twice]

theorem labelsOff (h : StillOwes n s u) (hn : EntriesNamed s n) : LabelsOff n s u (labelsWithdrawn n u) := by
  have hlt := n.isLt
  have hs := slotBase_eq n
  have ho := outcome_eq n
  have hb := accountBase_eq (accountIndex s n)
  have hr : Config.report = 0x5D00 := rfl
  have closed := writes_shotsWithdrawn n u
  have only := shotsWithdrawn_only n u
  have memory := memoryOk_shotsWithdrawn (n := n) h.memory
  have codes (i : Nat) (hi : i < 24) := shotCode_shotsWithdrawn (n := n) (j := i) h.memory hi
  obtain ⟨v, hv⟩ : ∃ v, v = shotsWithdrawn n u := ⟨_, rfl⟩
  have frameBytes : Keeps FrameByte u v := fun a ha => by
    obtain ⟨x, j, rfl⟩ := ha
    have hi := sheetIndex_lt x
    have hf := frameRecord_eq x j
    rw [hv]
    exact closed _ fun ⟨i, hi', c⟩ => by
      have := shotOutcome_eq n i
      omega
  unfold labelsWithdrawn
  rw [← hv] at closed only memory codes ⊢
  have off {a : Nat} (ha : ¬ (n.val * 0x400 + 0x220 ≤ a ∧ a < n.val * 0x400 + 0x3A0)) : ¬ ∃ i, i < 24 ∧ a = shotOutcome n i := by
    rintro ⟨i, hi, rfl⟩
    have := shotOutcome_eq n i
    omega
  have slots (x : Sheet) (j : Nat) : frameSlot v x j = frameSlot s x j := by
    have hi := sheetIndex_lt x
    have hf := frameRecord_eq x j
    have same : byteAt v (frameRecord x j + 1) = byteAt u (frameRecord x j + 1) := closed.byteAt (off (by omega))
    rw [← h.frameSlot]
    unfold frameSlot
    simp only [same]
  have orders : v.orders = (updateOrder n asWithdrawn u).orders := by rw [only]
  have labels : v.labels = s.labels := (congrArg State.labels only).trans h.labels
  obtain ⟨waiting, queue, count⟩ := skippedLabels_kept (n := n)
    (fun x j => (labelCode_kept frameBytes x j).trans (h.codes x j)) slots labels
  have named : EntriesNamed v n := fun y hy => by
    rw [labels] at hy
    rw [slots]
    exact hn y hy
  obtain ⟨skips, ends⟩ := skipOrderLabels_spec n memory named
  have waitingCounts : waitingCount v = waitingCount s :=
    (closed.byteAt (a := 0x5D0B) (off (by omega))).trans (h.bytes.byteAt (off_stopBytes (by omega) fun c => by
      rcases c with c | ⟨i, hi, c⟩ | c
      · omega
      · have := shotOutcome_eq n i
        omega
      · omega))
  have first : Pays n 0 s v := h.pays.andKept fun a ha => closed a (off (by omega))
  have bytes := skips.bytes
  rw [first.account] at bytes
  refine ⟨?_, ?_, first.trans skips.pays, fun i hi => ?_, fun x j => (skips.frames x j).trans (frameCode_kept frameBytes x j),
    (closed.mono fun a ha => .inr ha).andThen (bytes.mono fun a ha => .inl ha), ?_, skips.memory⟩
  · unfold LabelsSkipped at ends ⊢
    rw [waiting, queue, labels, waitingCounts] at ends
    exact ends
  · rw [skips.orders, count, updateOrder_orders_congr orders, updateOrder_afterLabels]
  · have hio := shotOutcome_eq n i
    have same : shotCode (skipOrderLabels n v) n i = shotCode v n i := bytes.byteAt fun c => by
      rcases c with c | c
      · have := frameByte_bounds c
        omega
      · omega
    exact same.trans (codes i hi)
  · have rest := skips.only
    generalize skipOrderLabels n v = w at rest ⊢
    exact rest.trans (congrArg (fun v : State => { v with mem := w.mem, orders := w.orders, labels := w.labels }) only)

end Sys2Proof.Proofs
end

section
/-! SUPPORT. The end of a withdrawn order, or its wait for the label at the printer (R39, R42). -/

namespace Sys2Proof.Proofs

open Sys2Proof Sys2Proof.Machine Sys2Proof.Safety Sys2Proof.Laws Sys2Proof.Claims

variable {s t u v w : State} {n m : Slot} {sh x : Sheet} {k j c d : Nat} {e o : OrderEntry}

/-- The bytes that the whole withdrawal of the order of slot n with account i writes when it pays no surcharge. -/
abbrev WithdrawBytes (n : Slot) (i a : Nat) : Prop := LabelsOffBytes n i a ∨ FinishBytes n a ∨ ReleaseBytes n i a

/-- What the withdrawal of the order of slot n, entry e, leaves, from u on, in a step from s. -/
structure OrderWithdrawn (n : Slot) (e : OrderEntry) (s u t : State) : Prop where
  labels : LabelsSkipped s t n
  ends : EndsWithdrawn s t n e
  pending : ∀ i, i < 24 → shotCode t n i = if i < shotCount u n ∧ shotCode u n i = 0 then 5 else shotCode u n i
  frames : ∀ sh k, frameCode t sh k = frameCode u sh k
  others : KeepsOtherHands n u t
  intake : t.orders.intake = u.orders.intake
  choice : t.orders.choice = u.orders.choice
  bytes : Writes (fun a => WithdrawBytes n (accountIndex s n) a ∨ ChargeBytes n (accountIndex s n) a) u t
  unpaid : e.rush = false ∨ framesExposed s n = 0 → Writes (WithdrawBytes n (accountIndex s n)) u t
  only : InOrders u t

/-- What ends or goes on after the labels leaves them, the shots' codes and the frames. -/
theorem labelsSkipped_kept (h : LabelsSkipped s w n) (hb : Keeps FrameByte w t) (hl : t.labels = w.labels) : LabelsSkipped s t n := by
  obtain ⟨waiting, queued, queue⟩ := h
  exact ⟨fun x hx => (labelCode_kept hb _ _).trans (waiting x hx), fun x hx hq => (labelCode_kept hb _ _).trans (queued x hx hq),
    fun hi => (congrArg Labels.queue hl).trans (queue hi)⟩

theorem findOrder_afterLabels (h : findOrder u n = some e) (hw : w.orders = (updateOrder n (afterLabels c) u).orders) :
    findOrder w n = some (afterLabels c e) := by
  obtain ⟨-, rfl⟩ := findOrder_some h
  rw [findOrder_of_orders (s := updateOrder e.slot (afterLabels c) u) (by rw [hw]),
    findOrder_updateOrder (g := afterLabels c) fun _ => rfl, h]
  exact congrArg some (if_pos rfl)

theorem off_labelsOffBytes {i a : Nat} (ha : a < 0x4000 ∨ 0x5000 ≤ a ∨ 0x40 ≤ a % 0x400 ∧ a % 0x10 ≠ 0)
    (h : ¬ (within (outcome n + 0x0C) 2 a ∨ ReleaseBytes n i a ∨ a = 0x5D0A ∨ a = 0x5D0B
      ∨ n.val * 0x400 + 0x220 ≤ a ∧ a < n.val * 0x400 + 0x3A0)) : ¬ LabelsOffBytes n i a := by
  rintro ((c | c) | ⟨j, hj, c⟩)
  · have := frameByte_bounds c
    omega
  · omega
  · have := shotOutcome_eq n j
    omega

/-- What a RUSH order would pay is not for its labels to change. -/
theorem surchargeDue_labelsOff {rush : Bool} (h : StillOwes n s u) (k : LabelsOff n s u w) (hi : accountIndex s n ≤ 63) :
    framesExposed w n = framesExposed s n ∧ surchargeDue rush n w = surchargeDue rush n s := by
  have hn := n.isLt
  have ho := outcome_eq n
  have hb := accountBase_eq (accountIndex s n)
  have hp : Config.prices = 0x5900 := rfl
  have same {a : Nat} (ha : a = outcome n + 6 ∨ a = outcome n + 7 ∨ within 0x5900 0x200 a) : byteAt w a = byteAt s a :=
    (k.bytes.byteAt (off_labelsOffBytes (by omega) (by omega))).trans (h.bytes.byteAt (off_stopBytes (by omega) fun c => by
      rcases c with c | ⟨i, hi', c⟩ | c
      · omega
      · have := shotOutcome_eq n i
        omega
      · omega))
  have exposed : framesExposed w n = framesExposed s n := by
    unfold framesExposed wordAt
    rw [same (.inl rfl), same (.inr (.inl rfl))]
  refine ⟨exposed, surchargeDue_kept exposed ?_⟩
  unfold rushSurcharge price wordAt
  rw [same (by omega), same (by omega)]

theorem LabelsOff.control (k : LabelsOff n s u w) (h : StillOwes n s u) : w.control = s.control :=
  (show w.control = u.control by rw [k.only]).trans h.control

theorem LabelsOff.inOrders (k : LabelsOff n s u w) : InOrders u w := by
  have control : w.control = u.control := by rw [k.only]
  unfold InOrders
  rw [control]
  exact k.only

/-- With no label outstanding the order ends WITHDRAWN (R39, R42). -/
theorem withdrawn_completes (h : StillOwes n s u) (k : LabelsOff n s u w) (he : findOrder s n = some e)
    (ha : accountIndex s n ≤ 63) (none : e.outstanding ≤ skippedLabels s n) : OrderWithdrawn n e s u (completeCopy n w) := by
  have hn := n.isLt
  have hs := slotBase_eq n
  have ho := outcome_eq n
  have hb := accountBase_eq (accountIndex s n)
  have account : accountIndex w n = accountIndex s n := k.pays.account
  have found : findOrder w n = some (afterLabels (skippedLabels s n) e) :=
    findOrder_afterLabels ((findOrder_of_orders h.runList).trans he) k.orders
  obtain ⟨exposed, due⟩ := surchargeDue_labelsOff (rush := e.rush) h k ha
  have reads := completeReads k.memory found
  have code : completionCode (afterLabels (skippedLabels s n) e) w = 3 := if_pos rfl
  rw [code] at reads
  have amounts := (completes_completeCopy k.memory found (by rw [account]; exact ha)).amounts k.pays due
  have writes := writes_completeCopy n w
  rw [account] at writes
  have list := completeCopy_runList found
  have only := completeCopy_only found
  have control : (completeCopy n w).control = (raise .orderDone s).control :=
    (completeCopy_control found).trans (raise_control_of (k.control h))
  have inOrders := inOrders_completeCopy n w
  have labels := completeCopy_labels n w
  have orders := congrArg State.orders only
  have unpaid (hu : (afterLabels (skippedLabels s n) e).rush = false ∨ framesExposed w n = 0) :=
    writes_completeCopy_unpaid found hu
  rw [account] at unpaid
  generalize completeCopy n w = t at *
  have orderList : t.orders.runList = s.orders.runList.filter fun x => decide (x.slot ≠ n) := by
    rw [list, k.orders, filter_updateOrder (g := afterLabels (skippedLabels s n)) fun _ => rfl, h.runList]
  have recorded : t.orders.recorded = (recordHand n .done u).orders.recorded := by
    rw [orders, k.orders]
    rfl
  obtain ⟨gone, owed, paid⟩ := amounts
  refine ⟨labelsSkipped_kept k.labels (keepsFrames_complete writes) labels,
    ⟨fun _ => ⟨reads.recorded, reads.found, reads.state, reads.sub, orderList, raisesOnly_of_control control, gone, fun free => ?_,
      gone, owed, paid⟩, fun c => by omega⟩,
    fun i hi => ?_, fun x j => (frameCode_kept (keepsFrames_complete writes) x j).trans (k.frames x j), fun m hm => ?_, ?_, ?_,
    (k.bytes.mono fun a ha => .inl (.inl ha)).andThen (writes.mono fun a ha => ?_), fun free => ?_, ?_⟩
  · have zero : (0 : Nat) = if e.rush = true ∧ 1 ≤ framesExposed s n then rushSurcharge s else 0 := by
      rw [if_neg]
      rintro ⟨hr, hf⟩
      rcases free with free | free
      · rw [hr] at free
        cases free
      · omega
    have := charged_lt s n
    have still := (paid 0 zero (by omega)).1
    exact ⟨by omega, owed⟩
  · have hio := shotOutcome_eq n i
    exact (writes.byteAt (by omega)).trans (k.pending i hi)
  · have same : recordedHand t m = recordedHand (recordHand n .done u) m := by
      unfold recordedHand
      rw [recorded]
    exact same.trans (recordedHand_other .done u hm)
  · rw [orders, k.orders]
    rfl
  · rw [orders, k.orders]
    rfl
  · rcases ha with ha | ha
    · exact .inl (.inr (.inl ha))
    · exact .inr ha
  · refine (k.bytes.mono fun a ha => .inl ha).andThen ((unpaid ?_).mono fun a ha => .inr ha)
    rw [exposed]
    exact free
  · exact k.inOrders.trans inOrders

/-- With a label still outstanding the order is FINISHING (R39, R41). -/
theorem withdrawn_finishing (h : StillOwes n s u) (k : LabelsOff n s u w) (hand : recordedHand u n = .withdraw)
    (more : skippedLabels s n < e.outstanding) : OrderWithdrawn n e s u (refreshWanted (setSub n .finishing w)) := by
  have hn := n.isLt
  have hs := slotBase_eq n
  have ho := outcome_eq n
  have writes := writes_goesOn n .finishing w
  have frames : Keeps FrameByte w (refreshWanted (setSub n .finishing w)) := fun a ha => writes a fun c => by
    have := frameByte_bounds ha
    omega
  have sub : byteAt (refreshWanted (setSub n .finishing w)) (outcome n + 1) = 4 := byteAt_sub_refreshed k.memory
  have orders := goesOn_orders n .finishing w
  have labels := goesOn_labels n .finishing w
  have control := goesOn_control n .finishing w
  have inOrders := goesOn_inOrders n .finishing w
  generalize refreshWanted (setSub n .finishing w) = t at *
  rw [k.control h] at control
  have recorded : t.orders.recorded = u.orders.recorded := by
    rw [orders, k.orders]
    rfl
  have hands (m : Slot) : recordedHand t m = recordedHand u m := by
    unfold recordedHand
    rw [recorded]
  refine ⟨labelsSkipped_kept k.labels frames labels,
    ⟨fun c => by omega, fun _ => ⟨(hands n).trans hand, sub, by unfold KeepsNotice; rw [control]; exact ⟨rfl, rfl, rfl⟩, ?_⟩⟩,
    fun i hi => ?_, fun x j => (frameCode_kept frames x j).trans (k.frames x j), fun m _ => hands m, ?_, ?_,
    (k.bytes.mono fun a ha => .inl (.inl ha)).andThen (writes.mono fun a ha => by omega),
    fun _ => (k.bytes.mono fun a ha => .inl ha).andThen (writes.mono fun a ha => by omega), ?_⟩
  · have twice : ∀ x : OrderEntry, (if (if x.slot = n then afterLabels (skippedLabels s n) x else x).slot = n then
        { (if x.slot = n then afterLabels (skippedLabels s n) x else x) with sub := .finishing }
        else (if x.slot = n then afterLabels (skippedLabels s n) x else x))
        = if x.slot = n then
            { x with withdrawn := true, sub := .finishing, outstanding := x.outstanding - skippedLabels s n } else x := fun x => by
      by_cases hx : x.slot = n
      · have hx' : (afterLabels (skippedLabels s n) x).slot = n := hx
        rw [if_pos hx, if_pos hx, if_pos hx']
        rfl
      · rw [if_neg hx, if_neg hx, if_neg hx]
    rw [orders, k.orders, ← h.runList]
    unfold updateOrder setRunList
    simp only [List.map_map, Function.comp_def, twice]
  · have hio := shotOutcome_eq n i
    exact (writes.byteAt (by omega)).trans (k.pending i hi)
  · rw [orders, k.orders]
    rfl
  · rw [orders, k.orders]
    rfl
  · exact k.inOrders.trans inOrders

/-- What a withdrawal leaves of its order, in a step that may have ended a shot before (R39). -/
theorem orderWithdrawn (h : StillOwes n s u) (he : findOrder s n = some e) (ha : accountIndex s n ≤ 63)
    (hand : recordedHand u n = .withdraw) (named : EntriesNamed s n) : OrderWithdrawn n e s u (withdrawOrder n u) := by
  have k := labelsOff h named
  have found : findOrder (labelsWithdrawn n u) n = some (afterLabels (skippedLabels s n) e) :=
    findOrder_afterLabels ((findOrder_of_orders h.runList).trans he) k.orders
  by_cases none : e.outstanding ≤ skippedLabels s n
  · have done : (afterLabels (skippedLabels s n) e).outstanding = 0 := Nat.sub_eq_zero_of_le none
    rw [withdrawOrder_completes found done]
    exact withdrawn_completes h k he ha none
  · have waits : (afterLabels (skippedLabels s n) e).outstanding ≠ 0 := fun c => none (Nat.le_of_sub_eq_zero c)
    rw [withdrawOrder_finishing found waits]
    exact withdrawn_finishing h k hand (by omega)

end Sys2Proof.Proofs
end

section
/-! SUPPORT. The end of a shot at the gate: its outcome code, shots done, and the prices of its missing pairs (R39, R65, R177). -/

namespace Sys2Proof.Proofs

open Sys2Proof Sys2Proof.Machine Sys2Proof.Safety Sys2Proof.Laws Sys2Proof.Claims

variable {s t u v w : State} {n m : Slot} {sh x : Sheet} {k j : Nat} {r : ShotRecord} {c : ShotCode} {counts : Bool}

/-! ### The frames still RESERVED -/

theorem writes_dropReserved (sh : Sheet) (k : Nat) (s : State) :
    Writes (fun a => a = sheetBase sh + 0x0A ∨ a = frameRecord sh k) s (dropReserved sh k s) := by
  have count : sheetCount .unused = 0x0A := rfl
  have marked : Writes (fun a => a = sheetBase sh + 0x0A ∨ a = frameRecord sh k) s (setFrameState sh k .unused s) :=
    (Keeps.refl s).setByte (apart_others fun b _ _ => by omega)
  exact Keeps.ite (fun _ => Keeps.ite (fun _ => marked.setByte (apart_others fun b hb hb' => by omega)) fun _ => marked) fun _ => .refl s

theorem writes_dropShotFrames (r : ShotRecord) (s : State) :
    Writes (fun a => a = sheetBase (shotSheet r) + 0x0A ∨ ∃ k, a = frameRecord (shotSheet r) k) s (dropShotFrames r s) := by
  refine foldl_keeps (I := fun v => Writes (fun a => a = sheetBase (shotSheet r) + 0x0A ∨ ∃ k, a = frameRecord (shotSheet r) k) s v)
    (fun v f _ kept => ?_) (.refl s)
  exact kept.andThen ((writes_dropReserved (shotSheet r) f.frame v).mono fun a ha => ha.imp_right fun e => ⟨f.frame, e⟩)

/-- The bytes of dropped frames lie on the sheets. -/
theorem off_dropBytes {a : Nat} (ha : a < 0x4000 ∨ 0x5000 ≤ a) : ¬ (a = sheetBase sh + 0x0A ∨ ∃ k, a = frameRecord sh k) := by
  have hi := sheetIndex_lt sh
  have hs := sheetBase_eq sh
  rintro (c | ⟨k, c⟩)
  · omega
  · have := frameRecord_eq sh k
    omega

/-- With no frame of the set RESERVED nothing is dropped. -/
theorem dropShotFrames_none (h : ∀ g ∈ r.frames, frameCode s (shotSheet r) g.frame ≠ 1) : dropShotFrames r s = s := by
  unfold dropShotFrames
  refine foldl_fixed fun g hg => if_neg ?_
  rw [isReserved_iff]
  exact fun c => h g hg (of_decide_eq_true c)

/-! ### The outcome -/

/-- The shot's missing pairs are released, its outcome has a code, and shots done counts it or not. -/
def shotCloses (r : ShotRecord) (c : ShotCode) (counts : Bool) (s : State) : State :=
  if counts then raiseShotsDone r.slot (setShotCode r.slot r.shot c (releaseMissing r s))
  else setShotCode r.slot r.shot c (releaseMissing r s)

/-- The bytes that the end of a shot writes when its order's account is i. -/
abbrev ShotClosesBytes (n : Slot) (shot i a : Nat) : Prop :=
  ReleaseBytes n i a ∨ a = shotOutcome n shot ∨ within (outcome n + 4) 2 a

/-- What the end of a shot leaves. -/
structure ShotClosed (r : ShotRecord) (code x : Nat) (counts : Bool) (s t : State) : Prop where
  code : shotCode t r.slot r.shot = code
  done : wordAt s (outcome r.slot + 4) < 65535 →
    wordAt t (outcome r.slot + 4) = wordAt s (outcome r.slot + 4) + if counts then 1 else 0
  pays : Pays r.slot 0 s t
  left : remaining t r.slot = remaining s r.slot - x
  bytes : Writes (ShotClosesBytes r.slot r.shot (accountIndex s r.slot)) s t
  only : t = { s with mem := t.mem }
  memory : MemoryOk t

theorem shotClosed (hm : MemoryOk s) : ShotClosed r c.code (missingPairs r * positionPrice s r.slot) counts s (shotCloses r c counts s) := by
  have hn := r.slot.isLt
  have hs := slotBase_eq r.slot
  have ho := outcome_eq r.slot
  have hio := shotOutcome_eq r.slot r.shot
  have hb := accountBase_eq (accountIndex s r.slot)
  have hsize : Config.memorySize = 0x8000 := rfl
  have hc := ShotCode.code_lt c
  have freed := pays_release hm r.slot (missingPairs r * positionPrice s r.slot)
  have left := remaining_release hm r.slot (missingPairs r * positionPrice s r.slot)
  have lowered := writes_release r.slot (missingPairs r * positionPrice s r.slot) s
  have only : releaseMissing r s = { s with mem := (releaseMissing r s).mem } := release_only_mem ..
  have m1 : MemoryOk (releaseMissing r s) := memoryOk_release hm
  have entry : shotCloses r c counts s = if counts then raiseShotsDone r.slot (setShotCode r.slot r.shot c (releaseMissing r s))
      else setShotCode r.slot r.shot c (releaseMissing r s) := rfl
  rw [entry]
  change Pays r.slot 0 s (releaseMissing r s) at freed
  change remaining (releaseMissing r s) r.slot = _ at left
  change Writes _ s (releaseMissing r s) at lowered
  generalize releaseMissing r s = v at *
  have coded : Writes (fun a => a = shotOutcome r.slot r.shot) v (setShotCode r.slot r.shot c v) :=
    (Keeps.refl v).setByte (apart_others fun b _ _ => by omega)
  have code : shotCode (setShotCode r.slot r.shot c v) r.slot r.shot = c.code :=
    (byteAt_setByte_same (a := shotOutcome r.slot r.shot) m1 (by omega)).trans (Nat.mod_eq_of_lt hc)
  have m2 : MemoryOk (setShotCode r.slot r.shot c v) := memoryOk_setByte m1
  have done : wordAt (setShotCode r.slot r.shot c v) (outcome r.slot + 4) = wordAt s (outcome r.slot + 4) :=
    (coded.wordAt (by omega) (by omega)).trans (lowered.wordAt (by omega) (by omega))
  have only2 : setShotCode r.slot r.shot c v = { s with mem := (setShotCode r.slot r.shot c v).mem } :=
    only_mem_trans only (setByte_only_mem ..)
  generalize setShotCode r.slot r.shot c v = w at *
  cases counts with
  | false =>
    exact ⟨code, fun _ => done, freed.andKept fun a ha => coded a (by omega),
      (coded.longAt (by omega) (by omega) (by omega) : remaining w r.slot = _).trans left,
      (lowered.mono fun a ha => .inl ha).andThen (coded.mono fun a ha => .inr (.inl ha)), only2, m2⟩
  | true =>
    have raised : Writes (within (outcome r.slot + 4) 2) w (raiseShotsDone r.slot w) :=
      (Keeps.refl w).setWord (apart_others fun b _ _ => by omega)
    refine ⟨(raised.byteAt (by omega)).trans code, fun room => ?_,
      (freed.andKept fun a ha => coded a (by omega)).andKept fun a ha => raised a (by omega), ?_,
      ((lowered.mono fun a ha => .inl ha).andThen (coded.mono fun a ha => .inr (.inl ha))).andThen
        (raised.mono fun a ha => .inr (.inr ha)), only_mem_trans only2 (setWord_only_mem ..), memoryOk_setWord m2⟩
    · refine (wordAt_setWord_same m2 (by omega)).trans ?_
      rw [done]
      exact Nat.mod_eq_of_lt (by omega)
    · exact ((raised.longAt (by omega) (by omega) (by omega)).trans (coded.longAt (by omega) (by omega) (by omega)) :
        remaining (raiseShotsDone r.slot w) r.slot = remaining v r.slot).trans left

end Sys2Proof.Proofs
end

section
/-! SUPPORT. The withdrawal of a slot's order at its mark (R38 to R40). -/

namespace Sys2Proof.Proofs

open Sys2Proof Sys2Proof.Machine Sys2Proof.Safety Sys2Proof.Laws Sys2Proof.Claims

variable {s t u v w : State} {n m : Slot} {sh x : Sheet} {k j : Nat} {r : ShotRecord} {e : OrderEntry}

/-! ### The shot at the gate (R39 step 1) -/

/-- The shot at the gate with its frames dropped and its outcome written, before the gate is cleared. -/
def shotStopped (r : ShotRecord) (s : State) : State :=
  shotCloses r (if r.tally = [] then .withdrawn else .partialDone) (decide (r.tally ≠ [])) (dropShotFrames r s)

theorem stopShot_eq (r : ShotRecord) (s : State) : stopShot r s = clearGate (shotStopped r s) := by
  unfold stopShot shotStopped shotCloses
  by_cases h : r.tally = [] <;> simp [h]

/-- What the end of the shot at the gate leaves to the withdrawal of its order. -/
theorem stillOwes_stopShot (hm : MemoryOk s) (hshot : r.shot < 24) : StillOwes r.slot s (stopShot r s) := by
  have calm : FrameCalm s (dropShotFrames r s) := (FrameCalm.refl hm).dropShotFrames
  have dropped := writes_dropShotFrames r s
  have only := dropShotFrames_only_mem r s
  have closed := shotClosed (r := r) (c := if r.tally = [] then .withdrawn else .partialDone) (counts := decide (r.tally ≠ []))
    calm.memory
  rw [stopShot_eq]
  unfold shotStopped
  have hn := r.slot.isLt
  have hs := slotBase_eq r.slot
  have ho := outcome_eq r.slot
  have hio := shotOutcome_eq r.slot r.shot
  have hb := accountBase_eq (accountIndex s r.slot)
  have hi := sheetIndex_lt (shotSheet r)
  have hsb := sheetBase_eq (shotSheet r)
  generalize dropShotFrames r s = v at *
  have off {a : Nat} (ha : a < 0x4000 ∨ 0x5000 ≤ a) := off_dropBytes (sh := shotSheet r) ha
  have first : Pays r.slot 0 s v := .kept fun a ha => dropped a (off (by omega))
  have bytes := closed.bytes
  rw [first.account] at bytes
  generalize shotCloses r _ _ v = w at *
  have frames : Keeps FrameByte v w := fun a ha => bytes a fun c => by
    have := frameByte_bounds ha
    omega
  have whole := only_mem_trans only closed.only
  refine ⟨fun x j => (labelCode_kept frames x j).trans (calm.labels x j), ?_, (first.trans closed.pays).andKept ((Keeps.refl w).same rfl),
    ?_, ?_, ?_, closed.memory⟩
  · refine (dropped.mono fun a ha => ?_).andThen (bytes.mono fun a ha => ?_)
    · rcases ha with ha | ⟨k, ha⟩
      · exact .inr (.inl ⟨shotSheet r, by omega⟩)
      · exact .inl ⟨_, k, ha⟩
    · rcases ha with ha | ha | ha
      · exact .inr (.inr (.inl ha))
      · exact .inr (.inr (.inr (.inl ⟨r.shot, hshot, ha⟩)))
      · exact .inr (.inr (.inr (.inr ha)))
  · rw [whole]
    rfl
  · rw [whole]
    rfl
  · rw [whole]
    rfl

/-- What the end of the shot at the gate shows. -/
structure ShotStops (r : ShotRecord) (s u : State) : Prop where
  code : shotCode u r.slot r.shot = if r.tally = [] then 5 else 2
  done : wordAt s (outcome r.slot + 4) < 65535 →
    wordAt u (outcome r.slot + 4) = wordAt s (outcome r.slot + 4) + if r.tally = [] then 0 else 1
  frames : ∀ g ∈ r.frames, frameCode s (shotSheet r) g.frame = 1 → frameCode u (shotSheet r) g.frame = 4
  codes : ∀ i, i < 24 → i ≠ r.shot → shotCode u r.slot i = shotCode s r.slot i
  count : shotCount u r.slot = shotCount s r.slot
  only : u = { s with
    mem := u.mem
    gate := Gate.reset
    exposure := { s.exposure with holder := none }
    orders := { s.orders with choice := none } }

theorem shotStops (hm : MemoryOk s) (hshot : r.shot < 24) : ShotStops r s (stopShot r s) := by
  have calm : FrameCalm s (dropShotFrames r s) := (FrameCalm.refl hm).dropShotFrames
  have dropped := writes_dropShotFrames r s
  have only := dropShotFrames_only_mem r s
  have unused (g : SetFrame) (hg : g ∈ r.frames) (h1 : frameCode s (shotSheet r) g.frame = 1) := frameCode_dropShotFrames hm hg h1
  have closed := shotClosed (r := r) (c := if r.tally = [] then .withdrawn else .partialDone) (counts := decide (r.tally ≠ []))
    calm.memory
  rw [stopShot_eq]
  unfold shotStopped
  have hn := r.slot.isLt
  have hs := slotBase_eq r.slot
  have ho := outcome_eq r.slot
  have hio := shotOutcome_eq r.slot r.shot
  have hb (i : Nat) := accountBase_eq i
  have hi := sheetIndex_lt (shotSheet r)
  have hsb := sheetBase_eq (shotSheet r)
  generalize dropShotFrames r s = v at *
  have off {a : Nat} (ha : a < 0x4000 ∨ 0x5000 ≤ a) := off_dropBytes (sh := shotSheet r) ha
  have bytes := closed.bytes
  generalize shotCloses r _ _ v = w at *
  have frames : Keeps FrameByte v w := fun a ha => bytes a fun c => by
    have := hb (accountIndex v r.slot)
    have := frameByte_bounds ha
    omega
  have whole := only_mem_trans only closed.only
  have hbv := hb (accountIndex v r.slot)
  refine ⟨?_, fun room => ?_, fun g hg h1 => (frameCode_kept frames _ _).trans (unused g hg h1), fun i hi hne => ?_, ?_, ?_⟩
  · refine closed.code.trans ?_
    split <;> rfl
  · have before : wordAt v (outcome r.slot + 4) = wordAt s (outcome r.slot + 4) :=
      dropped.wordAt (off (by omega)) (off (by omega))
    have after := closed.done (by omega)
    rw [before] at after
    refine after.trans ?_
    by_cases h : r.tally = [] <;> simp [h]
  · have hio' := shotOutcome_eq r.slot i
    exact (bytes.byteAt (by omega)).trans (dropped.byteAt (off (by omega)))
  · exact (bytes.wordAt (by omega) (by omega)).trans (dropped.wordAt (off (by omega)) (off (by omega)))
  · rw [whole]
    rfl

/-! ### The mark of a taken slot (R38, R40) -/

/-- The state in which a withdrawal is accepted: the mark is taken, and WITHDRAW is recorded. -/
def withdrawalAccepted (n : Slot) (s : State) : State := recordHand n .withdraw (slotMarkTaken n s)

theorem exec_withdrawal (h : WithdrawalDue s n e) :
    exec .slotMarkTake s = .next (requestWithdrawal n (withdrawalAccepted n s)) := by
  obtain ⟨due, taken, found, -⟩ := h
  have rule : slotHandRule n (slotMarkTaken n s) = requestWithdrawal n (withdrawalAccepted n s) := by
    have hr : recordedHand (slotMarkTaken n s) n = .taken := taken
    have hf : handFound (slotMarkTaken n s) n = 4 := found
    unfold slotHandRule withdrawalAccepted
    dsimp only
    rw [hr, hf]
    rfl
  rw [exec_slotMarkTake due, rule]

theorem requestWithdrawal_waits (he : findOrder s n = some e)
    (h : e.kind = .copy ∧ e.sub = .atGate ∧ s.gate.phase.boundary = false ∨ e.kind ≠ .copy ∧ e.started = true) :
    requestWithdrawal n s = s := by
  unfold requestWithdrawal
  rw [he]
  dsimp only
  rcases h with ⟨kind, sub, phase⟩ | ⟨kind, started⟩
  · rw [if_pos kind, if_pos sub, if_neg (by rw [phase]; decide)]
  · rw [if_neg kind, if_pos started]

theorem requestWithdrawal_endsTask (he : findOrder s n = some e) (kind : e.kind ≠ .copy) (started : e.started = false) :
    requestWithdrawal n s = finishOrder n .withdrawn s := by
  unfold requestWithdrawal
  rw [he]
  dsimp only
  rw [if_neg kind, if_neg (by rw [started]; decide)]

theorem requestWithdrawal_waiting (he : findOrder s n = some e) (kind : e.kind = .copy) (sub : e.sub ≠ .atGate) :
    requestWithdrawal n s = withdrawOrder n s := by
  unfold requestWithdrawal
  rw [he]
  dsimp only
  rw [if_pos kind, if_neg sub]

theorem requestWithdrawal_atGate (he : findOrder s r.slot = some e) (kind : e.kind = .copy) (sub : e.sub = .atGate)
    (phase : s.gate.phase.boundary = true) (shot : s.gate.shot = some r) (copies : r.calibrate = false)
    (hand : recordedHand s r.slot = .withdraw) : requestWithdrawal r.slot s = withdrawOrder r.slot (stopShot r s) := by
  unfold requestWithdrawal withdrawAtGate
  rw [he]
  dsimp only
  rw [if_pos kind, if_pos sub, if_pos phase, shot]
  dsimp only
  rw [if_pos ⟨copies, hand⟩]

theorem StillOwes.before (h : StillOwes n v u) (hm : v.mem = s.mem) (hl : v.labels = s.labels)
    (hr : v.orders.runList = s.orders.runList) (hc : v.control = s.control) : StillOwes n s u := by
  have same : Keeps (fun _ => True) s v := .same (.refl s) hm
  have account : accountIndex v n = accountIndex s n := same.byteAt trivial
  have bytes := h.bytes
  rw [account] at bytes
  exact ⟨fun x j => (h.codes x j).trans (labelCode_kept (fun a _ => same a trivial) x j),
    Keeps.trans (fun a _ => same a trivial) bytes, (Pays.kept fun a _ => same a trivial).trans h.pays, h.labels.trans hl, h.runList.trans hr,
    h.control.trans hc, h.memory⟩

end Sys2Proof.Proofs
end

section
/-! SUPPORT. An accepted withdrawal waits, ends a task, or withdraws its COPY order (R38 to R40). -/

namespace Sys2Proof.Proofs

open Sys2Proof Sys2Proof.Machine Sys2Proof.Safety Sys2Proof.Laws Sys2Proof.Claims

variable {s t u v w : State} {n m : Slot} {r : ShotRecord} {e : OrderEntry}

theorem others_withdrawalAccepted : KeepsOtherHands n s (withdrawalAccepted n s) := fun _ hm =>
  recordedHand_other .withdraw (slotMarkTaken n s) hm

/-- With a shot's own code apart, the PENDING shots are WITHDRAWN. -/
theorem pendingWithdrawn_of {p : Option Nat} (h : ∀ i, i < 24 → shotCode t n i
      = if i < shotCount u n ∧ shotCode u n i = 0 then 5 else shotCode u n i)
    (codes : ∀ i, i < 24 → p ≠ some i → shotCode u n i = shotCode s n i) (count : shotCount u n = shotCount s n) :
    PendingWithdrawn s t n p := fun i hi hp => by
  rw [h i hi, codes i hi hp, count]

/-- A stand task that has not started ends at its withdrawal (R40). -/
theorem taskWithdrawn (hm : MemoryOk s) : recordedHand (finishOrder n .withdrawn s) n = .done
    ∧ FinishReads n 3 (finishOrder n .withdrawn s)
    ∧ (∀ m : Slot, m ≠ n → recordedHand (finishOrder n .withdrawn s) m = recordedHand s m)
    ∧ Keeps (fun a => ¬ (within (slotBase n) 2 a ∨ within (outcome n) 2 a ∨ within 0x5D10 2 a)) s (finishOrder n .withdrawn s) := by
  have reads := finishReads (n := n) .withdrawn hm
  refine ⟨reads.recorded, reads, fun m hne => ?_, writes_finishOrder n .withdrawn s⟩
  have same : recordedHand (finishOrder n .withdrawn s) m = recordedHand (recordHand n .done s) m := by
    unfold recordedHand
    rw [finishOrder_orders]
    rfl
  exact same.trans (recordedHand_other .done s hne)

/-- A COPY order away from the gate is withdrawn at once. -/
theorem waitingOrder_withdrawn (hm : MemoryOk s) (due : WithdrawalDue s n e) (ha : accountIndex s n ≤ 63) (named : EntriesNamed s n) :
    OrderWithdrawn n e s (withdrawalAccepted n s) (withdrawOrder n (withdrawalAccepted n s)) := by
  obtain ⟨-, -, -, he⟩ := due
  have owes : StillOwes n s (withdrawalAccepted n s) :=
    StillOwes.before (v := withdrawalAccepted n s) (.refl hm) rfl rfl rfl rfl
  exact orderWithdrawn owes he ha (recordedHand_same ..) named

/-- A COPY order whose shot stands at a frame boundary is withdrawn at once. -/
theorem orderAtGate_withdrawn (hm : MemoryOk s) (he : findOrder s r.slot = some e) (hshot : r.shot < 24) (ha : accountIndex s r.slot ≤ 63)
    (named : EntriesNamed s r.slot) :
    OrderWithdrawn r.slot e s (stopShot r (withdrawalAccepted r.slot s))
      (withdrawOrder r.slot (stopShot r (withdrawalAccepted r.slot s))) := by
  have owes : StillOwes r.slot s (stopShot r (withdrawalAccepted r.slot s)) :=
    (stillOwes_stopShot (s := withdrawalAccepted r.slot s) hm hshot).before rfl rfl rfl rfl
  refine orderWithdrawn owes he ha ?_ named
  have stops := shotStops (s := withdrawalAccepted r.slot s) hm hshot
  have hand : recordedHand (stopShot r (withdrawalAccepted r.slot s)) r.slot = recordedHand (withdrawalAccepted r.slot s) r.slot := by
    unfold recordedHand
    rw [stops.only]
  exact hand.trans (recordedHand_same ..)

/-- The bytes of a withdrawal, as the statements name them. -/
theorem withdrawBytes_named {i a : Nat} (h : WithdrawBytes n i a) : within (slotBase n) 2 a ∨ within (outcome n) 0x200 a
    ∨ within (accountBase i + 0x14) 4 a ∨ (∃ (sh : Sheet) (k : Nat), 1 ≤ k ∧ k ≤ 40 ∧ a = frameRecord sh k)
    ∨ within 0x5D0A 2 a ∨ within 0x5D10 2 a := by
  have ho := outcome_eq n
  rcases h with ((⟨x, j, ha⟩ | ha) | ⟨j, hj, ha⟩) | ha
  · obtain ⟨k, h1, h40, wrap⟩ := frameRecord_wrap x j
    exact .inr (.inr (.inr (.inl ⟨x, k, h1, h40, ha.trans wrap⟩)))
  · omega
  · have := shotOutcome_eq n j
    omega
  · omega

/-- Settles O14: the order's kind, its place and the phase of the gate decide what the withdrawal does. -/
theorem withdrawalWaitsOrEndsTheTask : Obligations.WithdrawalWaitsOrEndsTheTask := by
  unfold Obligations.WithdrawalWaitsOrEndsTheTask
  intro s n e hm due
  have step := exec_withdrawal due
  have he : findOrder (withdrawalAccepted n s) n = some e := due.2.2.2
  have others := others_withdrawalAccepted (n := n) (s := s)
  refine ⟨fun h => ?_, fun ⟨kind, started⟩ => ?_, fun kind sub ha named => ?_, ?_⟩
  · rw [requestWithdrawal_waits he h] at step
    exact ⟨_, step, recordedHand_same .., others, rfl, rfl, rfl⟩
  · rw [requestWithdrawal_endsTask he kind started] at step
    refine ⟨_, step, ?_⟩
    obtain ⟨hand, reads, hands, bytes⟩ := taskWithdrawn (s := withdrawalAccepted n s) (n := n) hm
    have control := finishOrder_control n .withdrawn (withdrawalAccepted n s)
    have only := finishOrder_only n .withdrawn (withdrawalAccepted n s)
    have orders := finishOrder_orders n .withdrawn (withdrawalAccepted n s)
    generalize finishOrder n .withdrawn (withdrawalAccepted n s) = t at *
    refine ⟨hand, reads.found, reads.state, reads.sub, fun m hne => (hands m hne).trans (others m hne), ?_, ?_,
      raisesOnly_of_control control, Keeps.trans ((Keeps.refl s).same rfl) bytes, ?_⟩
    · rw [orders]
      rfl
    · rw [orders]
      rfl
    · rw [only]
      rfl
  · rw [requestWithdrawal_waiting he kind sub] at step
    refine ⟨_, step, ?_⟩
    have gone := waitingOrder_withdrawn hm due ha named
    generalize withdrawOrder n (withdrawalAccepted n s) = t at *
    have only := gone.only
    refine ⟨pendingWithdrawn_of gone.pending (fun _ _ _ => rfl) rfl, gone.labels, gone.ends,
      fun m hne => (gone.others m hne).trans (others m hne), gone.intake, ?_, fun free => ?_, ?_, ?_⟩
    · rw [only]
      rfl
    · exact Keeps.trans ((Keeps.refl s).same rfl) (Writes.mono (gone.unpaid free) fun a ha => withdrawBytes_named ha)
    · refine Keeps.trans ((Keeps.refl s).same rfl) (Writes.mono gone.bytes fun a ha => ?_)
      have ho := outcome_eq n
      rcases ha with ha | ha
      · rcases withdrawBytes_named ha with ha | ha | ha | ha | ha
        · exact .inl ha
        · exact .inr (.inl ha)
        · exact .inr (.inr (.inr (.inl (by omega))))
        · exact .inr (.inr (.inr (.inr (.inl ha))))
        · exact .inr (.inr (.inr (.inr (.inr ha))))
      · omega
    · rw [only]
      rfl
  · intro r kind sub phase shot slot copies hshot _ ha _ named room
    subst slot
    have hand : recordedHand (withdrawalAccepted r.slot s) r.slot = .withdraw := recordedHand_same ..
    rw [requestWithdrawal_atGate he kind sub phase shot copies hand] at step
    refine ⟨_, step, ?_⟩
    have gone := orderAtGate_withdrawn hm due.2.2.2 hshot ha named
    have stops := shotStops (s := withdrawalAccepted r.slot s) hm hshot
    generalize stopShot r (withdrawalAccepted r.slot s) = u at *
    generalize withdrawOrder r.slot u = t at *
    have only := gone.only
    have stopped := stops.only
    have hn := r.slot.isLt
    have ho := outcome_eq r.slot
    have gate : t.gate = Gate.reset := by rw [only, stopped]
    refine ⟨by rw [gate]; rfl, by rw [gate]; rfl, by rw [gate]; rfl, ?_, ?_, ?_, ?_, fun g hg h1 => ?_,
      pendingWithdrawn_of gone.pending (fun i hi hp => stops.codes i hi fun c => hp (by rw [c])) stops.count, gone.labels, gone.ends,
      fun m hne => ?_, ?_, ?_⟩
    · rw [gone.choice, stopped]
    · rw [only, stopped]
    · rw [gone.pending _ hshot, stops.code]
      split <;> simp
    · have hb := accountBase_eq (accountIndex s r.slot)
      have hs := slotBase_eq r.slot
      have same : wordAt t (outcome r.slot + 4) = wordAt u (outcome r.slot + 4) := by
        have off {a : Nat} (h : within (outcome r.slot + 4) 2 a) :
            ¬ (WithdrawBytes r.slot (accountIndex s r.slot) a ∨ ChargeBytes r.slot (accountIndex s r.slot) a) := fun c => by
          rcases c with (c | c) | c
          · exact off_labelsOffBytes (n := r.slot) (i := accountIndex s r.slot) (by omega) (by omega) c
          · omega
          · omega
        exact gone.bytes.wordAt (off (by omega)) (off (by omega))
      exact same.trans (stops.done room)
    · exact (gone.frames _ _).trans (stops.frames g hg h1)
    · have kept : recordedHand u m = recordedHand (withdrawalAccepted r.slot s) m := by
        unfold recordedHand
        rw [stopped]
      exact (gone.others m hne).trans (kept.trans (others m hne))
    · rw [gone.intake, stopped]
      rfl
    · rw [only, stopped]
      rfl

end Sys2Proof.Proofs
end

section
/-! SUPPORT. A back winds on from its used frame, or ends its roll (R82, R85). -/

namespace Sys2Proof.Proofs

open Sys2Proof Sys2Proof.Machine Sys2Proof.Safety Sys2Proof.Laws Sys2Proof.Claims

variable {s t u : State} {bk : Back} {w : Which} {k : Nat} {y z : BackUnit}

/-- What the wind-on from a used gate frame leaves of a back: WINDING, or at the capacity ROLL_END or the automatic rewind. -/
structure UnitWound (ends rewinds : Prop) [Decidable ends] [Decidable rewinds] (y z : BackUnit) : Prop where
  state : z.state = if ends then (if rewinds then .rewinding else .rollEnd) else .winding
  origin : z.origin = if ends ∧ rewinds then .auto else .none
  gateFrame : z.gateFrame = y.gateFrame
  live : z.live = y.live
  readyAt : z.readyAt = y.readyAt
  shutter : z.shutter = y.shutter

/-- What a wind-on leaves of the state. -/
structure Winds (bk : Back) (w : Which) (y : BackUnit) (s t : State) : Prop where
  unit : ∃ z, UnitBecomes bk z s t ∧ UnitWound (y.gateFrame = capacity s ⟨bk, w⟩) (autoRewind s = true) y z
  bytes : Writes (fun a => a = 0x5D00 + backOffset bk) s t
  memory : MemoryOk t

theorem autoRewind_kept (h : Keeps (within 0x5C0A 2) s t) : autoRewind t = autoRewind s := by
  unfold autoRewind setting
  have same : wordAt t (Config.settings + 0x0A) = wordAt s (Config.settings + 0x0A) := h.word
  rw [same]

theorem winds (hm : MemoryOk s) (hl : (s.back bk).live = some w) : Winds bk w (s.back bk) s (windOn bk s) := by
  have start := UnitBecomes.refl bk s
  have sheet : liveSheet s bk = some ⟨bk, w⟩ := by
    unfold liveSheet
    rw [hl]
    rfl
  have path : windOn bk s = if (s.back bk).gateFrame = capacity s ⟨bk, w⟩ then enterRollEnd bk s
      else callMotor bk .forward (enterBack bk .winding s) := by
    unfold windOn
    rw [sheet]
  rw [path]
  by_cases ends : (s.back bk).gateFrame = capacity s ⟨bk, w⟩
  · rw [if_pos ends]
    refine ⟨?_, writes_enterRollEnd bk s, memoryOk_enterRollEnd hm⟩
    have entered := start.enterBack (st := .rollEnd)
    have rewinds : autoRewind (enterBack bk .rollEnd s) = autoRewind s := by
      have hb := backOffset_bounds bk
      exact autoRewind_kept fun a ha => writes_enterBack bk .rollEnd s a (by omega)
    have split : enterRollEnd bk s = if autoRewind s then beginRewind bk .auto (enterBack bk .rollEnd s) else enterBack bk .rollEnd s := by
      rw [← rewinds]
      rfl
    rw [split]
    by_cases auto : autoRewind s = true
    · obtain ⟨m, began⟩ := entered.beginRewind (o := .auto)
      rw [if_pos auto]
      exact ⟨_, began, by rw [if_pos ends, if_pos auto], (if_pos ⟨ends, auto⟩).symm, rfl, rfl, rfl, rfl⟩
    · rw [if_neg auto]
      exact ⟨_, entered, by rw [if_pos ends, if_neg auto], (if_neg fun c => auto c.2).symm, rfl, rfl, rfl, rfl⟩
  · rw [if_neg ends]
    obtain ⟨m, wound⟩ := (start.enterBack (st := .winding)).callMotor (d := .forward)
    refine ⟨⟨_, wound, by rw [if_neg ends], (if_neg fun c => ends c.1).symm, rfl, rfl, rfl, rfl⟩, ?_, ?_⟩
    · exact Keeps.same (writes_enterBack bk .winding s) (callMotor_mem ..)
    · rw [MemoryOk, callMotor_mem]
      exact memoryOk_enterBack hm

end Sys2Proof.Proofs
end

section
/-! SUPPORT. The end of a shot whose frames are all recorded, and how its order goes on (R41, R42, R65). -/

namespace Sys2Proof.Proofs

open Sys2Proof Sys2Proof.Machine Sys2Proof.Safety Sys2Proof.Laws Sys2Proof.Claims

variable {s t u v w : State} {n m : Slot} {k j x : Nat} {r : ShotRecord} {e : OrderEntry} {sub : SubState}

/-- The code of a shot whose frames are all recorded (R65 step 3). -/
def endCode (r : ShotRecord) : ShotCode := if missingPairs r = 0 then .complete else .partialDone

theorem endCode_code (r : ShotRecord) : (endCode r).code = if r.planned ≤ r.tally.length then 1 else 2 := by
  unfold endCode missingPairs
  by_cases h : r.planned ≤ r.tally.length
  · rw [if_pos h, if_pos (Nat.sub_eq_zero_of_le h)]
    rfl
  · rw [if_neg h, if_neg (by omega)]
    rfl

/-- The shot's outcome is written and the gate cleared. -/
def shotEnded (r : ShotRecord) (s : State) : State := clearGate (shotCloses r (endCode r) true s)

theorem recordedHand_shotEnded (hm : MemoryOk s) : recordedHand (shotEnded r s) m = recordedHand s m := by
  have only := (shotClosed (r := r) (c := endCode r) (counts := true) hm).only
  unfold shotEnded
  rw [recordedHand_clearGate]
  unfold recordedHand
  rw [only]

theorem endShot_eq (hm : MemoryOk s) (hr : s.gate.shot = some r) (none : ∀ g ∈ r.frames, frameCode s (shotSheet r) g.frame ≠ 1)
    (hand : recordedHand s r.slot = .taken) :
    endShot false s = reachBoundary (afterShot r.slot (shotEnded r s)) := by
  have goes : orderGoesOn r.slot (shotEnded r s) = afterShot r.slot (shotEnded r s) :=
    if_neg (by rw [recordedHand_shotEnded hm, hand]; decide)
  rw [← goes]
  unfold endShot
  rw [hr]
  dsimp only
  rw [dropShotFrames_none none]
  unfold shotEnded shotCloses endCode
  simp only [and_true, if_true]

/-- The bytes that the end of a shot writes, and its order when it goes on. -/
abbrev ShotEndBytes (n : Slot) (shot i a : Nat) : Prop := ShotClosesBytes n shot i a ∨ GoesOnBytes n a

/-- What the end of a shot leaves before its order goes on, and what an order that goes on keeps of it. -/
structure ShotDone (r : ShotRecord) (s t : State) : Prop where
  code : shotCode t r.slot r.shot = if r.planned ≤ r.tally.length then 1 else 2
  done : wordAt s (outcome r.slot + 4) < 65535 → wordAt t (outcome r.slot + 4) = wordAt s (outcome r.slot + 4) + 1
  pays : Pays r.slot 0 s t
  left : remaining t r.slot = remaining s r.slot - missingPairs r * positionPrice s r.slot
  bytes : Writes (ShotEndBytes r.slot r.shot (accountIndex s r.slot)) s t
  gate : t.gate = Gate.reset
  exposure : t.exposure = { s.exposure with holder := none }
  orders : t.orders = { s.orders with choice := none, runList := t.orders.runList }
  only : t = { s with mem := t.mem, gate := t.gate, exposure := t.exposure, orders := t.orders }
  memory : MemoryOk t

theorem shotDone_ended (hm : MemoryOk s) : ShotDone r s (shotEnded r s) := by
  have closed := shotClosed (r := r) (c := endCode r) (counts := true) hm
  have cleared : shotEnded r s = clearGate (shotCloses r (endCode r) true s) := rfl
  rw [cleared]
  generalize shotCloses r (endCode r) true s = v at *
  have only := closed.only
  exact ⟨closed.code.trans (endCode_code r), closed.done, closed.pays.andKept ((Keeps.refl v).same rfl), closed.left,
    Keeps.same (Writes.mono closed.bytes fun a ha => .inl ha) rfl, rfl, by rw [only]; rfl, by rw [only]; rfl, by rw [only]; rfl, closed.memory⟩

theorem shotEnded_runList (hm : MemoryOk s) : (shotEnded r s).orders.runList = s.orders.runList := by
  have only := (shotClosed (r := r) (c := endCode r) (counts := true) hm).only
  have cleared : shotEnded r s = clearGate (shotCloses r (endCode r) true s) := rfl
  rw [cleared]
  generalize shotCloses r (endCode r) true s = v at *
  rw [only]
  rfl

/-- The PENDING shots but the one that has ended. -/
theorem shotDone_codes (h : ShotDone r s t) (hj : j < 24) (hs : r.shot < 24) (hne : j ≠ r.shot) : shotCode t r.slot j = shotCode s r.slot j := by
  have hn := r.slot.isLt
  have ho := outcome_eq r.slot
  have hb := accountBase_eq (accountIndex s r.slot)
  have hi := shotOutcome_eq r.slot r.shot
  have hj' := shotOutcome_eq r.slot j
  exact h.bytes.byteAt (by omega)

theorem shotDone_count (h : ShotDone r s t) : shotCount t r.slot = shotCount s r.slot := by
  have hn := r.slot.isLt
  have hs := slotBase_eq r.slot
  have ho := outcome_eq r.slot
  have hb := accountBase_eq (accountIndex s r.slot)
  have hi := shotOutcome_eq r.slot r.shot
  exact h.bytes.wordAt (by omega) (by omega)

theorem nextShot_ended (hm : MemoryOk s) (hs : r.shot < 24) : (nextShot (shotEnded r s) r.slot).isSome = true ↔ AnotherShotPends s r := by
  have h := shotDone_ended (r := r) hm
  rw [nextShot_isSome]
  unfold AnotherShotPends
  rw [shotDone_count h]
  constructor
  · rintro ⟨i, hi, hc, h0⟩
    by_cases hne : i = r.shot
    · have code := h.code
      rw [← hne, h0] at code
      split at code <;> cases code
    · exact ⟨i, hc, hi, hne, (shotDone_codes h hi hs hne).symm.trans h0⟩
  · rintro ⟨i, hc, hi, hne, h0⟩
    exact ⟨i, hi, hc, (shotDone_codes h hi hs hne).trans h0⟩

/-- The order goes on in a sub-state, and the gate is idle at its boundary. -/
theorem shotDone_goesOn (hm : MemoryOk s) (ha : accountIndex s r.slot ≤ 63) (stand : s.control.stand = .running) :
    reachBoundary (refreshWanted (setSub r.slot sub (shotEnded r s))) = refreshWanted (setSub r.slot sub (shotEnded r s))
      ∧ ShotDone r s (refreshWanted (setSub r.slot sub (shotEnded r s)))
      ∧ byteAt (refreshWanted (setSub r.slot sub (shotEnded r s))) (outcome r.slot + 1) = sub.code
      ∧ (refreshWanted (setSub r.slot sub (shotEnded r s))).orders.runList
          = s.orders.runList.map fun o => if o.slot = r.slot then { o with sub := sub } else o := by
  have ended := shotDone_ended (r := r) hm
  have list := shotEnded_runList (r := r) hm
  generalize shotEnded r s = v at *
  have writes := writes_goesOn r.slot sub v
  have byte := byteAt_sub_refreshed (n := r.slot) (sub := sub) ended.memory
  have orders := goesOn_orders r.slot sub v
  have inOrders := goesOn_inOrders r.slot sub v
  have labels := goesOn_labels r.slot sub v
  have control := goesOn_control r.slot sub v
  have memory : MemoryOk (refreshWanted (setSub r.slot sub v)) := memoryOk_refreshWanted (memoryOk_setSub ended.memory)
  generalize refreshWanted (setSub r.slot sub v) = t at *
  have hn := r.slot.isLt
  have hs := slotBase_eq r.slot
  have ho := outcome_eq r.slot
  have hb := accountBase_eq (accountIndex s r.slot)
  have hi := shotOutcome_eq r.slot r.shot
  have alone := inOrders.ordersAlone labels control
  have before := ended.only
  have gate : t.gate = Gate.reset := by rw [alone]; exact ended.gate
  have stand' : t.control.stand = .running := by rw [control, before]; exact stand
  have exposure : t.exposure = v.exposure := by rw [alone]
  refine ⟨reachBoundary_calm (noWithdrawal_noShot (by rw [gate]; rfl)) stand', ⟨(writes.byteAt (by omega)).trans ended.code,
    fun room => (writes.wordAt (by omega) (by omega)).trans (ended.done room), ended.pays.andKept fun a ha => writes a (by omega),
    (writes.longAt (by omega) (by omega) (by omega) : remaining t r.slot = _).trans ended.left,
    ended.bytes.andThen (writes.mono fun a ha => .inr ha), gate, exposure.trans ended.exposure, ?_, ?_, memory⟩, byte, ?_⟩
  · rw [orders, ended.orders]
  · rw [before] at alone
    rw [alone]
  · rw [orders, list]

/-- What the end of a shot leaves that completes its order, entry e. -/
structure ShotCompletes (r : ShotRecord) (e : OrderEntry) (s t : State) : Prop where
  code : shotCode t r.slot r.shot = if r.planned ≤ r.tally.length then 1 else 2
  done : wordAt s (outcome r.slot + 4) < 65535 → wordAt t (outcome r.slot + 4) = wordAt s (outcome r.slot + 4) + 1
  reads : FinishReads r.slot (if e.withdrawn = true then 3 else if allComplete t r.slot = true then 1 else 2) t
  amounts : CompletionAmounts s t r.slot e.rush 0
  flag : flagSet t .orderDone = true
  runList : t.orders.runList = s.orders.runList.filter fun o => decide (o.slot ≠ r.slot)
  bytes : Writes (fun a => ShotClosesBytes r.slot r.shot (accountIndex s r.slot) a ∨ CompleteBytes r.slot (accountIndex s r.slot) a) s t
  gate : t.gate = Gate.reset
  exposure : t.exposure = { s.exposure with holder := none }
  choice : t.orders.choice = none
  backs : t.backA = s.backA ∧ t.backB = s.backB

theorem shotCompletes (hm : MemoryOk s) (he : findOrder s r.slot = some e) (ha : accountIndex s r.slot ≤ 63)
    (stand : s.control.stand = .running) :
    reachBoundary (completeCopy r.slot (shotEnded r s)) = completeCopy r.slot (shotEnded r s)
      ∧ ShotCompletes r e s (completeCopy r.slot (shotEnded r s)) := by
  have hn := r.slot.isLt
  have hs := slotBase_eq r.slot
  have ho := outcome_eq r.slot
  have hb := accountBase_eq (accountIndex s r.slot)
  have hi := shotOutcome_eq r.slot r.shot
  have hp : Config.prices = 0x5900 := rfl
  have ended := shotDone_ended (r := r) hm
  have list := shotEnded_runList (r := r) hm
  have closed : Writes (ShotClosesBytes r.slot r.shot (accountIndex s r.slot)) s (shotEnded r s) :=
    Keeps.same (shotClosed (r := r) (c := endCode r) (counts := true) hm).bytes (by
      unfold shotEnded
      exact clearGate_mem _)
  generalize shotEnded r s = v at *
  have found : findOrder v r.slot = some e := (findOrder_of_orders list).trans he
  have account : accountIndex v r.slot = accountIndex s r.slot := ended.pays.account
  have exposed : framesExposed v r.slot = framesExposed s r.slot := closed.wordAt (by omega) (by omega)
  have price : rushSurcharge v = rushSurcharge s := price_kept fun a ha => closed a (by omega)
  have reads := completeReads ended.memory found
  have amounts := (completes_completeCopy ended.memory found (by rw [account]; exact ha)).amounts ended.pays
    (surchargeDue_kept exposed price)
  have writes := writes_completeCopy r.slot v
  rw [account] at writes
  have lists := completeCopy_runList found
  have only := completeCopy_only found
  have control := completeCopy_control found
  generalize completeCopy r.slot v = t at *
  have all : allComplete t r.slot = allComplete v r.slot := allComplete_kept (keeps_completeBytes writes)
  have slot : e.slot = r.slot := (findOrder_some found).2
  have code : completionCode e v = if e.withdrawn = true then 3 else if allComplete t r.slot = true then 1 else 2 := by
    unfold completionCode
    rw [all, slot]
  rw [code] at reads
  have gate : t.gate = Gate.reset := by rw [only]; exact ended.gate
  have stand' : t.control.stand = .running := by
    rw [control]
    show v.control.stand = .running
    rw [ended.only]
    exact stand
  refine ⟨reachBoundary_calm (noWithdrawal_noShot (by rw [gate]; rfl)) stand', (writes.byteAt (by omega)).trans ended.code,
    fun room => (writes.wordAt (by omega) (by omega)).trans (ended.done room), reads, amounts, flag_orderDone_raised control,
    by rw [lists, list], (closed.mono fun a ha => .inl ha).andThen (writes.mono fun a ha => .inr ha), gate, ?_, ?_, ?_⟩
  · rw [only]
    exact ended.exposure
  · rw [only, ended.orders]
  · rw [only, ended.only]
    exact ⟨rfl, rfl⟩

end Sys2Proof.Proofs
end

section
/-! SUPPORT. The record of an EXPOSED frame, its counts and its charge (R61, R104, R106, R175). -/

namespace Sys2Proof.Proofs

open Sys2Proof Sys2Proof.Machine Sys2Proof.Safety Sys2Proof.Laws Sys2Proof.Claims

variable {s t u v w : State} {n m : Slot} {sh y : Sheet} {j k x : Nat} {r : ShotRecord} {f : SetFrame}

/-! ### The record (R61 steps 1 to 3) -/

/-- The frame's record with the sequence number just issued. -/
def sequenced (sh : Sheet) (k : Nat) (s : State) : State :=
  setFrameSequence sh k (sequenceCounter (issueSequence s)) (issueSequence s)

/-- The record of an EXPOSED frame with its frame charge. -/
def exposedRecord (sh : Sheet) (k x : Nat) (s : State) : State := closeFrame sh k .exposed (setFrameCharge sh k x (sequenced sh k s))

/-- The bytes that it writes. -/
abbrev ExposedRecordBytes (sh : Sheet) (k a : Nat) : Prop :=
  a = frameRecord sh k ∨ within (frameRecord sh k + 8) 8 a ∨ a = sheetBase sh + 8 ∨ within 0x5D0C 4 a

/-- What the record of an EXPOSED frame leaves. -/
structure ExposedRecord (sh : Sheet) (k : Nat) (s t : State) : Prop where
  frames : ∀ y j, frameCode t y j = if frameRecord y j = frameRecord sh k then 2 else frameCode s y j
  labels : ∀ y j, labelCode t y j = labelCode s y j
  counter : sequenceCounter t = if sequenceCounter s < 16777215 then sequenceCounter s + 1 else 1
  sequence : frameSequence t sh k = sequenceCounter t
  count : exposedCount s sh < 255 → exposedCount t sh = exposedCount s sh + 1
  bytes : Writes (ExposedRecordBytes sh k) s t
  only : t = { s with mem := t.mem }
  memory : MemoryOk t

theorem nextSequence_eq (i : Nat) : nextSequence i = if i < 16777215 then i + 1 else 1 := rfl

/-- What the issue of a sequence number to a frame leaves. -/
structure Sequenced (sh : Sheet) (k : Nat) (s t : State) : Prop where
  counter : sequenceCounter t = if sequenceCounter s < 16777215 then sequenceCounter s + 1 else 1
  sequence : frameSequence t sh k = sequenceCounter t
  bytes : Writes (fun a => within (frameRecord sh k + 0x0C) 4 a ∨ within 0x5D0C 4 a) s t
  only : t = { s with mem := t.mem }
  memory : MemoryOk t

theorem sequenced_spec (hm : MemoryOk s) (sh : Sheet) (k : Nat) : Sequenced sh k s (sequenced sh k s) := by
  have hr : Config.report = 0x5D00 := rfl
  have hsize : Config.memorySize = 0x8000 := rfl
  have hf := frameRecord_eq sh k
  have hi := sheetIndex_lt sh
  have hc : sequenceCounter s < 16777216 := longAt_lt _ _
  have issued : sequenceCounter (issueSequence s) = nextSequence (sequenceCounter s) :=
    longAt_setLong_same (a := Config.report + 0x0C) hm (by omega) (by rw [nextSequence_eq]; split <;> omega)
  have m1 : MemoryOk (issueSequence s) := memoryOk_setLong hm
  have first : Writes (within 0x5D0C 4) s (issueSequence s) := (Keeps.refl s).setLong (apart_others fun b _ _ => by omega)
  have only : issueSequence s = { s with mem := (issueSequence s).mem } := setLong_only_mem ..
  unfold sequenced
  generalize issueSequence s = v at *
  have hv : sequenceCounter v < 16777216 := longAt_lt _ _
  have written : Writes (within (frameRecord sh k + 0x0C) 4) v (setFrameSequence sh k (sequenceCounter v) v) :=
    (Keeps.refl v).setLong (apart_others fun b _ _ => by omega)
  have counter : sequenceCounter (setFrameSequence sh k (sequenceCounter v) v) = sequenceCounter v :=
    written.longAt (by omega) (by omega) (by omega)
  refine ⟨counter.trans (issued.trans (nextSequence_eq _)), ?_,
    (first.mono fun a ha => .inr ha).andThen (written.mono fun a ha => .inl ha), only_mem_trans only (setLong_only_mem ..),
    memoryOk_setLong m1⟩
  exact (longAt_setLong_same (a := frameRecord sh k + 0x0C) m1 (by omega) hv).trans counter.symm

theorem exposedRecord_spec (hm : MemoryOk s) (hk : k ≤ capacity s sh) : ExposedRecord sh k s (exposedRecord sh k x s) := by
  have hr : Config.report = 0x5D00 := rfl
  have hsize : Config.memorySize = 0x8000 := rfl
  have hf := frameRecord_eq sh k
  have hi := sheetIndex_lt sh
  have hs := sheetBase_eq sh
  obtain ⟨counter, sequence, bytes, only, memory⟩ := sequenced_spec hm sh k
  unfold exposedRecord
  generalize sequenced sh k s = v at *
  have charged : Writes (within (frameRecord sh k + 8) 2) v (setFrameCharge sh k x v) :=
    (Keeps.refl v).setWord (apart_others fun b _ _ => by omega)
  have m2 : MemoryOk (setFrameCharge sh k x v) := memoryOk_setWord memory
  have only2 : setFrameCharge sh k x v = { s with mem := (setFrameCharge sh k x v).mem } := only_mem_trans only (setWord_only_mem ..)
  generalize setFrameCharge sh k x v = w at *
  have before := (bytes.mono (V := fun a => within (frameRecord sh k + 8) 8 a ∨ within 0x5D0C 4 a) fun a ha => by omega).andThen
    (charged.mono fun a ha => by omega)
  have kept : Keeps FrameByte s w := fun a ha => before a (by
    have := frameByte_bounds ha
    omega)
  have room : capacity w sh = capacity s sh := before.byteAt (by omega)
  have closes : closeFrame sh k .exposed w = raiseByte (sheetBase sh + 8) (setFrameState sh k .exposed w) := by
    have fits : k ≤ capacity (setFrameState sh k .exposed w) sh := by
      have same : capacity (setFrameState sh k .exposed w) sh = capacity w sh :=
        byteAt_setByte_other m2 (by omega)
      omega
    exact if_pos fits
  have codes (y : Sheet) (j : Nat) := frameCode_closeFrame (x := sh) (j := k) (sh := y) (k := j) m2 .exposed
  have labels (y : Sheet) (j : Nat) := labelCode_closeFrame (x := sh) (j := k) (sh := y) (k := j) m2 .exposed
  have marked : Writes (fun a => a = frameRecord sh k) w (setFrameState sh k .exposed w) :=
    (Keeps.refl w).setByte (apart_others fun b _ _ => by omega)
  have m3 : MemoryOk (setFrameState sh k .exposed w) := memoryOk_setByte m2
  have only3 : closeFrame sh k .exposed w = { s with mem := (closeFrame sh k .exposed w).mem } :=
    only_mem_trans only2 (closeFrame_only_mem ..)
  rw [closes] at codes labels only3 ⊢
  generalize setFrameState sh k .exposed w = z at *
  have counted : Writes (fun a => a = sheetBase sh + 8) z (raiseByte (sheetBase sh + 8) z) :=
    (Keeps.refl z).setByte (apart_others fun b _ _ => by omega)
  have after := (marked.mono (V := fun a => a = frameRecord sh k ∨ a = sheetBase sh + 8) fun a ha => .inl ha).andThen
    (counted.mono fun a ha => .inr ha)
  have exposed : exposedCount z sh = exposedCount s sh := (marked.byteAt (by omega)).trans (before.byteAt (by omega))
  refine ⟨fun y j => ?_, fun y j => (labels y j).trans (labelCode_kept kept y j), ?_, ?_, fun full => ?_,
    (before.mono fun a ha => by omega).andThen (after.mono fun a ha => by omega), only3, memoryOk_setByte m3⟩
  · rw [codes, frameCode_kept kept]
    rfl
  · have same : sequenceCounter (raiseByte (sheetBase sh + 8) z) = sequenceCounter v :=
      (after.longAt (by omega) (by omega) (by omega)).trans (charged.longAt (by omega) (by omega) (by omega))
    exact same.trans counter
  · have same : sequenceCounter (raiseByte (sheetBase sh + 8) z) = sequenceCounter v :=
      (after.longAt (by omega) (by omega) (by omega)).trans (charged.longAt (by omega) (by omega) (by omega))
    have number : frameSequence (raiseByte (sheetBase sh + 8) z) sh k = frameSequence v sh k :=
      (after.longAt (by omega) (by omega) (by omega)).trans (charged.longAt (by omega) (by omega) (by omega))
    rw [same, number, sequence]
  · refine (byteAt_setByte_same m3 (by omega)).trans ?_
    change byteAt z (sheetBase sh + 8) = _ at exposed
    rw [exposed]
    exact Nat.mod_eq_of_lt (by omega)

end Sys2Proof.Proofs
end

section
/-! SUPPORT. The counts and the charge of an EXPOSED frame (R61, R175, R176). -/

namespace Sys2Proof.Proofs

open Sys2Proof Sys2Proof.Machine Sys2Proof.Safety Sys2Proof.Laws Sys2Proof.Claims

variable {s t u v w : State} {n m : Slot} {sh y : Sheet} {j k x : Nat} {r : ShotRecord} {f : SetFrame}

/-- What a frame charge leaves. -/
structure FrameCharged (n : Slot) (x : Nat) (s t : State) : Prop where
  pays : Pays n x s t
  left : remaining t n = remaining s n - x
  spent : SpentCharged (accountIndex s n) x s t
  frames : accountFrames t (accountIndex s n) = min 16777215 (accountFrames s (accountIndex s n) + 1)
  bytes : Writes (fun a => ChargeBytes n (accountIndex s n) a ∨ within (accountBase (accountIndex s n) + 0x18) 4 a) s t
  only : t = { s with mem := t.mem }
  memory : MemoryOk t

theorem frameCharged (hm : MemoryOk s) (n : Slot) (x : Nat) : FrameCharged n x s (chargeFrame n x s) := by
  have hn := n.isLt
  have hs := slotBase_eq n
  have ho := outcome_eq n
  have hi := accountIndex_lt s n
  have hb := accountBase_eq (accountIndex s n)
  have hsize : Config.memorySize = 0x8000 := rfl
  have hmax : Config.max24 = 16777215 := rfl
  have pays := pays_charge hm n x
  have left := remaining_charge hm n x
  have spent := spentCharged_charge hm n x
  have bytes := writes_charge n x s
  have only := charge_only_mem n x s
  have memory : MemoryOk (charge n x s) := memoryOk_charge hm
  unfold chargeFrame
  dsimp only
  generalize charge n x s = v at *
  rw [pays.account]
  have raised : Writes (within (accountBase (accountIndex s n) + 0x18) 4) v (raiseFrames (accountIndex s n) v) :=
    (Keeps.refl v).setLong (apart_others fun b _ _ => by omega)
  have before : accountFrames v (accountIndex s n) = accountFrames s (accountIndex s n) := bytes.longAt (by omega) (by omega) (by omega)
  refine ⟨pays.andKept fun a ha => raised a (by omega), ?_, spent.carry (.refl s) fun a ha => raised a (by omega), ?_,
    (bytes.mono fun a ha => .inl ha).andThen (raised.mono fun a ha => .inr ha), only_mem_trans only (setLong_only_mem ..),
    memoryOk_setLong memory⟩
  · exact (raised.longAt (by omega) (by omega) (by omega) : remaining _ n = _).trans left
  · rw [← before]
    exact longAt_setLong_same (a := accountBase (accountIndex s n) + 0x18) memory (by omega) (by omega)

/-- The counts of the shot's and the order's EXPOSED frames. -/
def exposedCounted (r : ShotRecord) (s : State) : State :=
  raiseWord (outcome r.slot + 0x06) (raiseByte (shotOutcome r.slot r.shot + 0x05) s)

/-- What the counts of an EXPOSED frame leave. -/
structure ExposedCounted (r : ShotRecord) (s t : State) : Prop where
  shot : byteAt s (shotOutcome r.slot r.shot + 5) < 255 →
    byteAt t (shotOutcome r.slot r.shot + 5) = byteAt s (shotOutcome r.slot r.shot + 5) + 1
  order : framesExposed s r.slot < 65535 → framesExposed t r.slot = framesExposed s r.slot + 1
  bytes : Writes (fun a => a = shotOutcome r.slot r.shot + 5 ∨ within (outcome r.slot + 6) 2 a) s t
  only : t = { s with mem := t.mem }
  memory : MemoryOk t

theorem exposedCounted_spec (hm : MemoryOk s) (r : ShotRecord) : ExposedCounted r s (exposedCounted r s) := by
  have hn := r.slot.isLt
  have ho := outcome_eq r.slot
  have hi := shotOutcome_eq r.slot r.shot
  have hsize : Config.memorySize = 0x8000 := rfl
  have first : Writes (fun a => a = shotOutcome r.slot r.shot + 5) s (raiseByte (shotOutcome r.slot r.shot + 0x05) s) :=
    (Keeps.refl s).setByte (apart_others fun b _ _ => by omega)
  have m1 : MemoryOk (raiseByte (shotOutcome r.slot r.shot + 0x05) s) := memoryOk_setByte hm
  have only : raiseByte (shotOutcome r.slot r.shot + 0x05) s = { s with mem := (raiseByte (shotOutcome r.slot r.shot + 0x05) s).mem } :=
    setByte_only_mem ..
  have shot (full : byteAt s (shotOutcome r.slot r.shot + 5) < 255) : byteAt (raiseByte (shotOutcome r.slot r.shot + 0x05) s)
      (shotOutcome r.slot r.shot + 5) = byteAt s (shotOutcome r.slot r.shot + 5) + 1 :=
    (byteAt_setByte_same hm (by omega)).trans (Nat.mod_eq_of_lt (by omega))
  unfold exposedCounted
  generalize raiseByte (shotOutcome r.slot r.shot + 0x05) s = v at *
  have second : Writes (within (outcome r.slot + 6) 2) v (raiseWord (outcome r.slot + 0x06) v) :=
    (Keeps.refl v).setWord (apart_others fun b _ _ => by omega)
  have order : framesExposed v r.slot = framesExposed s r.slot := first.wordAt (by omega) (by omega)
  refine ⟨fun full => (second.byteAt (by omega)).trans (shot full), fun full => ?_,
    (first.mono fun a ha => .inl ha).andThen (second.mono fun a ha => .inr ha), only_mem_trans only (setWord_only_mem ..),
    memoryOk_setWord m1⟩
  refine (wordAt_setWord_same m1 (by omega)).trans ?_
  change wordAt v (outcome r.slot + 6) = _ at order
  rw [order]
  exact Nat.mod_eq_of_lt (by omega)

/-! ### Up to the charge (R61 steps 1 to 5) -/

/-- The shot record with frame f recorded EXPOSED. -/
def withExposed (f : SetFrame) (r : ShotRecord) : ShotRecord := markRecorded f.frame { r with tally := r.tally ++ [(f.position, f.copy)] }

/-- The frame's record, the shot record, the counts and the charge. -/
def exposedCharged (r : ShotRecord) (f : SetFrame) (x : Nat) (s : State) : State :=
  chargeFrame r.slot x (exposedCounted r (setShot (withExposed f r) (exposedRecord (shotSheet r) f.frame x s)))

theorem framePrice_sequenced (hm : MemoryOk s) (sh : Sheet) (k : Nat) (n : Slot) :
    framePrice (sequenced sh k s) (orderProfile (sequenced sh k s) n) = framePrice s (orderProfile s n) := by
  have hn := n.isLt
  have hs := slotBase_eq n
  have hf := frameRecord_eq sh k
  have hi := sheetIndex_lt sh
  have hc : Config.prices = 0x5900 := rfl
  have bytes := (sequenced_spec hm sh k).bytes
  have hp : orderProfile (sequenced sh k s) n = orderProfile s n := bytes.byteAt (by omega)
  have bound : orderProfile s n < 256 := byteAt_lt s (slotBase n + 7)
  rw [hp]
  exact price_kept fun a ha => bytes a (by omega)

theorem recordExposed_eq (hm : MemoryOk s) (r : ShotRecord) (f : SetFrame) : recordExposed r f s =
    setFaultCount 0 (enterLabel (shotSheet r) f.frame (exposedCharged r f (framePrice s (orderProfile s r.slot)) s)) := by
  rw [← framePrice_sequenced hm (shotSheet r) f.frame r.slot]
  rfl

/-- The bytes that an EXPOSED frame writes up to its charge. -/
abbrev ExposedBytes (r : ShotRecord) (f : SetFrame) (i a : Nat) : Prop :=
  ExposedRecordBytes (shotSheet r) f.frame a ∨ a = shotOutcome r.slot r.shot + 5 ∨ within (outcome r.slot + 6) 2 a
    ∨ ChargeBytes r.slot i a ∨ within (accountBase i + 0x18) 4 a

/-- What an EXPOSED frame leaves up to its charge x. -/
structure FrameExposed (r : ShotRecord) (f : SetFrame) (x : Nat) (s t : State) : Prop where
  frames : ∀ y j, frameCode t y j = if frameRecord y j = frameRecord (shotSheet r) f.frame then 2 else frameCode s y j
  labels : ∀ y j, labelCode t y j = labelCode s y j
  counter : sequenceCounter t = if sequenceCounter s < 16777215 then sequenceCounter s + 1 else 1
  sequence : frameSequence t (shotSheet r) f.frame = sequenceCounter t
  counts : ExposedCounts s t r
  pays : Pays r.slot x s t
  left : remaining t r.slot = remaining s r.slot - x
  spent : SpentCharged (accountIndex s r.slot) x s t
  bytes : Writes (ExposedBytes r f (accountIndex s r.slot)) s t
  gate : t.gate = { s.gate with shot := some (withExposed f r) }
  only : t = { s with mem := t.mem, gate := t.gate }
  memory : MemoryOk t

theorem frameExposed (hm : MemoryOk s) (hk : f.frame ≤ capacity s (shotSheet r)) (ha : accountIndex s r.slot ≤ 63) :
    FrameExposed r f x s (exposedCharged r f x s) := by
  have hn := r.slot.isLt
  have hs := slotBase_eq r.slot
  have ho := outcome_eq r.slot
  have hio := shotOutcome_eq r.slot r.shot
  have hb := accountBase_eq (accountIndex s r.slot)
  have hf := frameRecord_eq (shotSheet r) f.frame
  have hi := sheetIndex_lt (shotSheet r)
  have hsb := sheetBase_eq (shotSheet r)
  have hr : Config.report = 0x5D00 := rfl
  obtain ⟨frames, labels, counter, sequence, count, bytes1, only1, memory1⟩ := exposedRecord_spec (x := x) hm hk
  unfold exposedCharged
  generalize exposedRecord (shotSheet r) f.frame x s = a at *
  have m2 : MemoryOk (setShot (withExposed f r) a) := memory1
  have same : Keeps (fun _ => True) a (setShot (withExposed f r) a) := .same (.refl a) rfl
  have only2 : setShot (withExposed f r) a = { s with mem := a.mem, gate := { s.gate with shot := some (withExposed f r) } } := by
    rw [only1]
    rfl
  generalize setShot (withExposed f r) a = b at *
  obtain ⟨shot, order, bytes3, only3, m3⟩ := exposedCounted_spec m2 r
  generalize exposedCounted r b = c at *
  have first : Writes (ExposedRecordBytes (shotSheet r) f.frame) s b := bytes1.andThen fun a _ => same a trivial
  have account : accountIndex c r.slot = accountIndex s r.slot := (bytes3.byteAt (by omega)).trans (first.byteAt (by omega))
  obtain ⟨pays, left, spent, raised, bytes4, only4, m4⟩ := frameCharged m3 r.slot x
  rw [account] at spent raised bytes4
  generalize chargeFrame r.slot x c = d at *
  have before : Writes (fun a => ExposedRecordBytes (shotSheet r) f.frame a ∨ a = shotOutcome r.slot r.shot + 5
      ∨ within (outcome r.slot + 6) 2 a) s c := (first.mono fun a ha => .inl ha).andThen (bytes3.mono fun a ha => .inr ha)
  have later : Writes (fun a => a = shotOutcome r.slot r.shot + 5 ∨ within (outcome r.slot + 6) 2 a
      ∨ ChargeBytes r.slot (accountIndex s r.slot) a ∨ within (accountBase (accountIndex s r.slot) + 0x18) 4 a) b d :=
    (bytes3.mono fun a ha => by omega).andThen (bytes4.mono fun a ha => by omega)
  have after : Writes (fun a => a = shotOutcome r.slot r.shot + 5 ∨ within (outcome r.slot + 6) 2 a
      ∨ ChargeBytes r.slot (accountIndex s r.slot) a ∨ within (accountBase (accountIndex s r.slot) + 0x18) 4 a) a d :=
    Keeps.trans (fun a _ => same a trivial) later
  have kept : Keeps FrameByte a d := fun p hp => after p (by
    have := frameByte_bounds hp
    omega)
  have start : Pays r.slot 0 s c := .kept fun p hp => before p (by omega)
  have total := start.trans pays
  rw [Nat.zero_add] at total
  have leftC : remaining c r.slot = remaining s r.slot := before.longAt (by omega) (by omega) (by omega)
  have framesC : accountFrames c (accountIndex s r.slot) = accountFrames s (accountIndex s r.slot) :=
    before.longAt (by omega) (by omega) (by omega)
  have gate : d.gate = { s.gate with shot := some (withExposed f r) } := by rw [only4, only3, only2]
  have counterD : sequenceCounter d = sequenceCounter a := after.longAt (by omega) (by omega) (by omega)
  refine ⟨fun y j => (frameCode_kept kept y j).trans (frames y j), fun y j => (labelCode_kept kept y j).trans (labels y j),
    counterD.trans counter, ?_, ⟨fun full => ?_, fun full => ?_, fun full => ?_, ?_⟩, total, left.trans (by rw [leftC]),
    spent.carry (fun p hp => before p (by omega)) (.refl d), (before.mono fun p hp => by omega).andThen (bytes4.mono fun p hp => by omega),
    gate, ?_, m4⟩
  · rw [counterD, ← sequence]
    exact after.longAt (by omega) (by omega) (by omega)
  · have shotB : byteAt b (shotOutcome r.slot r.shot + 5) = byteAt s (shotOutcome r.slot r.shot + 5) := first.byteAt (by omega)
    rw [← shotB] at full ⊢
    exact (bytes4.byteAt (by omega)).trans (shot full)
  · have orderB : framesExposed b r.slot = framesExposed s r.slot := first.wordAt (by omega) (by omega)
    rw [← orderB] at full ⊢
    exact (bytes4.wordAt (by omega) (by omega)).trans (order full)
  · have same : exposedCount d (shotSheet r) = exposedCount a (shotSheet r) := after.byteAt (by omega)
    exact same.trans (count full)
  · rw [raised, framesC]
  · rw [only4, only3, only2]

end Sys2Proof.Proofs
end

section
/-! SUPPORT. The label of an EXPOSED frame enters the Label Unit (R152, R156, R161). -/

namespace Sys2Proof.Proofs

open Sys2Proof Sys2Proof.Machine Sys2Proof.Safety Sys2Proof.Laws Sys2Proof.Claims

variable {s t u v w : State} {n m : Slot} {sh y : Sheet} {j k x : Nat} {e : LabelEntry} {rest : List LabelEntry}

/-! ### A READY printer is sent its head (R161) -/

/-- What the sending of a head leaves, when one is due. -/
structure SendsHead (s t : State) : Prop where
  queue : t.labels.queue = s.labels.queue
  sent : ∀ e rest, s.labels.queue = e :: rest → s.labels.printer = .ready →
    t.labels.printer = .printing ∧ t.labels.transmitter.getLast? = some (.label (labelMessage e))
  bytes : Writes (fun a => a = 0x5D09) s t
  only : InLabels s t
  memory : MemoryOk t

theorem sendsHead (hm : MemoryOk s) : SendsHead s (trySend s) := by
  by_cases due : s.labels.printer = .ready ∧ s.labels.queue ≠ []
  · obtain ⟨printer, some⟩ := due
    obtain ⟨e, rest, queue⟩ := List.exists_cons_of_ne_nil some
    have sends : trySend s = sendMessage e (startPrinting s) := by
      unfold trySend
      rw [printer, queue]
      rfl
    rw [sends]
    refine ⟨rfl, fun f l hq _ => ?_, (writes_enterPrinter .printing s).same rfl, rfl, memoryOk_enterPrinter (p := .printing) hm⟩
    rw [queue] at hq
    obtain ⟨rfl, -⟩ := List.cons.inj hq
    exact ⟨rfl, List.getLast?_concat ..⟩
  · have stays : trySend s = s := by
      unfold trySend
      split
      · next printer queue => exact absurd ⟨printer, by rw [queue]; exact List.cons_ne_nil _ _⟩ due
      · rfl
    rw [stays]
    exact ⟨rfl, fun e rest queue printer => absurd ⟨printer, by rw [queue]; exact List.cons_ne_nil _ _⟩ due, .refl s, .refl s, hm⟩

/-! ### What a label is made of (R152) -/

/-- The bytes that a frame's label is read from, but for the frame's own copy number. -/
abbrev SourceBytes (s : State) (sh : Sheet) (k a : Nat) : Prop :=
  within (frameRecord sh k + 1) 5 a ∨ within (frameRecord sh k + 0x0C) 3 a ∨ within (sheetBase sh + 2) 2 a
    ∨ within (slotBase (frameSlot s sh k) + 6) 0x1FA a ∨ within (accountBase (accountIndex s (frameSlot s sh k)) + 2) 4 a
    ∨ within 0x5800 0x100 a ∨ within 0x5A00 0x200 a

theorem characters_kept {a i : Nat} (h : Keeps (within a i) s t) : characters t a i = characters s a i := by
  unfold characters
  congr 1
  exact List.map_congr_left fun b hb => h b (List.mem_range'_1.mp hb)

theorem composeLabel_kept (hs : LabelSourced s sh k) (h : Keeps (SourceBytes s sh k) s t) (hc : frameCopy t sh k = frameCopy s sh k) :
    composeLabel t sh k = composeLabel s sh k := by
  obtain ⟨profile, style, -, shot⟩ := hs
  have hpr : Config.profiles = 0x5800 := rfl
  have hst : Config.styles = 0x5A00 := rfl
  have slot : frameSlot t sh k = frameSlot s sh k := by
    have same : byteAt t (frameRecord sh k + 1) = byteAt s (frameRecord sh k + 1) := h.byteAt (by omega)
    unfold frameSlot
    simp only [same]
  have index : byteAt t (frameRecord sh k + 2) = byteAt s (frameRecord sh k + 2) := h.byteAt (by omega)
  have shots : frameShot t sh k = frameShot s sh k := by
    unfold frameShot
    rw [index]
  have position : framePosition t sh k = framePosition s sh k := by
    unfold framePosition
    rw [index]
  have sequence : frameSequence t sh k = frameSequence s sh k := h.longAt (by omega) (by omega) (by omega)
  have order : wordAt t (frameRecord sh k + 4) = wordAt s (frameRecord sh k + 4) := h.wordAt (by omega) (by omega)
  have serial : rollSerial t sh = rollSerial s sh := h.wordAt (by omega) (by omega)
  unfold SourceBytes at h
  generalize hn : frameSlot s sh k = n at *
  generalize hi : frameShot s sh k = i at *
  have account : accountIndex t n = accountIndex s n := h.byteAt (by omega)
  have profiles : orderProfile t n = orderProfile s n := h.byteAt (by omega)
  have styles : styleIndex t n = styleIndex s n := h.byteAt (by omega)
  have entry : shotEntry n i = slotBase n + 0x20 + i * 0x14 := rfl
  have bracket : bracketCount t n i = bracketCount s n i := h.byteAt (by omega)
  have hpb : profileBase (orderProfile s n) = 0x5800 + orderProfile s n * 0x20 := rfl
  have hsb : styleBase (styleIndex s n) = 0x5A00 + styleIndex s n * 0x80 := rfl
  have fields : labelFields t sh k = labelFields s sh k := by
    unfold labelFields
    dsimp only
    rw [slot, shots, hn, hi, order, account, serial, bracket, position, hc, profiles, characters_kept fun a ha => h a (by omega),
      characters_kept fun a ha => h a (by omega), characters_kept fun a ha => h a (by omega)]
  unfold composeLabel
  dsimp only
  rw [slot, hn, fields, sequence, styles, characters_kept fun a ha => h a (by omega), characters_kept fun a ha => h a (by omega),
    characters_kept fun a ha => h a (by omega)]

/-! ### The label's entry (R156) -/

/-- The label QUEUED at the tail of a queue with room, or WAITING (R156). -/
def labelPlaced (sh : Sheet) (k : Nat) (s : State) : State :=
  if s.labels.queue.length < Config.labelDepth ∧ waitingCount s = 0 then appendLabel sh k s
  else setWaitingCount (waitingCount s + 1) (setLabelState sh k .waiting s)

/-- What the label's place leaves, QUEUED or WAITING. -/
structure LabelPlaced (sh : Sheet) (k : Nat) (s t : State) : Prop where
  queued : s.labels.queue.length < 32 → waitingCount s = 0 → labelCode t sh k = 2 ∧ waitingCount t = 0
    ∧ t.labels = { s.labels with queue := s.labels.queue ++ [composeLabel s sh k] } ∧ reportByte t 0x0A = s.labels.queue.length + 1
  waits : 32 ≤ s.labels.queue.length ∨ 0 < waitingCount s → waitingCount s < 255 →
    labelCode t sh k = 1 ∧ t.labels = s.labels ∧ waitingCount t = waitingCount s + 1
  frames : ∀ y j, frameCode t y j = frameCode s y j
  copies : frameCopy t sh k = frameCopy s sh k
  bytes : Writes (fun a => a = frameRecord sh k ∨ within 0x5D0A 2 a) s t
  only : InLabels s t
  memory : MemoryOk t

theorem frameCopy_setLabelState (hm : MemoryOk s) (l : LabelState) : frameCopy (setLabelState sh k l s) sh k = frameCopy s sh k := by
  have hl : l.code < 8 := by cases l <;> decide
  have hb := byteAt_lt s (frameRecord sh k)
  have written : byteAt (setLabelState sh k l s) (frameRecord sh k)
      = (byteAt s (frameRecord sh k) / 64 * 64 + l.code * 8 + byteAt s (frameRecord sh k) % 8) % 256 :=
    byteAt_setByte_same hm (frameRecord_lt sh k)
  unfold frameCopy
  rw [written]
  omega

theorem labelPlaced_spec (hm : MemoryOk s) (sh : Sheet) (k : Nat) : LabelPlaced sh k s (labelPlaced sh k s) := by
  have hr : Config.report = 0x5D00 := rfl
  have hd : Config.labelDepth = 32 := rfl
  have hsize : Config.memorySize = 0x8000 := rfl
  have hf := frameRecord_eq sh k
  have hi := sheetIndex_lt sh
  unfold labelPlaced
  rw [hd]
  by_cases room : s.labels.queue.length < 32 ∧ waitingCount s = 0
  · rw [if_pos room]
    have m1 : MemoryOk (setQueue (s.labels.queue ++ [composeLabel s sh k]) s) := memoryOk_setQueue hm
    have lined := writes_setQueue (s.labels.queue ++ [composeLabel s sh k]) s
    have count : reportByte (setQueue (s.labels.queue ++ [composeLabel s sh k]) s) 0x0A
        = (s.labels.queue ++ [composeLabel s sh k]).length % 256 :=
      byteAt_setByte_same (a := 0x5D0A) (s := { s with labels := _ }) hm (by omega)
    rw [List.length_append, List.length_singleton, Nat.mod_eq_of_lt (by omega)] at count
    have labels : (setQueue (s.labels.queue ++ [composeLabel s sh k]) s).labels
        = { s.labels with queue := s.labels.queue ++ [composeLabel s sh k] } := rfl
    have inLabels := setQueue_only (s.labels.queue ++ [composeLabel s sh k]) s
    have frames := keepsFrames_setQueue (s.labels.queue ++ [composeLabel s sh k]) s
    unfold appendLabel
    generalize setQueue (s.labels.queue ++ [composeLabel s sh k]) s = v at *
    have marked := writes_setLabelState sh k .queued v
    have only := setLabelState_only_mem sh k .queued v
    have copy : frameCopy v sh k = frameCopy s sh k := by
      unfold frameCopy
      rw [lined.byteAt (by omega)]
    refine ⟨fun _ _ => ⟨(labelCode_setLabelState m1 .queued).trans (if_pos rfl), ?_, ?_, ?_⟩, fun c => by omega,
      fun y j => (frameCode_setLabelState m1 .queued).trans (frameCode_kept frames y j),
      (frameCopy_setLabelState m1 .queued).trans copy,
      (lined.mono fun a ha => by omega).andThen (marked.mono fun a ha => by omega), inLabels.trans ?_, memoryOk_setLabelState m1⟩
    · exact (marked.byteAt (a := 0x5D0B) (by omega)).trans ((lined.byteAt (by omega)).trans room.2)
    · rw [only]
      exact labels
    · exact (marked.byteAt (a := 0x5D0A) (by omega)).trans count
    · exact inLabels_of_memory only
  · rw [if_neg room]
    have m1 : MemoryOk (setLabelState sh k .waiting s) := memoryOk_setLabelState hm
    have marked := writes_setLabelState sh k .waiting s
    have only := setLabelState_only_mem sh k .waiting s
    have code : labelCode (setLabelState sh k .waiting s) sh k = 1 := (labelCode_setLabelState hm .waiting).trans (if_pos rfl)
    have frames (y : Sheet) (j : Nat) := frameCode_setLabelState (x := sh) (j := k) (sh := y) (k := j) hm .waiting
    have copy := frameCopy_setLabelState (sh := sh) (k := k) hm .waiting
    generalize setLabelState sh k .waiting s = v at *
    have counted : Writes (fun a => a = 0x5D0B) v (setWaitingCount (waitingCount s + 1) v) :=
      (Keeps.refl v).report (apart_others fun b _ _ => by omega)
    have kept : Keeps FrameByte v (setWaitingCount (waitingCount s + 1) v) := fun a ha => counted a (by
      have := frameByte_bounds ha
      omega)
    refine ⟨fun c c' => absurd ⟨c, c'⟩ room, fun _ full => ⟨(labelCode_kept kept sh k).trans code, ?_, ?_⟩,
      fun y j => (frameCode_kept kept y j).trans (frames y j), ?_,
      (marked.mono fun a ha => by omega).andThen (counted.mono fun a ha => by omega), ?_, memoryOk_setByte m1⟩
    · exact (show v.labels = s.labels by rw [only])
    · exact (byteAt_setByte_same m1 (by omega)).trans (Nat.mod_eq_of_lt (by omega))
    · rw [← copy]
      unfold frameCopy
      rw [counted.byteAt (by omega)]
    · exact inLabels_of_memory (only_mem_trans only (setByte_only_mem ..))

/-- One outstanding label more. -/
def oneLabelMore (e : OrderEntry) : OrderEntry := { e with outstanding := e.outstanding + 1 }

/-- What the entry of an EXPOSED frame's label leaves. -/
structure LabelEntered (sh : Sheet) (k : Nat) (s t : State) : Prop where
  enters : (∀ u, u = composeLabel s sh k → s.labels.queue.length < 32 → waitingCount s = 0 →
      labelCode t sh k = 2 ∧ waitingCount t = 0 ∧ reportByte t 0x0A = s.labels.queue.length + 1
        ∧ t.labels.queue = s.labels.queue ++ [u]
        ∧ (s.labels.queue = [] → s.labels.printer = .ready →
            t.labels.printer = .printing ∧ t.labels.transmitter.getLast? = some (.label (labelMessage u))))
    ∧ (32 ≤ s.labels.queue.length ∨ 0 < waitingCount s → waitingCount s < 255 →
      labelCode t sh k = 1 ∧ t.labels.queue = s.labels.queue ∧ waitingCount t = waitingCount s + 1)
  frames : ∀ y j, frameCode t y j = frameCode s y j
  copies : frameCopy t sh k = frameCopy s sh k
  orders : t.orders = (updateOrder (frameSlot s sh k) oneLabelMore s).orders
  bytes : Writes (fun a => a = frameRecord sh k ∨ within 0x5D09 3 a) s t
  only : t = { s with mem := t.mem, orders := t.orders, labels := t.labels }
  memory : MemoryOk t

theorem enterLabel_eq (sh : Sheet) (k : Nat) (s : State) : enterLabel sh k s =
    trySend (updateOrder (frameSlot (labelPlaced sh k s) sh k) oneLabelMore (labelPlaced sh k s)) := rfl

theorem labelEntered (hm : MemoryOk s) (sh : Sheet) (k : Nat) : LabelEntered sh k s (enterLabel sh k s) := by
  have hr : Config.report = 0x5D00 := rfl
  have hf := frameRecord_eq sh k
  have hi := sheetIndex_lt sh
  obtain ⟨queued, waits, frames, copies, bytes, only, memory⟩ := labelPlaced_spec hm sh k
  rw [enterLabel_eq]
  generalize labelPlaced sh k s = v at *
  have slot : frameSlot v sh k = frameSlot s sh k := by
    have same : byteAt v (frameRecord sh k + 1) = byteAt s (frameRecord sh k + 1) := bytes.byteAt (by omega)
    unfold frameSlot
    simp only [same]
  rw [slot]
  have m2 : MemoryOk (updateOrder (frameSlot s sh k) oneLabelMore v) := memory
  have orders : (updateOrder (frameSlot s sh k) oneLabelMore v).orders = (updateOrder (frameSlot s sh k) oneLabelMore s).orders :=
    updateOrder_orders_congr only.orders
  have same : (updateOrder (frameSlot s sh k) oneLabelMore v).mem = v.mem := rfl
  have labels : (updateOrder (frameSlot s sh k) oneLabelMore v).labels = v.labels := rfl
  have alone : updateOrder (frameSlot s sh k) oneLabelMore v
      = { v with orders := (updateOrder (frameSlot s sh k) oneLabelMore v).orders } := rfl
  generalize updateOrder (frameSlot s sh k) oneLabelMore v = w at *
  obtain ⟨queue, sent, last, only', memory'⟩ := sendsHead m2
  generalize trySend w = t at *
  have after : Writes (fun a => a = 0x5D09) v t := Keeps.trans ((Keeps.refl v).same same) last
  have kept : Keeps FrameByte v t := fun a ha => after a (by
    have := frameByte_bounds ha
    omega)
  refine ⟨⟨fun u hu room idle => ?_, fun c full => ?_⟩, fun y j => (frameCode_kept kept y j).trans (frames y j), ?_,
    only'.orders.trans orders, (bytes.mono fun a ha => by omega).andThen (after.mono fun a ha => by omega), ?_, memory'⟩
  · obtain ⟨code, none, place, count⟩ := queued room idle
    have inQueue : w.labels.queue = s.labels.queue ++ [u] := by rw [labels, place, hu]
    refine ⟨(labelCode_kept kept sh k).trans code, (after.byteAt (a := 0x5D0B) (by omega)).trans none,
      (after.byteAt (a := 0x5D0A) (by omega)).trans count, queue.trans inQueue, fun empty ready => ?_⟩
    rw [empty] at inQueue
    exact sent u [] inQueue (by rw [labels, place]; exact ready)
  · obtain ⟨code, place, count⟩ := waits c full
    exact ⟨(labelCode_kept kept sh k).trans code, queue.trans (by rw [labels, place]), (after.byteAt (a := 0x5D0B) (by omega)).trans count⟩
  · rw [← copies]
    unfold frameCopy
    rw [after.byteAt (by omega)]
  · rw [only', alone, only]

end Sys2Proof.Proofs
end

section
/-! SUPPORT. After the last frame of a shot: the used-frame notice, and the end of the shot (R62, R65). -/

namespace Sys2Proof.Proofs

open Sys2Proof Sys2Proof.Machine Sys2Proof.Safety Sys2Proof.Laws Sys2Proof.Claims

variable {s t u v : State} {n m : Slot} {bk : Back} {w : Which} {j k x : Nat} {r : ShotRecord} {f : SetFrame} {e : OrderEntry}

/-- The back is READY, its shot r has every frame recorded and none RESERVED, and nothing else waits for the gate. -/
structure LastRecorded (bk : Back) (r : ShotRecord) (s : State) : Prop where
  memory : MemoryOk s
  shot : s.gate.shot = some r
  recorded : allRecorded r = true
  unreserved : ∀ g ∈ r.frames, frameCode s (shotSheet r) g.frame ≠ 1
  ready : (s.back bk).state = .ready
  live : (s.back bk).live = some r.which
  hand : recordedHand s r.slot = .taken
  stand : s.control.stand = .running
  account : accountIndex s r.slot ≤ 63
  index : r.shot < 24

theorem afterRecording_last (h : LastRecorded bk r s) : afterRecording bk s = endShot false (windOn bk s) := by
  have tells : tellUsed bk s = windOn bk s := if_neg (by rw [h.ready]; decide)
  obtain ⟨z, becomes, -⟩ := (winds h.memory h.live).unit
  have shot : (windOn bk s).gate.shot = some r := by rw [becomes.rest]; exact h.shot
  unfold afterRecording
  rw [tells]
  dsimp only
  rw [shot]
  dsimp only
  rw [if_pos h.recorded]

/-- What holds at the end of the shot still holds once the back winds. -/
theorem endShot_wound (h : LastRecorded bk r s) : endShot false (windOn bk s) = reachBoundary (afterShot r.slot (shotEnded r (windOn bk s)))
    ∧ (windOn bk s).control.stand = .running ∧ accountIndex (windOn bk s) r.slot ≤ 63
    ∧ (AnotherShotPends (windOn bk s) r ↔ AnotherShotPends s r) ∧ (windOn bk s).orders = s.orders := by
  have hn := r.slot.isLt
  have hs := slotBase_eq r.slot
  have hbo := backOffset_bounds bk
  obtain ⟨⟨z, becomes, -⟩, bytes, memory⟩ := winds h.memory h.live
  generalize windOn bk s = v at *
  have kept : Keeps FrameByte s v := fun a ha => bytes a (by
    have := frameByte_bounds ha
    omega)
  have orders : v.orders = s.orders := becomes.orders
  have account : accountIndex v r.slot = accountIndex s r.slot := bytes.byteAt (by omega)
  have count : shotCount v r.slot = shotCount s r.slot := bytes.wordAt (by omega) (by omega)
  have codes (j : Nat) : shotCode v r.slot j = shotCode s r.slot j := bytes.byteAt (by
    have := shotOutcome_eq r.slot j
    omega)
  refine ⟨endShot_eq memory (by rw [becomes.rest]; exact h.shot) (fun g hg => ?_) ?_, ?_, by rw [account]; exact h.account, ?_, orders⟩
  · rw [frameCode_kept kept]
    exact h.unreserved g hg
  · unfold recordedHand
    rw [orders]
    exact h.hand
  · rw [becomes.control]
    exact h.stand
  · unfold AnotherShotPends
    simp only [count, codes]

/-- An order that goes on after its shot's last frame. -/
theorem lastFrame_goesOn {sub : SubState} (h : LastRecorded bk r s) (he : findOrder s r.slot = some e)
    (hsub : AnotherShotPends s r ∧ sub = .waitingRun ∨ ¬ AnotherShotPends s r ∧ 0 < e.outstanding ∧ sub = .finishing) :
    ∃ v, Winds bk r.which (s.back bk) s v ∧ ShotDone r v (afterRecording bk s)
      ∧ byteAt (afterRecording bk s) (outcome r.slot + 1) = sub.code
      ∧ (afterRecording bk s).orders.runList
          = s.orders.runList.map fun o => if o.slot = r.slot then { o with sub := sub } else o := by
  obtain ⟨ends, stand, account, pends, orders⟩ := endShot_wound h
  have wound := winds h.memory h.live
  refine ⟨windOn bk s, wound, ?_⟩
  rw [afterRecording_last h, ends]
  generalize windOn bk s = v at *
  obtain ⟨calm, done, byte, list⟩ := shotDone_goesOn (r := r) (sub := sub) wound.memory account stand
  have found : findOrder (shotEnded r v) r.slot = some e :=
    (findOrder_of_orders ((shotEnded_runList wound.memory).trans (by rw [orders]))).trans he
  have next := nextShot_ended (r := r) wound.memory h.index
  have goes : afterShot r.slot (shotEnded r v) = refreshWanted (setSub r.slot sub (shotEnded r v)) := by
    rcases hsub with ⟨more, rfl⟩ | ⟨none, labels, rfl⟩
    · exact afterShot_waits found (next.mpr (pends.mpr more))
    · refine afterShot_finishing found ?_ labels
      rw [← Option.not_isSome_iff_eq_none]
      exact fun c => none (pends.mp (next.mp c))
  rw [goes, calm]
  exact ⟨done, byte, by rw [list, orders]⟩

/-- An order that completes after its shot's last frame. -/
theorem lastFrame_completes (h : LastRecorded bk r s) (he : findOrder s r.slot = some e) (none : ¬ AnotherShotPends s r)
    (labels : e.outstanding = 0) :
    ∃ v, Winds bk r.which (s.back bk) s v ∧ ShotCompletes r e v (afterRecording bk s) := by
  obtain ⟨ends, stand, account, pends, orders⟩ := endShot_wound h
  have wound := winds h.memory h.live
  refine ⟨windOn bk s, wound, ?_⟩
  rw [afterRecording_last h, ends]
  generalize windOn bk s = v at *
  have he' : findOrder v r.slot = some e := (findOrder_of_orders (by rw [orders])).trans he
  obtain ⟨calm, done⟩ := shotCompletes (r := r) wound.memory he' account stand
  have found : findOrder (shotEnded r v) r.slot = some e := (findOrder_of_orders (shotEnded_runList wound.memory)).trans he'
  have next := nextShot_ended (r := r) wound.memory h.index
  have goes : afterShot r.slot (shotEnded r v) = completeCopy r.slot (shotEnded r v) := by
    refine afterShot_completes found ?_ labels
    rw [← Option.not_isSome_iff_eq_none]
    exact fun c => none (pends.mp (next.mp c))
  rw [goes, calm]
  exact done

end Sys2Proof.Proofs
end

section
/-! SUPPORT. The shutter closes after a frame, and its frame is recorded (R61, R87). -/

namespace Sys2Proof.Proofs

open Sys2Proof Sys2Proof.Machine Sys2Proof.Safety Sys2Proof.Laws Sys2Proof.Claims

variable {s t u v : State} {n m : Slot} {bk : Back} {w : Which} {sh : Sheet} {j k x : Nat} {r : ShotRecord} {f : SetFrame}
  {e : OrderEntry} {c : SpoilCause} {y z : BackUnit}

/-! ### The close switch (R87) -/

/-- The back READY with its shutter seen closed. -/
def closedReady (bk : Back) (s : State) : State := enterReadyBack bk (shutterSeenClosed bk (shutterLevels bk false true s))

/-- What the close leaves of the back's unit. -/
structure UnitClosed (now : Nat) (y z : BackUnit) : Prop where
  state : z.state = .ready
  live : z.live = y.live
  gateFrame : z.gateFrame = y.gateFrame
  readyAt : z.readyAt = now
  outstanding : z.shutter.outstanding = false

/-- What the close leaves of the state. -/
structure ClosesReady (bk : Back) (s t : State) : Prop where
  unit : ∃ z, UnitBecomes bk z s t ∧ UnitClosed s.clock (s.back bk) z
  bytes : Writes (fun a => a = 0x5D00 + backOffset bk) s t
  memory : MemoryOk t

namespace UnitBecomes

theorem shutterLevels {o p : Bool} (h : UnitBecomes bk y s t) : UnitBecomes bk
    { y with levels := { y.levels with shutterOpen := o, shutterClose := p } } s (shutterLevels bk o p t) := by
  unfold Machine.shutterLevels
  dsimp only
  rw [h.unit]
  exact h.setBack _

theorem shutterSeenClosed (h : UnitBecomes bk y s t) : UnitBecomes bk
    { y with shutter := { y.shutter with timer := none, outstanding := false } } s (shutterSeenClosed bk t) := by
  unfold Machine.shutterSeenClosed setShutter
  rw [h.unit]
  exact h.setBack _

theorem enterReadyBack (h : UnitBecomes bk y s t) : UnitBecomes bk { y with
    state := .ready, readyAt := s.clock, origin := .none, shutter := { y.shutter with sinceReady := false } } s
    (enterReadyBack bk t) := by
  have clock : t.clock = s.clock := by rw [h.rest]
  unfold Machine.enterReadyBack
  dsimp only
  rw [h.unit, clock]
  exact (h.setBack { y with readyAt := s.clock, shutter := { y.shutter with sinceReady := false } }).enterBack (st := .ready)

end UnitBecomes

theorem closesReady (hm : MemoryOk s) : ClosesReady bk s (closedReady bk s) := by
  have mem : (shutterSeenClosed bk (shutterLevels bk false true s)).mem = s.mem := (setBack_mem ..).trans (setBack_mem ..)
  have seen := ((UnitBecomes.refl bk s).shutterLevels (o := false) (p := true)).shutterSeenClosed
  refine ⟨⟨_, seen.enterReadyBack, rfl, rfl, rfl, rfl, rfl⟩, ?_, ?_⟩
  · exact Keeps.trans ((Keeps.refl s).same ((setBack_mem ..).trans mem)) (writes_enterBack bk .ready _)
  · exact memoryOk_enterBack (by rw [MemoryOk, setBack_mem, mem]; exact hm)

/-- The close switch at the end of a passage: the back is READY and the frame is recorded. -/
theorem exec_closeSwitch (h : ClosingLastFrame s bk r f e) :
    exec (.shutterCloseSwitch bk) s = .next (afterRecording bk (recordFrame (closedReady bk s))) := by
  obtain ⟨live, ⟨shot, -⟩, phase, back, state, command, timer, -⟩ := h
  have levels := (UnitBecomes.refl bk s).shutterLevels (o := false) (p := true)
  have closes : closing ((shutterLevels bk false true s).back bk) = true := by
    rw [levels.unit]
    unfold closing running
    rw [state, command, Option.isSome_iff_ne_none.mpr timer]
    rfl
  have passage : passageOn (closedReady bk s) bk = true := by
    have ready := (levels.shutterSeenClosed).enterReadyBack
    have gate : (closedReady bk s).gate = s.gate := by
      show (enterReadyBack bk (shutterSeenClosed bk (shutterLevels bk false true s))).gate = s.gate
      rw [ready.rest]
    unfold passageOn
    rw [gate, phase, shot]
    simp [back]
  have records : shutterClosed bk (shutterLevels bk false true s) = afterRecording bk (recordFrame (closedReady bk s)) :=
    if_pos passage
  show Host.Outcome.next (if isLive s then
      (if closing ((shutterLevels bk false true s).back bk) then shutterClosed bk (shutterLevels bk false true s)
        else if staleClosing ((shutterLevels bk false true s).back bk) then staleClosed bk (shutterLevels bk false true s)
        else shutterLevels bk false true s) else s) = _
  rw [if_pos live, if_pos closes, records]

/-! ### The frame recorded (R61) -/

theorem recordFrame_good (shot : s.gate.shot = some r) (next : nextFrame r = some f) (good : r.result = .good) :
    recordFrame s = recordExposed r f s := by
  unfold recordFrame
  rw [shot]
  dsimp only
  rw [next, good]

theorem recordFrame_spoiled (shot : s.gate.shot = some r) (next : nextFrame r = some f) (spoiled : r.result = .spoiled c) :
    recordFrame s = recordSpoiled r f c s := by
  unfold recordFrame
  rw [shot]
  dsimp only
  rw [next, spoiled]

end Sys2Proof.Proofs
end

section
/-! SUPPORT. What the recording of a good frame leaves, its label with it (R61, R148, R156). -/

namespace Sys2Proof.Proofs

open Sys2Proof Sys2Proof.Machine Sys2Proof.Safety Sys2Proof.Laws Sys2Proof.Claims

variable {s t u v : State} {n m : Slot} {bk : Back} {sh : Sheet} {j k x : Nat} {r : ShotRecord} {f : SetFrame}

/-! ### The sources of a label stay (R152) -/

/-- The bytes that tell where a label's sources lie. -/
abbrev NamedBytes (n : Slot) (sh : Sheet) (k a : Nat) : Prop := within (frameRecord sh k + 1) 2 a ∨ within (slotBase n + 6) 0x1FA a

theorem labelSourced_kept (hs : LabelSourced s sh k) (h : Keeps (NamedBytes (frameSlot s sh k) sh k) s t) :
    LabelSourced t sh k ∧ frameSlot t sh k = frameSlot s sh k
      ∧ accountIndex t (frameSlot s sh k) = accountIndex s (frameSlot s sh k) := by
  obtain ⟨profile, style, account, shot⟩ := hs
  have slot : frameSlot t sh k = frameSlot s sh k := by
    have same : byteAt t (frameRecord sh k + 1) = byteAt s (frameRecord sh k + 1) := h.byteAt (by omega)
    unfold frameSlot
    simp only [same]
  have index : frameShot t sh k = frameShot s sh k := by
    have same : byteAt t (frameRecord sh k + 2) = byteAt s (frameRecord sh k + 2) := h.byteAt (by omega)
    unfold frameShot
    rw [same]
  generalize frameSlot s sh k = n at *
  have profiles : orderProfile t n = orderProfile s n := h.byteAt (by omega)
  have styles : styleIndex t n = styleIndex s n := h.byteAt (by omega)
  have accounts : accountIndex t n = accountIndex s n := h.byteAt (by omega)
  refine ⟨?_, slot, accounts⟩
  unfold LabelSourced
  rw [slot, profiles, styles, accounts, index]
  exact ⟨profile, style, account, shot⟩

/-- A label that has entered stays as it is while its sources and the Label Unit do. -/
theorem labelEnters_kept (h : LabelEnters s t sh k) (hs : LabelSourced s sh k → LabelSourced t sh k ∧ Keeps (SourceBytes t sh k) t u)
    (hb : Keeps (fun a => FrameByte a ∨ within 0x5D0A 2 a) t u) (hl : u.labels = t.labels) : LabelEnters s u sh k := by
  have code : labelCode u sh k = labelCode t sh k := labelCode_kept (fun a ha => hb a (.inl ha)) sh k
  have waiting : waitingCount u = waitingCount t := hb.byteAt (a := 0x5D0B) (.inr (by omega))
  have count : reportByte u 0x0A = reportByte t 0x0A := hb.byteAt (a := 0x5D0A) (.inr (by omega))
  have label (sourced : LabelSourced s sh k) : composeLabel u sh k = composeLabel t sh k := by
    obtain ⟨sourced', kept⟩ := hs sourced
    refine composeLabel_kept sourced' kept ?_
    unfold frameCopy
    rw [hb.byteAt (.inl ⟨sh, k, rfl⟩)]
  obtain ⟨queued, waits⟩ := h
  refine ⟨fun room idle => ?_, fun c full => ?_⟩
  · obtain ⟨hc, hw, hn, hp, hq⟩ := queued room idle
    refine ⟨code.trans hc, waiting.trans hw, count.trans hn, fun empty ready => (congrArg Labels.printer hl).trans (hp empty ready),
      fun sourced => ?_⟩
    obtain ⟨queue, sent⟩ := hq sourced
    rw [label sourced, hl]
    exact ⟨queue, sent⟩
  · obtain ⟨hc, hq, hw⟩ := waits c full
    exact ⟨code.trans hc, (congrArg Labels.queue hl).trans hq, waiting.trans hw⟩

/-! ### The recording of a good frame -/

/-- The bytes that it writes. -/
abbrev GoodBytes (r : ShotRecord) (f : SetFrame) (i a : Nat) : Prop :=
  ExposedBytes r f i a ∨ within 0x5D09 3 a ∨ a = 0x5D16

/-- What the recording of a good frame with the frame price x leaves. -/
structure GoodRecorded (r : ShotRecord) (f : SetFrame) (x : Nat) (s t : State) : Prop where
  frames : ∀ y j, frameCode t y j = if frameRecord y j = frameRecord (shotSheet r) f.frame then 2 else frameCode s y j
  counter : sequenceCounter t = if sequenceCounter s < 16777215 then sequenceCounter s + 1 else 1
  sequence : frameSequence t (shotSheet r) f.frame = sequenceCounter t
  counts : ExposedCounts s t r
  pays : Pays r.slot x s t
  left : remaining t r.slot = remaining s r.slot - x
  spent : SpentCharged (accountIndex s r.slot) x s t
  label : LabelEnters s t (shotSheet r) f.frame
  orders : t.orders = (updateOrder (frameSlot s (shotSheet r) f.frame) oneLabelMore s).orders
  lamp : t.lamp = { s.lamp with faultCount := 0 }
  gate : t.gate = { s.gate with shot := some (withExposed f r) }
  bytes : Writes (GoodBytes r f (accountIndex s r.slot)) s t
  only : t = { s with mem := t.mem, gate := t.gate, orders := t.orders, labels := t.labels, lamp := t.lamp }
  memory : MemoryOk t

theorem goodRecorded (hm : MemoryOk s) (hk : f.frame ≤ capacity s (shotSheet r)) (ha : accountIndex s r.slot ≤ 63) :
    GoodRecorded r f (framePrice s (orderProfile s r.slot)) s (recordExposed r f s) := by
  rw [recordExposed_eq hm]
  generalize framePrice s (orderProfile s r.slot) = x
  have hn := r.slot.isLt
  have hs := slotBase_eq r.slot
  have ho := outcome_eq r.slot
  have hio := shotOutcome_eq r.slot r.shot
  have hb := accountBase_eq (accountIndex s r.slot)
  have hf := frameRecord_eq (shotSheet r) f.frame
  have hi := sheetIndex_lt (shotSheet r)
  have hsb := sheetBase_eq (shotSheet r)
  have hr : Config.report = 0x5D00 := rfl
  have exposed := frameExposed (x := x) hm hk ha
  generalize exposedCharged r f x s = v at *
  have entered := labelEntered exposed.memory (shotSheet r) f.frame
  generalize enterLabel (shotSheet r) f.frame v = w at *
  have lampMem : Writes (fun a => a = 0x5D16) w (setFaultCount 0 w) :=
    ((Keeps.refl w).same (u := { w with lamp := { w.lamp with faultCount := 0 } }) rfl).report (apart_others fun b _ _ => by omega)
  have m3 : MemoryOk (setFaultCount 0 w) := memoryOk_setByte (s := { w with lamp := _ }) entered.memory
  have only3 : setFaultCount 0 w = { w with mem := (setFaultCount 0 w).mem, lamp := { w.lamp with faultCount := 0 } } := rfl
  generalize setFaultCount 0 w = t at *
  have after : Writes (fun a => a = frameRecord (shotSheet r) f.frame ∨ within 0x5D09 3 a ∨ a = 0x5D16) v t :=
    (entered.bytes.mono fun a ha => by omega).andThen (lampMem.mono fun a ha => by omega)
  have frames (y : Sheet) (j : Nat) : frameCode t y j = frameCode w y j := frameCode_kept (fun a ha => lampMem a (by
    have := frameByte_bounds ha
    omega)) y j
  have labelW : labelCode t (shotSheet r) f.frame = labelCode w (shotSheet r) f.frame := labelCode_kept (fun a ha => lampMem a (by
    have := frameByte_bounds ha
    omega)) _ _
  have copy : frameCopy t (shotSheet r) f.frame = frameCopy v (shotSheet r) f.frame := by
    rw [← entered.copies]
    unfold frameCopy
    rw [lampMem.byteAt (by omega)]
  have counter : sequenceCounter t = sequenceCounter v := after.longAt (by omega) (by omega) (by omega)
  have labelsV : v.labels = s.labels := by rw [exposed.only]
  have waitingV : waitingCount v = waitingCount s := exposed.bytes.byteAt (a := 0x5D0B) (by omega)
  have labelsT : t.labels = w.labels := by rw [only3]
  have waitingT : waitingCount t = waitingCount w := lampMem.byteAt (a := 0x5D0B) (by omega)
  have countT : reportByte t 0x0A = reportByte w 0x0A := lampMem.byteAt (a := 0x5D0A) (by omega)
  have slotV : frameSlot v (shotSheet r) f.frame = frameSlot s (shotSheet r) f.frame := by
    have same : byteAt v (frameRecord (shotSheet r) f.frame + 1) = byteAt s (frameRecord (shotSheet r) f.frame + 1) :=
      exposed.bytes.byteAt (by omega)
    unfold frameSlot
    simp only [same]
  have label (sourced : LabelSourced s (shotSheet r) f.frame) :
      composeLabel t (shotSheet r) f.frame = composeLabel v (shotSheet r) f.frame := by
    have hn' := (frameSlot s (shotSheet r) f.frame).isLt
    have hs' := slotBase_eq (frameSlot s (shotSheet r) f.frame)
    have hb' := accountBase_eq (accountIndex s (frameSlot s (shotSheet r) f.frame))
    have account := sourced.2.2.1
    obtain ⟨sourced', slot, index⟩ := labelSourced_kept (t := v) sourced fun a ha => exposed.bytes a (by omega)
    refine composeLabel_kept sourced' (fun a ha => after a ?_) copy
    unfold SourceBytes at ha
    rw [slot, index] at ha
    omega
  obtain ⟨queued, waits⟩ := entered.enters
  rw [labelsV, waitingV] at queued waits
  refine ⟨fun y j => ?_, counter.trans exposed.counter, ?_, ?_, exposed.pays.andKept fun a ha => after a (by omega), ?_,
    exposed.spent.carry (.refl s) fun a ha => after a (by omega), ⟨fun room idle => ?_, fun c full => ?_⟩, ?_, ?_, ?_,
    (exposed.bytes.mono fun a ha => .inl ha).andThen (after.mono fun a ha => by omega), ?_, m3⟩
  · rw [frames, entered.frames, exposed.frames]
  · rw [counter, ← exposed.sequence]
    exact after.longAt (by omega) (by omega) (by omega)
  · obtain ⟨shot, order, sheet, account⟩ := exposed.counts
    have sheetT : exposedCount t (shotSheet r) = exposedCount v (shotSheet r) := after.byteAt (by omega)
    refine ⟨fun full => (after.byteAt (by omega)).trans (shot full), fun full => (after.wordAt (by omega) (by omega)).trans (order full),
      fun full => sheetT.trans (sheet full), Eq.trans ?_ account⟩
    exact after.longAt (by omega) (by omega) (by omega)
  · exact (after.longAt (by omega) (by omega) (by omega) : remaining t r.slot = _).trans exposed.left
  · obtain ⟨code, none, count, queue, sent⟩ := queued _ rfl room idle
    rw [labelW, waitingT, countT, labelsT]
    refine ⟨code, none, count, fun empty ready => (sent empty ready).1, fun sourced => ?_⟩
    rw [label sourced]
    exact ⟨queue, fun empty ready => (sent empty ready).2⟩
  · rw [labelW, waitingT, labelsT]
    exact waits c full
  · rw [only3]
    refine entered.orders.trans ?_
    rw [slotV]
    exact updateOrder_orders_congr (by rw [exposed.only])
  · rw [only3, entered.only, exposed.only]
  · rw [only3, entered.only]
    exact exposed.gate
  · rw [only3, entered.only, exposed.only]

end Sys2Proof.Proofs
end

section
/-! SUPPORT. What the recording of a cut frame leaves when it is not reshot (R61, R63, R148). -/

namespace Sys2Proof.Proofs

open Sys2Proof Sys2Proof.Machine Sys2Proof.Safety Sys2Proof.Laws Sys2Proof.Claims

variable {s t u v : State} {n m : Slot} {bk : Back} {sh y : Sheet} {i j k x : Nat} {r : ShotRecord} {f : SetFrame} {c : SpoilCause}

/-- The record of a SPOILED frame with its cause. -/
def spoiledRecord (sh : Sheet) (k : Nat) (c : SpoilCause) (s : State) : State := closeFrame sh k .spoiled (setSpoilCause sh k c s)

/-- What the record of a SPOILED frame leaves. -/
structure SpoiledRecord (sh : Sheet) (k : Nat) (c : SpoilCause) (s t : State) : Prop where
  frames : ∀ y j, frameCode t y j = if frameRecord y j = frameRecord sh k then 3 else frameCode s y j
  cause : byteAt t (frameRecord sh k + 1) / 16 % 8 = c.code
  bytes : Writes (fun a => within (frameRecord sh k) 2 a ∨ a = sheetBase sh + 9) s t
  only : t = { s with mem := t.mem }
  memory : MemoryOk t

theorem spoiledRecord_spec (hm : MemoryOk s) (sh : Sheet) (k : Nat) (c : SpoilCause) :
    SpoiledRecord sh k c s (spoiledRecord sh k c s) := by
  have hsize : Config.memorySize = 0x8000 := rfl
  have hf := frameRecord_eq sh k
  have hi := sheetIndex_lt sh
  have hs := sheetBase_eq sh
  have hc : c.code < 8 := by cases c <;> decide
  have byte := byteAt_lt s (frameRecord sh k + 1)
  have caused : Writes (fun a => a = frameRecord sh k + 1) s (setSpoilCause sh k c s) :=
    (Keeps.refl s).setByte (apart_others fun b _ _ => by omega)
  have cause : byteAt (setSpoilCause sh k c s) (frameRecord sh k + 1)
      = (byteAt s (frameRecord sh k + 1) / 128 * 128 + c.code * 16 + byteAt s (frameRecord sh k + 1) % 16) % 256 :=
    byteAt_setByte_same hm (by omega)
  have m1 : MemoryOk (setSpoilCause sh k c s) := memoryOk_setByte hm
  have only : setSpoilCause sh k c s = { s with mem := (setSpoilCause sh k c s).mem } := setByte_only_mem ..
  unfold spoiledRecord
  generalize setSpoilCause sh k c s = v at *
  have kept : Keeps FrameByte s v := fun a ha => caused a (by
    have := frameByte_bounds ha
    omega)
  have count : sheetCount .spoiled = 9 := rfl
  have marked : Writes (fun a => a = frameRecord sh k ∨ a = sheetBase sh + 9) v (setFrameState sh k .spoiled v) :=
    (Keeps.refl v).setByte (apart_others fun b _ _ => by omega)
  have closed : Writes (fun a => a = frameRecord sh k ∨ a = sheetBase sh + 9) v (closeFrame sh k .spoiled v) :=
    Keeps.ite (fun _ => marked.setByte (apart_others fun b _ _ => by omega)) fun _ => marked
  refine ⟨fun y j => ?_, ?_, (caused.mono fun a ha => by omega).andThen (closed.mono fun a ha => by omega),
    only_mem_trans only (closeFrame_only_mem ..), (Quiet.closeFrame (Quiet.refl v)).memory m1⟩
  · rw [frameCode_closeFrame m1, frameCode_kept kept]
    rfl
  · rw [closed.byteAt (by omega), cause]
    omega

/-- The counts of the shot's and the order's SPOILED frames. -/
def spoiledCounted (r : ShotRecord) (s : State) : State :=
  raiseWord (outcome r.slot + 0x08) (raiseByte (shotOutcome r.slot r.shot + 0x06) s)

theorem writeSpoiled_eq (r : ShotRecord) (f : SetFrame) (c : SpoilCause) (s : State) : writeSpoiled r f c s =
    spoiledCounted r (setShot (markRecorded f.frame r) (spoiledRecord (shotSheet r) f.frame c s)) := rfl

/-- The bytes that a SPOILED frame writes. -/
abbrev SpoiledBytes (r : ShotRecord) (f : SetFrame) (a : Nat) : Prop :=
  within (frameRecord (shotSheet r) f.frame) 2 a ∨ a = sheetBase (shotSheet r) + 9 ∨ a = shotOutcome r.slot r.shot + 6
    ∨ within (outcome r.slot + 8) 2 a ∨ a = 0x5D16

/-- What the recording of a cut frame leaves. -/
structure CutRecorded (r : ShotRecord) (f : SetFrame) (c : SpoilCause) (s t : State) : Prop where
  frames : ∀ y j, frameCode t y j = if frameRecord y j = frameRecord (shotSheet r) f.frame then 3 else frameCode s y j
  cause : byteAt t (frameRecord (shotSheet r) f.frame + 1) / 16 % 8 = c.code
  gate : t.gate = { s.gate with shot := some (markRecorded f.frame r) }
  bytes : Writes (SpoiledBytes r f) s t
  only : t = { s with mem := t.mem, gate := t.gate, lamp := t.lamp }
  memory : MemoryOk t

theorem cutRecorded_written (hm : MemoryOk s) : CutRecorded r f c s (writeSpoiled r f c s)
    ∧ (writeSpoiled r f c s).lamp = s.lamp := by
  have hn := r.slot.isLt
  have ho := outcome_eq r.slot
  have hio := shotOutcome_eq r.slot r.shot
  have hf := frameRecord_eq (shotSheet r) f.frame
  have hi := sheetIndex_lt (shotSheet r)
  have hs := sheetBase_eq (shotSheet r)
  obtain ⟨frames, cause, bytes, only, memory⟩ := spoiledRecord_spec hm (shotSheet r) f.frame c
  rw [writeSpoiled_eq]
  generalize spoiledRecord (shotSheet r) f.frame c s = a at *
  have m2 : MemoryOk (setShot (markRecorded f.frame r) a) := memory
  have same : Keeps (fun _ => True) a (setShot (markRecorded f.frame r) a) := .same (.refl a) rfl
  have only2 : setShot (markRecorded f.frame r) a
      = { s with mem := a.mem, gate := { s.gate with shot := some (markRecorded f.frame r) } } := by
    rw [only]
    rfl
  generalize setShot (markRecorded f.frame r) a = b at *
  have counted : Writes (fun a => a = shotOutcome r.slot r.shot + 6 ∨ within (outcome r.slot + 8) 2 a) b (spoiledCounted r b) :=
    Keeps.setWord ((Keeps.refl b).setByte (apart_others fun p _ _ => by omega)) (apart_others fun p _ _ => by omega)
  have only3 : spoiledCounted r b = { b with mem := (spoiledCounted r b).mem } :=
    only_mem_trans (setByte_only_mem ..) (setWord_only_mem ..)
  have m3 : MemoryOk (spoiledCounted r b) := memoryOk_setWord (memoryOk_setByte m2)
  generalize spoiledCounted r b = d at *
  have after : Writes (fun a => a = shotOutcome r.slot r.shot + 6 ∨ within (outcome r.slot + 8) 2 a) a d :=
    Keeps.trans (fun p _ => same p trivial) counted
  have kept : Keeps FrameByte a d := fun p hp => after p (by
    have := frameByte_bounds hp
    omega)
  refine ⟨⟨fun y j => (frameCode_kept kept y j).trans (frames y j), ?_, by rw [only3, only2],
    (bytes.mono fun p hp => by omega).andThen (after.mono fun p hp => by omega), by rw [only3, only2], m3⟩, by rw [only3, only2]⟩
  rw [after.byteAt (by omega)]
  exact cause

/-- The fault count of a LAMP cause that holds nothing yet. -/
theorem countLampFault_low (h : s.lamp.faultCount ≤ 1) : countLampFault s = setFaultCount (s.lamp.faultCount + 1) s := by
  have low : min 3 (s.lamp.faultCount + 1) = s.lamp.faultCount + 1 := by omega
  unfold countLampFault
  dsimp only
  rw [low, if_neg (by omega)]

/-- With no reshoot left, or no frame left on the sheet, nothing is reshot (R63). -/
theorem reshoot_none (hr : s.gate.shot = some r) (h : 2 ≤ r.reshoots ∨ framesLeft s (shotSheet r) = 0) : reshoot f c s = s := by
  have hc : Config.maxReshoots = 2 := rfl
  unfold reshoot
  rw [hr]
  dsimp only
  split
  · rfl
  · exact if_neg fun d => by omega

theorem cutRecorded (hm : MemoryOk s) (low : s.lamp.faultCount ≤ 1)
    (last : 2 ≤ r.reshoots ∨ capacity s (shotSheet r) ≤ framesUsed s (shotSheet r)) : CutRecorded r f c s (recordSpoiled r f c s) := by
  have hn := r.slot.isLt
  have ho := outcome_eq r.slot
  have hio := shotOutcome_eq r.slot r.shot
  have hf := frameRecord_eq (shotSheet r) f.frame
  have hi := sheetIndex_lt (shotSheet r)
  have hs := sheetBase_eq (shotSheet r)
  have hr : Config.report = 0x5D00 := rfl
  obtain ⟨written, lamp⟩ := cutRecorded_written (r := r) (f := f) (c := c) hm
  have entry : recordSpoiled r f c s = reshoot f c (if c = .lamp then countLampFault (writeSpoiled r f c s) else writeSpoiled r f c s) := rfl
  rw [entry]
  generalize writeSpoiled r f c s = v at *
  have counted : CutRecorded r f c s (if c = .lamp then countLampFault v else v) := by
    by_cases isLamp : c = .lamp
    · rw [if_pos isLamp, countLampFault_low (by rw [lamp]; exact low)]
      generalize v.lamp.faultCount + 1 = q
      have stored : Writes (fun a => a = 0x5D16) v (setFaultCount q v) :=
        ((Keeps.refl v).same (u := { v with lamp := { v.lamp with faultCount := q } }) rfl).report (apart_others fun b _ _ => by omega)
      have m2 : MemoryOk (setFaultCount q v) := memoryOk_setByte (s := { v with lamp := _ }) written.memory
      have only2 : setFaultCount q v = { v with mem := (setFaultCount q v).mem, lamp := { v.lamp with faultCount := q } } := rfl
      generalize setFaultCount q v = t at *
      have kept : Keeps FrameByte v t := fun p hp => stored p (by
        have := frameByte_bounds hp
        omega)
      refine ⟨fun y j => (frameCode_kept kept y j).trans (written.frames y j), ?_, ?_,
        written.bytes.andThen (stored.mono fun p hp => by omega), ?_, m2⟩
      · rw [stored.byteAt (by omega)]
        exact written.cause
      · rw [only2]
        exact written.gate
      · rw [only2, written.only]
    · rw [if_neg isLamp]
      exact written
  generalize (if c = .lamp then countLampFault v else v) = t at *
  have room : capacity t (shotSheet r) = capacity s (shotSheet r) := counted.bytes.byteAt (by omega)
  have used : framesUsed t (shotSheet r) = framesUsed s (shotSheet r) := counted.bytes.byteAt (by omega)
  have shot : t.gate.shot = some (markRecorded f.frame r) := by rw [counted.gate]
  have none : 2 ≤ (markRecorded f.frame r).reshoots ∨ framesLeft t (shotSheet (markRecorded f.frame r)) = 0 := by
    rcases last with more | full
    · exact .inl more
    · refine .inr ?_
      show capacity t (shotSheet r) - framesUsed t (shotSheet r) = 0
      omega
  rw [reshoot_none shot none]
  exact counted

end Sys2Proof.Proofs
end

section
/-! SUPPORT. The last frame of a shot from its shutter's close to the end of the shot (R61, R62, R65, R85, R87). -/

namespace Sys2Proof.Proofs

open Sys2Proof Sys2Proof.Machine Sys2Proof.Safety Sys2Proof.Laws Sys2Proof.Claims

variable {s t u v : State} {n m : Slot} {bk : Back} {w : Which} {sh y : Sheet} {i j k x : Nat} {r : ShotRecord} {f : SetFrame}
  {c : SpoilCause} {e : OrderEntry}

/-! ### The end of the shot with its back's wind-on -/

/-- The bytes that the wind-on and the end of the shot write. -/
abbrev ShotOverBytes (bk : Back) (r : ShotRecord) (i a : Nat) : Prop := a = 0x5D00 + backOffset bk ∨ ShotEndBytes r.slot r.shot i a

/-- What the wind-on and the end of the shot leave when the order goes on. -/
structure ShotOver (bk : Back) (r : ShotRecord) (s t : State) : Prop where
  code : shotCode t r.slot r.shot = if r.planned ≤ r.tally.length then 1 else 2
  done : wordAt s (outcome r.slot + 4) < 65535 → wordAt t (outcome r.slot + 4) = wordAt s (outcome r.slot + 4) + 1
  pays : Pays r.slot 0 s t
  left : remaining t r.slot = remaining s r.slot - missingPairs r * positionPrice s r.slot
  bytes : Writes (ShotOverBytes bk r (accountIndex s r.slot)) s t
  gate : t.gate = Gate.reset
  exposure : t.exposure = { s.exposure with holder := none }
  choice : t.orders.choice = none
  wound : UnitWound ((s.back bk).gateFrame = capacity s ⟨bk, r.which⟩) (autoRewind s = true) (s.back bk) (t.back bk)
  other : t.back (otherBack bk) = s.back (otherBack bk)
  orders : t.orders = { s.orders with choice := none, runList := t.orders.runList }
  only : t = { s with
    mem := t.mem, gate := t.gate, exposure := t.exposure, orders := t.orders, backA := t.backA, backB := t.backB }

theorem shotOver (h : Winds bk r.which (s.back bk) s v) (d : ShotDone r v t) (_ha : accountIndex s r.slot ≤ 63) :
    ShotOver bk r s t := by
  have hn := r.slot.isLt
  have hs := slotBase_eq r.slot
  have ho := outcome_eq r.slot
  have hb := accountBase_eq (accountIndex s r.slot)
  have hbo := backOffset_bounds bk
  have hp : Config.prices = 0x5900 := rfl
  obtain ⟨⟨z, becomes, wound⟩, bytes, -⟩ := h
  have account : accountIndex v r.slot = accountIndex s r.slot := bytes.byteAt (by omega)
  have left : remaining v r.slot = remaining s r.slot := bytes.longAt (by omega) (by omega) (by omega)
  have price : positionPrice v r.slot = positionPrice s r.slot := positionPrice_kept fun a ha => bytes a (by omega)
  have ended := d.bytes
  rw [account] at ended
  have before : Pays r.slot 0 s v := .kept fun a ha => bytes a (by omega)
  have backs : t.backA = v.backA ∧ t.backB = v.backB := by rw [d.only]; exact ⟨rfl, rfl⟩
  have units (p : Back) : t.back p = v.back p := by cases p <;> [exact backs.1; exact backs.2]
  refine ⟨d.code, fun room => ?_, before.trans d.pays, ?_, (bytes.mono fun a ha => .inl ha).andThen (ended.mono fun a ha => .inr ha),
    d.gate, ?_, by rw [d.orders], ?_, ?_, ?_, ?_⟩
  · have same : wordAt v (outcome r.slot + 4) = wordAt s (outcome r.slot + 4) := bytes.wordAt (by omega) (by omega)
    rw [← same] at room ⊢
    exact d.done room
  · rw [d.left, left, price]
  · rw [d.exposure, becomes.rest]
  · rw [units, becomes.unit]
    exact wound
  · rw [units, becomes.other]
  · rw [d.orders, becomes.orders]
  · rw [d.only, becomes.rest]

/-! ### From the shutter's close (R87) -/

/-- The closing shot's own facts, once its frame f is recorded with a state that is not RESERVED. -/
theorem lastRecorded {l : List (Int × Nat)} {q : Nat} (h : ClosingLastFrame s r.back r f e) (hu : ClosesReady r.back s u)
    (memory : MemoryOk t) (units : ∀ p, t.back p = u.back p) (control : t.control = u.control)
    (recorded : t.orders.recorded = u.orders.recorded) (shot : t.gate.shot = some (markRecorded f.frame { r with tally := l }))
    (hq : q ≠ 1) (frames : ∀ y j, frameCode t y j = if frameRecord y j = frameRecord (shotSheet r) f.frame then q else frameCode u y j)
    (account : accountIndex t r.slot = accountIndex u r.slot) :
    LastRecorded r.back (markRecorded f.frame { r with tally := l }) t := by
  obtain ⟨-, ⟨-, -, stand, -, -⟩, -, -, -, -, -, live, -, -, -, -, -, index, ha, hand, -, others⟩ := h
  obtain ⟨⟨z, becomes, closed⟩, bytes, -⟩ := hu
  have hn := r.slot.isLt
  have hs := slotBase_eq r.slot
  have hbo := backOffset_bounds r.back
  have kept : Keeps FrameByte s u := fun a ha => bytes a (by
    have := frameByte_bounds ha
    omega)
  have accountU : accountIndex u r.slot = accountIndex s r.slot := bytes.byteAt (by omega)
  refine ⟨memory, shot, ?_, fun g hg => ?_, ?_, ?_, ?_, ?_, ?_, index⟩
  · refine List.all_eq_true.mpr fun g hg => ?_
    obtain ⟨g', hg', rfl⟩ := List.mem_map.mp hg
    by_cases same : g'.frame = f.frame
    · rw [if_pos same]
    · rw [if_neg same]
      exact (others g' hg' same).1
  · obtain ⟨g', hg', rfl⟩ := List.mem_map.mp hg
    have number : (if g'.frame = f.frame then { g' with recorded := true } else g').frame = g'.frame := by split <;> rfl
    rw [number]
    show frameCode t (shotSheet r) g'.frame ≠ 1
    rw [frames]
    by_cases same : frameRecord (shotSheet r) g'.frame = frameRecord (shotSheet r) f.frame
    · rw [if_pos same]
      exact hq
    · rw [if_neg same, frameCode_kept kept]
      exact (others g' hg' fun c => same (by rw [c])).2
  · show (t.back r.back).state = .ready
    rw [units, becomes.unit]
    exact closed.state
  · show (t.back r.back).live = some r.which
    rw [units, becomes.unit, closed.live]
    exact live
  · show recordedHand t r.slot = .taken
    have same : recordedHand t r.slot = recordedHand s r.slot := by
      unfold recordedHand
      rw [recorded, becomes.orders]
    exact same.trans hand
  · rw [control, becomes.control]
    exact stand
  · show accountIndex t r.slot ≤ 63
    rw [account, accountU]
    exact ha

end Sys2Proof.Proofs
end

section
/-! SUPPORT. The last frame of a shot, good: what its recording leaves, told from the shutter's close on (R61, R156, R175). -/

namespace Sys2Proof.Proofs

open Sys2Proof Sys2Proof.Machine Sys2Proof.Safety Sys2Proof.Laws Sys2Proof.Claims

variable {s t u v : State} {n m : Slot} {bk : Back} {w : Which} {sh y : Sheet} {i j k x : Nat} {r : ShotRecord} {f : SetFrame}
  {c : SpoilCause} {e : OrderEntry}

/-- What a good frame leaves after its recording, from s, the state at the shutter's close. -/
structure GoodSince (r : ShotRecord) (f : SetFrame) (x : Nat) (s t : State) : Prop where
  code : frameCode t (shotSheet r) f.frame = 2
  counter : sequenceCounter t = if sequenceCounter s < 16777215 then sequenceCounter s + 1 else 1
  sequence : frameSequence t (shotSheet r) f.frame = sequenceCounter t
  counts : ExposedCounts s t r
  label : LabelEnters s t (shotSheet r) f.frame
  lamp : t.lamp = { s.lamp with faultCount := 0 }

/-- The label's sources lie apart from what the end of a shot writes. -/
theorem sourced_shotOver (h : ShotOver bk r t u) (ha : accountIndex t r.slot ≤ 63) (hs : LabelSourced t sh k) :
    Keeps (SourceBytes t sh k) t u := by
  intro a hsrc
  have hn := r.slot.isLt
  have ho := outcome_eq r.slot
  have hio := shotOutcome_eq r.slot r.shot
  have hb := accountBase_eq (accountIndex t r.slot)
  have hbo := backOffset_bounds bk
  have hf := frameRecord_eq sh k
  have hi := sheetIndex_lt sh
  have hsb := sheetBase_eq sh
  have hn' := (frameSlot t sh k).isLt
  have hs' := slotBase_eq (frameSlot t sh k)
  have hb' := accountBase_eq (accountIndex t (frameSlot t sh k))
  have account := hs.2.2.1
  exact h.bytes a (by omega)

theorem goodSince_ready (hu : ClosesReady bk s u) (h : GoodRecorded r f x u t) (ha : accountIndex s r.slot ≤ 63)
    (code : frameCode t (shotSheet r) f.frame = 2) : GoodSince r f x s t := by
  have hn := r.slot.isLt
  have hs := slotBase_eq r.slot
  have ho := outcome_eq r.slot
  have hio := shotOutcome_eq r.slot r.shot
  have hb := accountBase_eq (accountIndex s r.slot)
  have hbo := backOffset_bounds bk
  have hf := frameRecord_eq (shotSheet r) f.frame
  have hi := sheetIndex_lt (shotSheet r)
  have hsb := sheetBase_eq (shotSheet r)
  have hr : Config.report = 0x5D00 := rfl
  obtain ⟨⟨z, becomes, -⟩, bytes, -⟩ := hu
  have labels : u.labels = s.labels := by rw [becomes.rest]
  have lamp : u.lamp = s.lamp := by rw [becomes.rest]
  have counter : sequenceCounter u = sequenceCounter s := bytes.longAt (by omega) (by omega) (by omega)
  have waiting : waitingCount u = waitingCount s := bytes.byteAt (a := 0x5D0B) (by omega)
  have account : accountIndex u r.slot = accountIndex s r.slot := bytes.byteAt (by omega)
  refine ⟨code, by rw [h.counter, counter], h.sequence, ?_, ?_, by rw [h.lamp, lamp]⟩
  · obtain ⟨shot, order, sheet, frames⟩ := h.counts
    have shotU : byteAt u (shotOutcome r.slot r.shot + 5) = byteAt s (shotOutcome r.slot r.shot + 5) := bytes.byteAt (by omega)
    have orderU : framesExposed u r.slot = framesExposed s r.slot := bytes.wordAt (by omega) (by omega)
    have sheetU : exposedCount u (shotSheet r) = exposedCount s (shotSheet r) := bytes.byteAt (by omega)
    have framesU : accountFrames u (accountIndex s r.slot) = accountFrames s (accountIndex s r.slot) :=
      bytes.longAt (by omega) (by omega) (by omega)
    change exposedCount u (shotSheet r) < 255 → exposedCount t (shotSheet r) = exposedCount u (shotSheet r) + 1 at sheet
    rw [shotU] at shot
    rw [orderU] at order
    rw [sheetU] at sheet
    rw [account, framesU] at frames
    exact ⟨shot, order, sheet, frames⟩
  · obtain ⟨queued, waits⟩ := h.label
    rw [labels, waiting] at queued waits
    refine ⟨fun room idle => ?_, waits⟩
    obtain ⟨hc, hw, hq, hp, hl⟩ := queued room idle
    refine ⟨hc, hw, hq, hp, fun sourced => hl ?_⟩
    have hn' := (frameSlot s (shotSheet r) f.frame).isLt
    have hs' := slotBase_eq (frameSlot s (shotSheet r) f.frame)
    exact (labelSourced_kept sourced fun a ha => bytes a (by omega)).1

theorem goodSince_over (h : GoodSince r f x s t) (o : ShotOver r.back (withExposed f r) t u)
    (account : accountIndex t r.slot = accountIndex s r.slot)
    (ha : accountIndex s r.slot ≤ 63) (sources : LabelSourced s (shotSheet r) f.frame → LabelSourced t (shotSheet r) f.frame) :
    GoodSince r f x s u := by
  have hn := r.slot.isLt
  have hs := slotBase_eq r.slot
  have ho := outcome_eq r.slot
  have hio := shotOutcome_eq r.slot r.shot
  have hb := accountBase_eq (accountIndex s r.slot)
  have hbo := backOffset_bounds r.back
  have hf := frameRecord_eq (shotSheet r) f.frame
  have hi := sheetIndex_lt (shotSheet r)
  have hsb := sheetBase_eq (shotSheet r)
  have hr : Config.report = 0x5D00 := rfl
  have bytes : Writes (ShotOverBytes r.back r (accountIndex s r.slot)) t u := account ▸ o.bytes
  have kept : Keeps (fun a => FrameByte a ∨ within 0x5D0A 2 a) t u := fun a hk => bytes a (by
    rcases hk with hk | hk
    · have := frameByte_bounds hk
      omega
    · omega)
  have labels : u.labels = t.labels := by rw [o.only]
  have counter : sequenceCounter u = sequenceCounter t := bytes.longAt (by omega) (by omega) (by omega)
  refine ⟨(frameCode_kept (fun a hk => kept a (.inl hk)) _ _).trans h.code, counter.trans h.counter, ?_, ?_,
    labelEnters_kept h.label (fun sourced => ⟨sources sourced, sourced_shotOver o (account ▸ ha) (sources sourced)⟩) kept labels, ?_⟩
  · rw [counter, ← h.sequence]
    exact bytes.longAt (by omega) (by omega) (by omega)
  · obtain ⟨shot, order, sheet, frames⟩ := h.counts
    have sheetU : exposedCount u (shotSheet r) = exposedCount t (shotSheet r) := bytes.byteAt (by omega)
    refine ⟨fun full => (bytes.byteAt (by omega)).trans (shot full), fun full => (bytes.wordAt (by omega) (by omega)).trans (order full),
      fun full => sheetU.trans (sheet full), Eq.trans ?_ frames⟩
    exact bytes.longAt (by omega) (by omega) (by omega)
  · rw [o.only]
    exact h.lamp

end Sys2Proof.Proofs
end

section
/-! SUPPORT. The last frame of a shot ends it (R41, R42, R62, R65, R85). -/

namespace Sys2Proof.Proofs

open Sys2Proof Sys2Proof.Machine Sys2Proof.Safety Sys2Proof.Laws Sys2Proof.Claims

variable {s t u v : State} {n m : Slot} {bk : Back} {w : Which} {sh y : Sheet} {i j k x : Nat} {r r' : ShotRecord} {f : SetFrame}
  {c : SpoilCause} {e : OrderEntry} {sub : SubState}

/-- The back after the shot's last frame, from its close through the recording to its wind-on. -/
theorem backAfterUse (hu : ClosesReady bk s u) (units : ∀ p, t.back p = u.back p)
    (wound : UnitWound ((t.back bk).gateFrame = capacity t ⟨bk, r.which⟩) (autoRewind t = true) (t.back bk) (v.back bk))
    (other : v.back (otherBack bk) = t.back (otherBack bk)) (room : capacity t ⟨bk, r.which⟩ = capacity s ⟨bk, r.which⟩)
    (auto : autoRewind t = autoRewind s)
    (live : (s.back bk).live = some r.which) (gateFrame : (s.back bk).gateFrame = k) (hk : k ≤ capacity s ⟨bk, r.which⟩) :
    BackAfterUse s v bk r.which k := by
  obtain ⟨⟨z, becomes, closed⟩, -, -⟩ := hu
  obtain ⟨state, origin, frame, live', readyAt, shutter⟩ := wound
  have unit : t.back bk = z := (units bk).trans becomes.unit
  have at_k : z.gateFrame = k := closed.gateFrame.trans gateFrame
  rw [unit] at state origin frame live' readyAt shutter
  rw [room, auto, at_k] at state origin
  refine ⟨?_, ?_, frame.trans at_k, live'.trans (closed.live.trans live), readyAt.trans closed.readyAt, ?_, ?_⟩
  · rw [state]
    by_cases ends : k = capacity s ⟨bk, r.which⟩
    · rw [if_pos ends, if_neg (c := k < capacity s ⟨bk, r.which⟩) (by omega)]
    · rw [if_neg ends, if_pos (c := k < capacity s ⟨bk, r.which⟩) (by omega)]
  · rw [origin]
    by_cases ends : k = capacity s ⟨bk, r.which⟩
    · by_cases rewinds : autoRewind s = true
      · rw [if_pos ⟨ends, rewinds⟩, if_neg fun c => c.elim (by omega) (by rw [rewinds]; decide)]
      · rw [if_neg fun c => rewinds c.2, if_pos (.inr (Bool.eq_false_of_not_eq_true rewinds))]
    · rw [if_neg fun c => ends c.1, if_pos (.inl (by omega))]
  · rw [shutter]
    exact closed.outstanding
  · exact other.trans ((units _).trans becomes.other)

/-- Two changes of one order are one. -/
theorem orderEnters_map {g : OrderEntry → OrderEntry} (slots : ∀ o, (g o).slot = o.slot) {l : List OrderEntry} :
    ((l.map fun o => if o.slot = n then g o else o).map fun o => if o.slot = n then { o with sub := sub } else o)
      = l.map fun o => if o.slot = n then { g o with sub := sub } else o := by
  rw [List.map_map]
  refine List.map_congr_left fun o _ => ?_
  dsimp only [Function.comp_apply]
  by_cases h : o.slot = n
  · rw [if_pos h, if_pos h, if_pos ((slots o).trans h)]
  · rw [if_neg h, if_neg h, if_neg h]

/-- The shots that are PENDING beside the one at the gate, as a recording keeps them. -/
theorem anotherShotPends_kept (h : Keeps (fun a => within (slotBase r.slot + 0x0A) 2 a ∨ ∃ i, a = shotOutcome r.slot i) s t)
    (slot : r'.slot = r.slot) (shot : r'.shot = r.shot) : AnotherShotPends t r' ↔ AnotherShotPends s r := by
  have count : shotCount t r.slot = shotCount s r.slot := h.wordAt (.inl (by omega)) (.inl (by omega))
  have codes (j : Nat) : shotCode t r.slot j = shotCode s r.slot j := h.byteAt (.inr ⟨j, rfl⟩)
  unfold AnotherShotPends
  rw [slot, shot, count]
  simp only [codes]

/-! ### A good last frame -/

/-- The state at which a good last frame has been recorded. -/
structure GoodLast (r : ShotRecord) (f : SetFrame) (e : OrderEntry) (s u t : State) : Prop where
  closed : ClosesReady r.back s u
  recorded : GoodRecorded r f (framePrice s (orderProfile s r.slot)) u t
  last : LastRecorded r.back (withExposed f r) t
  order : findOrder t r.slot = some (oneLabelMore e)
  runList : t.orders.runList = s.orders.runList.map fun o => if o.slot = r.slot then oneLabelMore o else o
  pends : AnotherShotPends t (withExposed f r) ↔ AnotherShotPends s r
  bytes : Writes (fun a => a = 0x5D00 + backOffset r.back ∨ GoodBytes r f (accountIndex s r.slot) a) s t

theorem goodLast (hm : MemoryOk s) (h : ClosingLastFrame s r.back r f e) (good : r.result = .good)
    (slot : frameSlot s (shotSheet r) f.frame = r.slot) :
    GoodLast r f e s (closedReady r.back s) (recordFrame (closedReady r.back s)) := by
  have closes := closesReady (bk := r.back) hm
  obtain ⟨-, ⟨shot, -, -, -, next⟩, -, -, -, -, -, -, -, -, hk, -, -, index, ha, -, he, -⟩ := id h
  have hn := r.slot.isLt
  have hs := slotBase_eq r.slot
  have ho := outcome_eq r.slot
  have hio := shotOutcome_eq r.slot r.shot
  have hb := accountBase_eq (accountIndex s r.slot)
  have hf := frameRecord_eq (shotSheet r) f.frame
  have hi := sheetIndex_lt (shotSheet r)
  have hsb := sheetBase_eq (shotSheet r)
  have hbo := backOffset_bounds r.back
  have hp : Config.prices = 0x5900 := rfl
  obtain ⟨⟨z, becomes, -⟩, bytes, -⟩ := id closes
  have memory := closes.memory
  have account : accountIndex (closedReady r.back s) r.slot = accountIndex s r.slot := bytes.byteAt (by omega)
  have room : capacity (closedReady r.back s) (shotSheet r) = capacity s (shotSheet r) := bytes.byteAt (by omega)
  have fits : f.frame ≤ capacity (closedReady r.back s) (shotSheet r) := room ▸ hk
  have profile : orderProfile (closedReady r.back s) r.slot = orderProfile s r.slot := bytes.byteAt (by omega)
  have bound : orderProfile s r.slot < 256 := byteAt_lt s (slotBase r.slot + 7)
  have price : framePrice (closedReady r.back s) (orderProfile (closedReady r.back s) r.slot) = framePrice s (orderProfile s r.slot) := by
    rw [profile]
    exact price_kept fun a hk => bytes a (by omega)
  have slotU : frameSlot (closedReady r.back s) (shotSheet r) f.frame = r.slot := by
    have same : byteAt (closedReady r.back s) (frameRecord (shotSheet r) f.frame + 1) = byteAt s (frameRecord (shotSheet r) f.frame + 1) :=
      bytes.byteAt (by omega)
    rw [← slot]
    unfold frameSlot
    simp only [same]
  have shotU : (closedReady r.back s).gate.shot = some r := by rw [becomes.rest]; exact shot
  have ordersU : (closedReady r.back s).orders = s.orders := becomes.orders
  have recorded := goodRecorded (f := f) memory fits (by rw [account]; exact ha)
  rw [recordFrame_good shotU next good]
  rw [price] at recorded
  generalize closedReady r.back s = u at *
  generalize recordExposed r f u = t at *
  have written := recorded.bytes
  rw [account] at written
  have only := recorded.only
  have orders := recorded.orders
  rw [slotU] at orders
  have list : t.orders.runList = s.orders.runList.map fun o => if o.slot = r.slot then oneLabelMore o else o := by
    rw [orders, updateOrder_orders_congr ordersU]
    rfl
  refine ⟨closes, recorded, ?_, ?_, list, ?_, (bytes.mono fun a hk => .inl hk).andThen (written.mono fun a hk => .inr hk)⟩
  · refine lastRecorded h closes recorded.memory (fun p => ?_) (by rw [only]) (by rw [orders]; rfl) (by rw [recorded.gate]; rfl)
      (q := 2) (by decide) recorded.frames recorded.pays.account
    rw [only]
    cases p <;> rfl
  · have found : findOrder (updateOrder r.slot oneLabelMore s) r.slot = some (oneLabelMore e) := by
      rw [findOrder_updateOrder (g := oneLabelMore) fun _ => rfl, he]
      exact congrArg some (if_pos (findOrder_some he).2)
    exact (findOrder_of_orders (by rw [list]; rfl)).trans found
  · refine anotherShotPends_kept (fun a hk => ((written a ?_).trans (bytes a ?_))) rfl rfl
    · rcases hk with hk | ⟨i, hk⟩
      · omega
      · have := shotOutcome_eq r.slot i
        omega
    · rcases hk with hk | ⟨i, hk⟩
      · omega
      · have := shotOutcome_eq r.slot i
        omega

end Sys2Proof.Proofs
end

section
/-! SUPPORT. The last frame of a shot, good or cut, as the statements say it (R41, R42, R62, R65, R85). -/

namespace Sys2Proof.Proofs

open Sys2Proof Sys2Proof.Machine Sys2Proof.Safety Sys2Proof.Laws Sys2Proof.Claims

variable {s t u v : State} {n m : Slot} {bk : Back} {w : Which} {sh y : Sheet} {i j k x : Nat} {r : ShotRecord} {f : SetFrame}
  {c : SpoilCause} {e : OrderEntry} {sub : SubState}

/-- What a good last frame leaves when its order goes on. -/
theorem goodLast_over (h : ClosingLastFrame s r.back r f e) (g : GoodLast r f e s u t) (o : ShotOver r.back (withExposed f r) t v)
    (byte : byteAt v (outcome r.slot + 1) = sub.code)
    (list : v.orders.runList = t.orders.runList.map fun o => if o.slot = r.slot then { o with sub := sub } else o) :
    GoodSince r f (framePrice s (orderProfile s r.slot)) s v
      ∧ ShotEnded s v r (r.tally.length + 1) ∧ BackAfterUse s v r.back r.which f.frame
      ∧ (∀ x y, x = framePrice s (orderProfile s r.slot) → y = (r.planned - (r.tally.length + 1)) * (x + labelPrice s) →
          AmountsHold s r.slot x y → ChargedAndReleased s v r.slot x y)
      ∧ OrderEnters s v r.slot sub 1 ∧ KeepsBytes s v (LastFrameWrites s r f)
      ∧ v = { s with mem := v.mem, gate := v.gate, backA := v.backA, backB := v.backB, orders := v.orders
                     labels := v.labels, lamp := v.lamp, exposure := v.exposure } := by
  obtain ⟨-, -, -, -, -, -, -, live, gateFrame, -, hk, -, -, index, ha, -, -, -⟩ := h
  obtain ⟨closed, recorded, last, -, lists, -, bytes⟩ := g
  have hn := r.slot.isLt
  have hs := slotBase_eq r.slot
  have ho := outcome_eq r.slot
  have hio := shotOutcome_eq r.slot r.shot
  have hb := accountBase_eq (accountIndex s r.slot)
  have hf := frameRecord_eq (shotSheet r) f.frame
  have hi := sheetIndex_lt (shotSheet r)
  have hsb := sheetBase_eq (shotSheet r)
  have hbo := backOffset_bounds r.back
  have hp : Config.prices = 0x5900 := rfl
  have hset : Config.settings = 0x5C00 := rfl
  have account : accountIndex t r.slot = accountIndex s r.slot := bytes.byteAt (by omega)
  have after : Writes (ShotOverBytes r.back r (accountIndex s r.slot)) t v := account ▸ o.bytes
  have length : (withExposed f r).tally.length = r.tally.length + 1 := by
    show (r.tally ++ [(f.position, f.copy)]).length = _
    rw [List.length_append, List.length_singleton]
  obtain ⟨⟨z, becomes, -⟩, early, -⟩ := id closed
  have alone : t = { s with mem := t.mem, gate := t.gate, backA := t.backA, backB := t.backB, orders := t.orders
                            labels := t.labels, lamp := t.lamp } := by
    rw [recorded.only, becomes.rest]
  have units (p : Back) : t.back p = u.back p := by
    rw [recorded.only]
    cases p <;> rfl
  have code : frameCode t (shotSheet r) f.frame = 2 := (recorded.frames _ _).trans (if_pos rfl)
  refine ⟨goodSince_over (goodSince_ready closed recorded ha code) o account ha fun sourced => ?_, ⟨?_, fun room => ?_, o.gate, o.choice, ?_⟩,
    backAfterUse (r := withExposed f r) closed units o.wound o.other ?_ ?_ live gateFrame hk, fun x y hx hy hold => ?_, ⟨?_, byte⟩, ?_, ?_⟩
  · have hn' := (frameSlot s (shotSheet r) f.frame).isLt
    have hs' := slotBase_eq (frameSlot s (shotSheet r) f.frame)
    exact (labelSourced_kept sourced fun a hk => bytes a (by omega)).1
  · rw [← length]
    exact o.code
  · have same : wordAt t (outcome r.slot + 4) = wordAt s (outcome r.slot + 4) := bytes.wordAt (by omega) (by omega)
    rw [← same] at room ⊢
    exact o.done room
  · rw [o.exposure, alone]
  · exact (bytes.byteAt (by omega) : capacity t (shotSheet r) = capacity s (shotSheet r))
  · exact autoRewind_kept fun a hk => bytes a (by omega)
  · have accountU : accountIndex u r.slot = accountIndex s r.slot := early.byteAt (by omega)
    have before : Pays r.slot 0 s u := .kept fun a hk => early a (by omega)
    have total := (before.trans recorded.pays).trans o.pays
    rw [Nat.zero_add, ← hx] at total
    have leftU : remaining u r.slot = remaining s r.slot := early.longAt (by omega) (by omega) (by omega)
    have price : positionPrice t r.slot = x + labelPrice s := by
      rw [hx]
      exact positionPrice_kept fun a hk => bytes a (by omega)
    have left : remaining v r.slot = remaining s r.slot - (x + y) := by
      have owed := o.left
      change remaining v r.slot = remaining t r.slot - missingPairs (withExposed f r) * positionPrice t r.slot at owed
      rw [owed, price, recorded.left, leftU, ← hx, hy, Nat.sub_sub]
      unfold missingPairs
      rw [length]
      rfl
    refine chargedAndReleased total left ?_ hold
    have spends := recorded.spent
    rw [accountU, ← hx] at spends
    exact spends.carry (fun a hk => early a (by omega)) fun a hk => after a (by omega)
  · rw [list, lists, orderEnters_map (g := oneLabelMore) fun _ => rfl]
    rfl
  · have frame : frameRecord ⟨r.back, r.which⟩ f.frame = frameRecord (shotSheet r) f.frame := rfl
    have sheet : sheetBase ⟨r.back, r.which⟩ = sheetBase (shotSheet r) := rfl
    exact (bytes.mono fun a hk => by omega).andThen (after.mono fun a hk => by omega)
  · rw [o.only, alone]

end Sys2Proof.Proofs
end

section
/-! SUPPORT. A cut last frame ends its shot (R41, R42, R61, R63, R65, R85). -/

namespace Sys2Proof.Proofs

open Sys2Proof Sys2Proof.Machine Sys2Proof.Safety Sys2Proof.Laws Sys2Proof.Claims

variable {s t u v : State} {n m : Slot} {bk : Back} {w : Which} {sh y : Sheet} {i j k x : Nat} {r : ShotRecord} {f : SetFrame}
  {c : SpoilCause} {e : OrderEntry} {sub : SubState}

/-- The state at which a cut last frame has been recorded. -/
structure CutLast (r : ShotRecord) (f : SetFrame) (c : SpoilCause) (e : OrderEntry) (s u t : State) : Prop where
  closed : ClosesReady r.back s u
  recorded : CutRecorded r f c u t
  last : LastRecorded r.back (markRecorded f.frame r) t
  orders : t.orders = s.orders
  pends : AnotherShotPends t (markRecorded f.frame r) ↔ AnotherShotPends s r
  bytes : Writes (fun a => a = 0x5D00 + backOffset r.back ∨ SpoiledBytes r f a) s t

theorem cutLast (hm : MemoryOk s) (h : ClosingLastFrame s r.back r f e) (cut : r.result = .spoiled c) (low : s.lamp.faultCount ≤ 1)
    (none : 2 ≤ r.reshoots ∨ capacity s (shotSheet r) ≤ framesUsed s (shotSheet r)) :
    CutLast r f c e s (closedReady r.back s) (recordFrame (closedReady r.back s)) := by
  have closes := closesReady (bk := r.back) hm
  obtain ⟨-, ⟨shot, -, -, -, next⟩, -⟩ := id h
  have hn := r.slot.isLt
  have hs := slotBase_eq r.slot
  have ho := outcome_eq r.slot
  have hio := shotOutcome_eq r.slot r.shot
  have hf := frameRecord_eq (shotSheet r) f.frame
  have hi := sheetIndex_lt (shotSheet r)
  have hsb := sheetBase_eq (shotSheet r)
  have hbo := backOffset_bounds r.back
  obtain ⟨⟨z, becomes, -⟩, bytes, -⟩ := id closes
  have memory := closes.memory
  have room : capacity (closedReady r.back s) (shotSheet r) = capacity s (shotSheet r) := bytes.byteAt (by omega)
  have used : framesUsed (closedReady r.back s) (shotSheet r) = framesUsed s (shotSheet r) := bytes.byteAt (by omega)
  have shotU : (closedReady r.back s).gate.shot = some r := by rw [becomes.rest]; exact shot
  have ordersU : (closedReady r.back s).orders = s.orders := becomes.orders
  have lampU : (closedReady r.back s).lamp = s.lamp := by rw [becomes.rest]
  have recorded := cutRecorded (r := r) (f := f) (c := c) memory (by rw [lampU]; exact low) (by rw [room, used]; exact none)
  rw [recordFrame_spoiled shotU next cut]
  generalize closedReady r.back s = u at *
  generalize recordSpoiled r f c u = t at *
  have written := recorded.bytes
  have only := recorded.only
  have account : accountIndex t r.slot = accountIndex u r.slot := written.byteAt (by omega)
  refine ⟨closes, recorded, ?_, by rw [only]; exact ordersU, ?_, (bytes.mono fun a hk => .inl hk).andThen (written.mono fun a hk => .inr hk)⟩
  · refine lastRecorded (l := r.tally) h closes recorded.memory (fun p => ?_) (by rw [only]) (by rw [only]) (by rw [recorded.gate])
      (q := 3) (by decide) recorded.frames account
    rw [only]
    cases p <;> rfl
  · refine anotherShotPends_kept (fun a hk => ((written a ?_).trans (bytes a ?_))) rfl rfl
    · rcases hk with hk | ⟨i, hk⟩
      · omega
      · have := shotOutcome_eq r.slot i
        omega
    · rcases hk with hk | ⟨i, hk⟩
      · omega
      · have := shotOutcome_eq r.slot i
        omega

/-- What a cut last frame shows whether or not its order goes on. -/
structure CutShown (r : ShotRecord) (f : SetFrame) (c : SpoilCause) (s t : State) : Prop where
  code : frameCode t (shotSheet r) f.frame = 3
  cause : byteAt t (frameRecord (shotSheet r) f.frame + 1) / 16 % 8 = c.code
  counter : sequenceCounter t = sequenceCounter s
  ended : ShotEnded s t r r.tally.length
  back : BackAfterUse s t r.back r.which f.frame

/-- What the wind-on and the end of a shot show whether or not its order goes on. -/
structure ShotTail (bk : Back) (r : ShotRecord) (s t : State) : Prop where
  code : shotCode t r.slot r.shot = if r.planned ≤ r.tally.length then 1 else 2
  done : wordAt s (outcome r.slot + 4) < 65535 → wordAt t (outcome r.slot + 4) = wordAt s (outcome r.slot + 4) + 1
  gate : t.gate = Gate.reset
  exposure : t.exposure = { s.exposure with holder := none }
  choice : t.orders.choice = none
  wound : UnitWound ((s.back bk).gateFrame = capacity s ⟨bk, r.which⟩) (autoRewind s = true) (s.back bk) (t.back bk)
  other : t.back (otherBack bk) = s.back (otherBack bk)
  bytes : Writes (fun a => ShotOverBytes bk r (accountIndex s r.slot) a ∨ CompleteBytes r.slot (accountIndex s r.slot) a) s t

theorem ShotOver.tail (o : ShotOver bk r s t) : ShotTail bk r s t :=
  ⟨o.code, o.done, o.gate, o.exposure, o.choice, o.wound, o.other, Writes.mono o.bytes fun _ ha => .inl ha⟩

theorem ShotCompletes.tail (o : ShotCompletes r e v t) (h : Winds bk r.which (s.back bk) s v) : ShotTail bk r s t := by
  have hn := r.slot.isLt
  have hs := slotBase_eq r.slot
  have ho := outcome_eq r.slot
  have hbo := backOffset_bounds bk
  obtain ⟨⟨z, becomes, wound⟩, bytes, -⟩ := h
  have account : accountIndex v r.slot = accountIndex s r.slot := bytes.byteAt (by omega)
  have ended := o.bytes
  rw [account] at ended
  have units (p : Back) : t.back p = v.back p := by cases p <;> [exact o.backs.1; exact o.backs.2]
  refine ⟨o.code, fun room => ?_, o.gate, ?_, o.choice, ?_, ?_, (bytes.mono fun a ha => .inl (.inl ha)).andThen (ended.mono fun a ha => ?_)⟩
  · have same : wordAt v (outcome r.slot + 4) = wordAt s (outcome r.slot + 4) := bytes.wordAt (by omega) (by omega)
    rw [← same] at room ⊢
    exact o.done room
  · rw [o.exposure, becomes.rest]
  · rw [units, becomes.unit]
    exact wound
  · rw [units, becomes.other]
  · rcases ha with ha | ha
    · exact .inl (.inr (.inl ha))
    · exact .inr ha

theorem cutShown (h : ClosingLastFrame s r.back r f e) (g : CutLast r f c e s u t) (o : ShotTail r.back (markRecorded f.frame r) t v) :
    CutShown r f c s v := by
  obtain ⟨-, -, -, -, -, -, -, live, gateFrame, -, hk, -, -, index, ha, -, -, -⟩ := h
  obtain ⟨closed, recorded, last, -, -, bytes⟩ := g
  have hn := r.slot.isLt
  have hs := slotBase_eq r.slot
  have ho := outcome_eq r.slot
  have hio := shotOutcome_eq r.slot r.shot
  have hb := accountBase_eq (accountIndex s r.slot)
  have hf := frameRecord_eq (shotSheet r) f.frame
  have hi := sheetIndex_lt (shotSheet r)
  have hsb := sheetBase_eq (shotSheet r)
  have hbo := backOffset_bounds r.back
  have hset : Config.settings = 0x5C00 := rfl
  have hr : Config.report = 0x5D00 := rfl
  have account : accountIndex t r.slot = accountIndex s r.slot := bytes.byteAt (by omega)
  have after : Writes (fun a => ShotOverBytes r.back r (accountIndex s r.slot) a ∨ CompleteBytes r.slot (accountIndex s r.slot) a) t v :=
    account ▸ o.bytes
  obtain ⟨⟨z, becomes, -⟩, -, -⟩ := id closed
  have exposure : t.exposure = s.exposure := by rw [recorded.only, becomes.rest]
  have units (p : Back) : t.back p = u.back p := by
    rw [recorded.only]
    cases p <;> rfl
  have kept : Keeps FrameByte t v := fun a ha => after a (by
    have := frameByte_bounds ha
    omega)
  refine ⟨(frameCode_kept kept _ _).trans ((recorded.frames _ _).trans (if_pos rfl)), ?_, ?_,
    ⟨o.code, fun room => ?_, o.gate, o.choice, by rw [o.exposure, exposure]⟩,
    backAfterUse (r := markRecorded f.frame r) closed units o.wound o.other ?_ ?_ live gateFrame hk⟩
  · rw [after.byteAt (by omega)]
    exact recorded.cause
  · exact (after.longAt (by omega) (by omega) (by omega)).trans (bytes.longAt (by omega) (by omega) (by omega))
  · have same : wordAt t (outcome r.slot + 4) = wordAt s (outcome r.slot + 4) := bytes.wordAt (by omega) (by omega)
    rw [← same] at room ⊢
    exact o.done room
  · exact (bytes.byteAt (by omega) : capacity t (shotSheet r) = capacity s (shotSheet r))
  · exact autoRewind_kept fun a hk => bytes a (by omega)

end Sys2Proof.Proofs
end

section
/-! SUPPORT. The last frame of a shot, good or cut, and its order (R41, R42, R62, R65, R85). -/

namespace Sys2Proof.Proofs

open Sys2Proof Sys2Proof.Machine Sys2Proof.Safety Sys2Proof.Laws Sys2Proof.Claims

variable {s t u v w : State} {n m : Slot} {bk : Back} {i j k x : Nat} {r : ShotRecord} {f : SetFrame}
  {c : SpoilCause} {e : OrderEntry} {sub : SubState}

/-- A cut last frame whose order goes on. -/
theorem cutLast_over (h : ClosingLastFrame s r.back r f e) (g : CutLast r f c e s u t) (o : ShotOver r.back (markRecorded f.frame r) t v)
    (byte : byteAt v (outcome r.slot + 1) = sub.code)
    (list : v.orders.runList = t.orders.runList.map fun o => if o.slot = r.slot then { o with sub := sub } else o) :
    (∀ y, y = (r.planned - r.tally.length) * positionPrice s r.slot → y ≤ remaining s r.slot → y ≤ committed s (accountIndex s r.slot) →
        remaining v r.slot = remaining s r.slot - y
          ∧ committed v (accountIndex s r.slot) = committed s (accountIndex s r.slot) - y
          ∧ charged v r.slot = charged s r.slot ∧ spent v (accountIndex s r.slot) = spent s (accountIndex s r.slot))
      ∧ OrderEnters s v r.slot sub 0 ∧ KeepsBytes s v (LastFrameWrites s r f)
      ∧ v = { s with mem := v.mem, gate := v.gate, backA := v.backA, backB := v.backB, orders := v.orders
                     lamp := v.lamp, exposure := v.exposure } := by
  obtain ⟨-, -, -, -, -, -, -, -, -, -, -, -, -, index, ha, -, -, -⟩ := h
  obtain ⟨closed, recorded, -, orders, -, bytes⟩ := g
  have hn := r.slot.isLt
  have hs := slotBase_eq r.slot
  have ho := outcome_eq r.slot
  have hio := shotOutcome_eq r.slot r.shot
  have hb := accountBase_eq (accountIndex s r.slot)
  have hf := frameRecord_eq (shotSheet r) f.frame
  have hi := sheetIndex_lt (shotSheet r)
  have hsb := sheetBase_eq (shotSheet r)
  have hbo := backOffset_bounds r.back
  have hp : Config.prices = 0x5900 := rfl
  have account : accountIndex t r.slot = accountIndex s r.slot := bytes.byteAt (by omega)
  have after : Writes (ShotOverBytes r.back r (accountIndex s r.slot)) t v := account ▸ o.bytes
  obtain ⟨⟨z, becomes, -⟩, -, -⟩ := id closed
  have alone : t = { s with mem := t.mem, gate := t.gate, backA := t.backA, backB := t.backB, lamp := t.lamp } := by
    rw [recorded.only, becomes.rest]
  refine ⟨fun y hy covered owes => ?_, ⟨?_, byte⟩, ?_, ?_⟩
  · have before : Pays r.slot 0 s t := .kept fun a hk => bytes a (by omega)
    have total := before.trans o.pays
    have leftT : remaining t r.slot = remaining s r.slot := bytes.longAt (by omega) (by omega) (by omega)
    have price : positionPrice t r.slot = positionPrice s r.slot := positionPrice_kept fun a hk => bytes a (by omega)
    have left : remaining v r.slot = remaining s r.slot - y := by
      have owed := o.left
      change remaining v r.slot = remaining t r.slot - missingPairs r * positionPrice t r.slot at owed
      rw [owed, price, leftT, hy]
      rfl
    have owed := total.owed
    have spends := total.spent.amount
    have := spent_lt s (accountIndex s r.slot)
    have := charged_lt s r.slot
    have charges := total.charged (by omega)
    exact ⟨left, by omega, by omega, by omega⟩
  · rw [list, orders]
    rfl
  · have frame : frameRecord ⟨r.back, r.which⟩ f.frame = frameRecord (shotSheet r) f.frame := rfl
    have sheet : sheetBase ⟨r.back, r.which⟩ = sheetBase (shotSheet r) := rfl
    exact (bytes.mono fun a hk => by omega).andThen (after.mono fun a hk => by omega)
  · rw [o.only, alone]

/-- A cut last frame whose order completes. -/
theorem cutLast_completes (h : ClosingLastFrame s r.back r f e) (g : CutLast r f c e s u t)
    (wound : Winds r.back r.which (t.back r.back) t v) (o : ShotCompletes (markRecorded f.frame r) e v w) :
    recordedHand w r.slot = .done ∧ handFound w r.slot = 3 ∧ flagSet w .orderDone = true
      ∧ byteAt w (outcome r.slot) = (if e.withdrawn = true then 3 else if allComplete w r.slot = true then 1 else 2)
      ∧ w.orders.runList = (s.orders.runList.filter fun o => decide (o.slot ≠ r.slot))
      ∧ CompletionAmounts s w r.slot e.rush 0 := by
  obtain ⟨-, -, -, -, -, -, -, -, -, -, -, -, -, index, ha, -, -, -⟩ := h
  obtain ⟨-, -, -, orders, -, bytes⟩ := g
  obtain ⟨⟨z, becomes, -⟩, winding, -⟩ := wound
  have hn := r.slot.isLt
  have hs := slotBase_eq r.slot
  have ho := outcome_eq r.slot
  have hio := shotOutcome_eq r.slot r.shot
  have hb := accountBase_eq (accountIndex s r.slot)
  have hf := frameRecord_eq (shotSheet r) f.frame
  have hi := sheetIndex_lt (shotSheet r)
  have hsb := sheetBase_eq (shotSheet r)
  have hbo := backOffset_bounds r.back
  have hp : Config.prices = 0x5900 := rfl
  have before : Writes (fun a => a = 0x5D00 + backOffset r.back ∨ SpoiledBytes r f a) s v := bytes.andThen (winding.mono fun a hk => .inl hk)
  have account : accountIndex v r.slot = accountIndex s r.slot := before.byteAt (by omega)
  have left : remaining v r.slot = remaining s r.slot := before.longAt (by omega) (by omega) (by omega)
  have owes : committed v (accountIndex s r.slot) = committed s (accountIndex s r.slot) := before.longAt (by omega) (by omega) (by omega)
  have charges : charged v r.slot = charged s r.slot := before.longAt (by omega) (by omega) (by omega)
  have spends : spent v (accountIndex s r.slot) = spent s (accountIndex s r.slot) := before.longAt (by omega) (by omega) (by omega)
  have marked : saturatedMark v (accountIndex s r.slot) = saturatedMark s (accountIndex s r.slot) := before.wordAt (by omega) (by omega)
  have exposed : framesExposed v r.slot = framesExposed s r.slot := before.wordAt (by omega) (by omega)
  have price : rushSurcharge v = rushSurcharge s := price_kept fun a hk => before a (by omega)
  have lists : v.orders.runList = s.orders.runList := by rw [becomes.orders, orders]
  obtain ⟨gone, owed, paid⟩ := o.amounts
  refine ⟨o.reads.recorded, o.reads.found, o.flag, o.reads.state, ?_, gone, ?_, ?_⟩
  · rw [o.runList, lists]
    rfl
  · change committed w (accountIndex v r.slot) = committed v (accountIndex v r.slot) - remaining v r.slot at owed
    rw [account, owes, left] at owed
    exact owed
  · change ∀ y, y = (if e.rush = true ∧ 1 ≤ framesExposed v r.slot then rushSurcharge v else 0) → charged v r.slot + (0 + y) ≤ 16777215 →
      charged w r.slot = charged v r.slot + (0 + y) ∧ SpentRises v w (accountIndex v r.slot) (0 + y) at paid
    unfold SpentRises at paid
    rw [exposed, price, charges, account, spends, marked] at paid
    exact paid

end Sys2Proof.Proofs
end

section
/-! SUPPORT. The end of a shot after its last frame (R62, R65, R85). -/

namespace Sys2Proof.Proofs

open Sys2Proof Sys2Proof.Machine Sys2Proof.Safety Sys2Proof.Laws Sys2Proof.Claims

variable {s t : State} {r : ShotRecord} {f : SetFrame} {e : OrderEntry} {c : SpoilCause}

theorem ClosingLastFrame.onBack {bk : Back} (h : ClosingLastFrame s bk r f e) : r.back = bk := by
  obtain ⟨-, -, -, back, -⟩ := h
  exact back

theorem ClosingLastFrame.order {bk : Back} (h : ClosingLastFrame s bk r f e) : findOrder s r.slot = some e := by
  obtain ⟨-, -, -, -, -, -, -, -, -, -, -, -, -, -, -, -, order, -⟩ := h
  exact order

/-- What a shot whose last frame is good leaves, with the sub-state that its order enters. -/
structure GoodEnd (r : ShotRecord) (f : SetFrame) (s t : State) (sub : SubState) : Prop where
  since : GoodSince r f (framePrice s (orderProfile s r.slot)) s t
  ended : ShotEnded s t r (r.tally.length + 1)
  back : BackAfterUse s t r.back r.which f.frame
  amounts : ∀ x y, x = framePrice s (orderProfile s r.slot) → y = (r.planned - (r.tally.length + 1)) * (x + labelPrice s) →
    AmountsHold s r.slot x y → ChargedAndReleased s t r.slot x y
  order : OrderEnters s t r.slot sub 1
  bytes : KeepsBytes s t (LastFrameWrites s r f)
  only : t = { s with mem := t.mem, gate := t.gate, backA := t.backA, backB := t.backB, orders := t.orders
                      labels := t.labels, lamp := t.lamp, exposure := t.exposure }

/-- With the frame's label outstanding the order goes on: to its next shot, or to FINISHING. -/
theorem goodEnd (hm : MemoryOk s) (h : ClosingLastFrame s r.back r f e) (good : r.result = .good)
    (slot : frameSlot s (shotSheet r) f.frame = r.slot) :
    (AnotherShotPends s r → GoodEnd r f s (afterRecording r.back (recordFrame (closedReady r.back s))) .waitingRun)
      ∧ (¬ AnotherShotPends s r → GoodEnd r f s (afterRecording r.back (recordFrame (closedReady r.back s))) .finishing) := by
  have g := goodLast hm h good slot
  generalize closedReady r.back s = u at *
  generalize recordFrame u = t at *
  have ends (sub : SubState) (hsub : AnotherShotPends t (withExposed f r) ∧ sub = .waitingRun
      ∨ ¬ AnotherShotPends t (withExposed f r) ∧ 0 < (oneLabelMore e).outstanding ∧ sub = .finishing) :
      GoodEnd r f s (afterRecording r.back t) sub := by
    obtain ⟨v, wound, done, byte, list⟩ := lastFrame_goesOn g.last g.order hsub
    have gone := shotOver wound done g.last.account
    obtain ⟨since, ended, back, amounts, order, bytes, only⟩ := goodLast_over h g gone byte list
    exact ⟨since, ended, back, amounts, order, bytes, only⟩
  exact ⟨fun more => ends .waitingRun (.inl ⟨g.pends.mpr more, rfl⟩),
    fun none => ends .finishing (.inr ⟨fun more => none (g.pends.mp more), Nat.succ_pos _, rfl⟩)⟩

/-- What a shot whose last frame is cut leaves, with the sub-state that its order enters. -/
structure CutEnd (r : ShotRecord) (f : SetFrame) (s t : State) (sub : SubState) : Prop where
  amounts : ∀ y, y = (r.planned - r.tally.length) * positionPrice s r.slot → y ≤ remaining s r.slot →
    y ≤ committed s (accountIndex s r.slot) →
    remaining t r.slot = remaining s r.slot - y
      ∧ committed t (accountIndex s r.slot) = committed s (accountIndex s r.slot) - y
      ∧ charged t r.slot = charged s r.slot ∧ spent t (accountIndex s r.slot) = spent s (accountIndex s r.slot)
  order : OrderEnters s t r.slot sub 0
  bytes : KeepsBytes s t (LastFrameWrites s r f)
  only : t = { s with mem := t.mem, gate := t.gate, backA := t.backA, backB := t.backB, orders := t.orders
                      lamp := t.lamp, exposure := t.exposure }

theorem CutLast.order {u : State} (g : CutLast r f c e s u t) (he : findOrder s r.slot = some e) : findOrder t r.slot = some e :=
  (findOrder_of_orders (by rw [g.orders])).trans he

/-- An order that goes on after a cut last frame. -/
theorem cutEnd {u : State} {sub : SubState} (h : ClosingLastFrame s r.back r f e) (g : CutLast r f c e s u t)
    (hsub : AnotherShotPends s r ∧ sub = .waitingRun ∨ ¬ AnotherShotPends s r ∧ 0 < e.outstanding ∧ sub = .finishing) :
    CutShown r f c s (afterRecording r.back t) ∧ CutEnd r f s (afterRecording r.back t) sub := by
  have found := g.order (ClosingLastFrame.order h)
  rw [← g.pends] at hsub
  obtain ⟨v, wound, done, byte, list⟩ := lastFrame_goesOn g.last found hsub
  have gone := shotOver wound done g.last.account
  obtain ⟨amounts, order, bytes, only⟩ := cutLast_over h g gone byte list
  exact ⟨cutShown h g gone.tail, amounts, order, bytes, only⟩

/-- Settles O39: the frame is recorded, the back winds on, and the order goes on or completes. -/
theorem lastFrameEndsTheShot : Obligations.LastFrameEndsTheShot := by
  refine ⟨fun s bk r f e hm h good _ slot => ?_, fun s bk r f e c hm h cut _ low none => ?_⟩
  · obtain rfl : r.back = bk := ClosingLastFrame.onBack h
    obtain ⟨more, last⟩ := goodEnd hm h good slot
    refine ⟨_, exec_closeSwitch h, ?_⟩
    generalize afterRecording r.back (recordFrame (closedReady r.back s)) = t at *
    obtain ⟨sub, ends⟩ : ∃ sub, GoodEnd r f s t sub := by
      by_cases pends : AnotherShotPends s r
      · exact ⟨_, more pends⟩
      · exact ⟨_, last pends⟩
    exact ⟨ends.since.code, ends.since.sequence, ends.since.counter, ends.ended, ends.back, ends.since.counts, ends.since.label,
      ends.since.lamp, ends.amounts, fun pends => (more pends).order, fun pends => (last pends).order, ends.bytes, ends.only⟩
  · obtain rfl : r.back = bk := ClosingLastFrame.onBack h
    have g := cutLast hm h cut low none
    refine ⟨_, exec_closeSwitch h, ?_⟩
    generalize closedReady r.back s = u at *
    generalize recordFrame u = t at *
    have more (pends : AnotherShotPends s r) := cutEnd h g (.inl ⟨pends, rfl⟩)
    have last (pends : ¬ AnotherShotPends s r) (labels : 0 < e.outstanding) := cutEnd h g (.inr ⟨pends, labels, rfl⟩)
    have complete (pends : ¬ AnotherShotPends s r) (labels : e.outstanding = 0) :=
      lastFrame_completes g.last (g.order (ClosingLastFrame.order h)) (fun more => pends (g.pends.mp more)) labels
    obtain ⟨code, cause, counter, ended, back⟩ : CutShown r f c s (afterRecording r.back t) := by
      by_cases pends : AnotherShotPends s r
      · exact (more pends).1
      · rcases Nat.eq_zero_or_pos e.outstanding with labels | labels
        · obtain ⟨v, wound, gone⟩ := complete pends labels
          exact cutShown h g (gone.tail wound)
        · exact (last pends labels).1
    have goesOn (hsub : AnotherShotPends s r ∨ 0 < e.outstanding) : ∃ sub, CutEnd r f s (afterRecording r.back t) sub := by
      by_cases pends : AnotherShotPends s r
      · exact ⟨_, (more pends).2⟩
      · exact ⟨_, (last pends (hsub.resolve_left pends)).2⟩
    refine ⟨code, cause, counter, ended, back, fun y hy covered owes hsub => ?_, fun pends => (more pends).2.order,
      fun pends labels => (last pends labels).2.order, fun hsub => ?_, fun pends labels => ?_⟩
    · obtain ⟨sub, ends⟩ := goesOn hsub
      exact ends.amounts y hy covered owes
    · obtain ⟨sub, ends⟩ := goesOn hsub
      exact ⟨ends.bytes, ends.only⟩
    · obtain ⟨v, wound, gone⟩ := complete pends labels
      exact cutLast_completes h g wound gone

end Sys2Proof.Proofs
end
